-- ==== Sys2Proof/Word.lean ====
section
/-! DEFINITION. The word types of the TD-460's link: the byte a data symbol carries, the multi-byte fields of the
frames (chapter 11) and the tags the front-end chooses. -/

namespace Sys2Proof

/-- One byte of a frame's header, payload or CRC (section 1.1). -/
abbrev Byte := BitVec 8

/-- A 2-byte field of a frame (chapter 11). -/
abbrev W16 := BitVec 16

/-- A 4-byte field of a frame (chapter 11). -/
abbrev W32 := BitVec 32

/-- A 16-bit tag chosen by the front-end: a frame tag (section 1.2) or a segment tag (R105). It is only compared and
echoed, never computed with. -/
abbrev Tag := BitVec 16

end Sys2Proof
end

