-- ==== Sys2Proof/Syntax.lean ====
section
/-! DEFINITION. The commands of the TD-460: one constructor of `Instr` for each row of spec/opcode_table.json, with
the operands the row's event carries. A control frame's content is a `Request`, with the fields of chapter 11 at their
widths on the link. -/

namespace Sys2Proof

/-- Eight character codes, stored as sent (R190). -/
structure Chars8 where
  c0 : Byte
  c1 : Byte
  c2 : Byte
  c3 : Byte
  c4 : Byte
  c5 : Byte
  c6 : Byte
  c7 : Byte
  deriving DecidableEq, Repr

/-- A downstream frame as the receiver hands it on: the header's fields and the payload (sections 1.2 and 11.3). The
payload length field is the payload's length. -/
structure Frame where
  kind : Byte
  flags : Byte
  tag : Tag
  reserved : W16
  payload : List Byte
  deriving DecidableEq, Repr

/-- The fields of a header piece, in the order they are carried (section 11.4, TABLE). -/
structure HeaderFields where
  nominal : W16
  tolerance : W16
  minDwell : W32
  inkLimit : W16
  name : Chars8
  check : W16
  deriving DecidableEq, Repr

/-- What a TABLE frame carries after the slot and the piece index (R23): 2-byte values for a grid, curve or matrix
piece, the header fields for piece 121, and bytes whose length is not checked for an index above 121. -/
inductive TableBody where
  | values (vs : List W16)
  | header (h : HeaderFields)
  | unchecked (bs : List Byte)
  deriving DecidableEq, Repr

/-- The fields of LINE_CONFIG (section 11.4). -/
structure LineFields where
  width : W32
  encNum : W16
  encDen : W16
  off2 : W32
  off3 : W32
  off4 : W32
  off5 : W32
  off6 : W32
  ch1 : Byte
  ch2 : Byte
  ch3 : Byte
  ch4 : Byte
  ch5 : Byte
  ch6 : Byte
  nipDist : W32
  arcLen : W32
  countsPerM : W32
  intakeLead : W32
  linkTimeout : W16
  holdMark : W16
  resumeMark : W16
  creep : W16
  accel : W16
  deriving DecidableEq, Repr

/-- The fields of HEAT_CONFIG (section 11.4); temperatures and trims are signed on the link. -/
structure HeatFields where
  idle : W16
  idleBand : W16
  standby : W16
  dHeat : W32
  ramp : Byte
  kp0 : Byte
  kp1 : Byte
  kp2 : Byte
  kp3 : Byte
  ki0 : Byte
  ki1 : Byte
  ki2 : Byte
  ki3 : Byte
  trim0 : W16
  trim1 : W16
  trim2 : W16
  trim3 : W16
  overLimit : W16
  derateCount : Byte
  recoverLimit : W16
  recoverCount : W16
  deriving DecidableEq, Repr

/-- The fields of TENSION_CONFIG (section 11.4); gains in tension-zone order. -/
structure TensionFields where
  paper : W16
  kp0 : Byte
  kp1 : Byte
  kp2 : Byte
  ki0 : Byte
  ki1 : Byte
  ki2 : Byte
  window : W16
  windowCount : Byte
  breakThreshold : W16
  standstill : Byte
  taperLen : W32
  deriving DecidableEq, Repr

/-- The fields of FABRIC_LOAD (section 11.4); the maximum temperature is signed on the link. -/
structure FabricFields where
  slot : Byte
  code : Chars8
  unwind : W16
  rewind : W16
  compliance : W16
  maxTemp : W16
  deriving DecidableEq, Repr

/-- The content of a control frame that passes the form step (R22, R23), apart from its frame tag. -/
inductive Request where
  | table (slot piece : Byte) (body : TableBody)
  | lineConfig (c : LineFields)
  | heatConfig (c : HeatFields)
  | tensionConfig (c : TensionFields)
  | barConfig (bars : Byte)
  | alertConfig (source level grade mode : Byte)
  | alertHold (threshold : Byte)
  | alertClear
  | alertLogReset
  | fabricLoad (c : FabricFields)
  | splice (slot : Byte)
  | profileCommit (slot : Byte)
  | profileDiscard (slot : Byte)
  | segmentOpen (slot : Byte) (seg : Tag) (lines : W16) (gap : W32)
  | segmentAbort (seg : Tag)
  | run (speed : W16)
  | stop
  | clearLine
  | queryCapability
  | querySegment (seg : Tag)
  | queryRunlist
  | queryBank (slot : Byte)
  | queryFabric (slot : Byte)
  | queryZones
  | queryAlerts
  | queryLine
  deriving DecidableEq, Repr

/-- A print bar. The value k stands for bar k + 1: bars are numbered 1..6 in paper order. -/
abbrev Bar := Fin 6

/-- The three tension zones (section 11.2 gives their codes). -/
inductive TensionZone where
  | paperUnwind
  | fabricUnwind
  | rewind
  deriving DecidableEq, Repr

/-- The commands: everything that can reach the part from outside, one constructor for each row of the table.

A constructor that stands for a control frame (`malformedControlFrame`, `table`, and every command and query) is the
arrival at the control buffers of a CRC-good frame with that content (R5); `tag` is its frame tag. The same frame sent
symbol by symbol reaches the buffers through `endMark`. The other constructors are the symbols of the downstream lane,
the transmitter's progress, the timers' expiries, the samples and the input pins. -/
inductive Instr where
  /-- START_MARK (R1). -/
  | startMark
  /-- DATA_SYMBOL (R1). -/
  | dataSymbol (b : Byte)
  /-- IDLE_FILL (R1). -/
  | idleFill
  /-- END_MARK (R3). -/
  | endMark
  /-- ABORT_MARK (R4). -/
  | abortMark
  /-- MALFORMED_CONTROL_FRAME (R22): a frame that fails the form step. -/
  | malformedControlFrame (f : Frame)
  /-- TABLE (R39). -/
  | table (tag : Tag) (slot piece : Byte) (body : TableBody)
  /-- LINE_CONFIG (R88). -/
  | lineConfig (tag : Tag) (c : LineFields)
  /-- HEAT_CONFIG (R150). -/
  | heatConfig (tag : Tag) (c : HeatFields)
  /-- TENSION_CONFIG (R78). -/
  | tensionConfig (tag : Tag) (c : TensionFields)
  /-- BAR_CONFIG (R143). -/
  | barConfig (tag : Tag) (bars : Byte)
  /-- ALERT_CONFIG (R168). -/
  | alertConfig (tag : Tag) (source level grade mode : Byte)
  /-- ALERT_HOLD (R175). -/
  | alertHold (tag : Tag) (threshold : Byte)
  /-- ALERT_CLEAR (R181). -/
  | alertClear (tag : Tag)
  /-- ALERT_LOG_RESET (R174). -/
  | alertLogReset (tag : Tag)
  /-- FABRIC_LOAD (R70). -/
  | fabricLoad (tag : Tag) (c : FabricFields)
  /-- SPLICE (R71). -/
  | splice (tag : Tag) (slot : Byte)
  /-- PROFILE_COMMIT (R41). -/
  | profileCommit (tag : Tag) (slot : Byte)
  /-- BANK_CHECK_END (R43). -/
  | bankCheckEnd
  /-- PROFILE_DISCARD (R46). -/
  | profileDiscard (tag : Tag) (slot : Byte)
  /-- SEGMENT_OPEN (R108). -/
  | segmentOpen (tag : Tag) (slot : Byte) (seg : Tag) (lines : W16) (gap : W32)
  /-- SEGMENT_ABORT (R120). -/
  | segmentAbort (tag : Tag) (seg : Tag)
  /-- RUN (R92). -/
  | run (tag : Tag) (speed : W16)
  /-- STOP (R94). -/
  | stop (tag : Tag)
  /-- CLEAR_LINE (R127). -/
  | clearLine (tag : Tag)
  /-- QUERY_CAPABILITY (R34). -/
  | queryCapability (tag : Tag)
  /-- QUERY_SEGMENT (R33). -/
  | querySegment (tag : Tag) (seg : Tag)
  /-- QUERY_RUNLIST (R33). -/
  | queryRunlist (tag : Tag)
  /-- QUERY_BANK (R33). -/
  | queryBank (tag : Tag) (slot : Byte)
  /-- QUERY_FABRIC (R84). -/
  | queryFabric (tag : Tag) (slot : Byte)
  /-- QUERY_ZONES (R84). -/
  | queryZones (tag : Tag)
  /-- QUERY_ALERTS (R187). -/
  | queryAlerts (tag : Tag)
  /-- QUERY_LINE (R33). -/
  | queryLine (tag : Tag)
  /-- FRAME_SENT (R14): the upstream end mark has been sent. -/
  | frameSent
  /-- GAP_END (R14): the four idle symbols of the upstream gap have been sent. -/
  | gapEnd
  /-- LINK_TIMEOUT (R20): the link timer expires. -/
  | linkTimeout
  /-- ENCODER_EDGE (R85): the encoder inputs take the levels a and b. -/
  | encoderEdge (a b : Bool)
  /-- LINE_SAMPLE (R98): the 50 ms line-sample timer expires. -/
  | lineSample
  /-- DRIVE_FAULT_INPUT (R102): the drive fault input takes the level given. -/
  | driveFaultInput (asserted : Bool)
  /-- BAR_FAULT_INPUT (R140): a bar's fault input takes the level given. -/
  | barFaultInput (bar : Bar) (asserted : Bool)
  /-- TENSION_READING (R77): a load-cell reading in dN. -/
  | tensionReading (zone : TensionZone) (reading : Nat)
  /-- TENSION_MISSING_TIMEOUT (R81): a zone's missing timer expires. -/
  | tensionMissingTimeout (zone : TensionZone)
  /-- HEAT_SAMPLE (R149): a sample set, one entry for each heat zone, absent or in d°C. -/
  | heatSample (z0 z1 z2 z3 : Option Int)
  /-- HEAT_SAMPLE_TIMEOUT (R149): the 250 ms sample timer expires without a set. -/
  | heatSampleTimeout
  /-- HARDWARE_RESET (R188). -/
  | hardwareReset
  deriving DecidableEq, Repr

end Sys2Proof
end

