-- ==== Sys2Proof/Decode.lean ====
section
/-! DEFINITION. The command a word of the opcode table spells. The table gives no row any bits: the part takes events,
and the content of a control frame is read byte for byte by `Sys2Proof.Machine.readRequest`. -/

namespace Sys2Proof

/-- The command spelt by a word of `nbits` bits. No row of spec/opcode_table.json gives bits, so no word spells a
command (notes/assumptions/5.md). -/
def decodeTableWord (_nbits _w : Nat) : Option Instr :=
  none

end Sys2Proof
end

