-- ==== Sys2Proof/Config.lean ====
section
/-! DEFINITION. What the TD-460 fixes for every part (capacities and limits, R34 and the rules cited below), and the
one free value of the model. -/

namespace Sys2Proof.Config

/-- Line entries of the ring behind the DRAM port (R34, R129). -/
def ringEntries : Nat := 16384

/-- Places of the run list (R34, R106). -/
def runListPlaces : Nat := 32

/-- Answer slots of the transmitter (R16). -/
def answerSlots : Nat := 4

/-- Places of the notice queue (R17, R34). -/
def noticePlaces : Nat := 8

/-- The largest payload a frame may state (R1, R5). -/
def maxPayload : Nat := 3084

/-- The most pixels one LINE frame carries (R8). -/
def maxPixels : Nat := 1024

/-- Idle fill symbols required between two frames (R1). -/
def gapSymbols : Nat := 4

/-- The counter's maximum, 2^48 − 1 (R85). -/
def maxPosition : Nat := 281474976710655

/-- The smallest pitch, 1.0 count per line in 8.16 fixed point (R87). -/
def minPitch : Nat := 65536

/-- The largest pitch (R87, R89). -/
def maxPitch : Nat := 16777215

/-- One count in 8.16 fixed point (R90). -/
def pitchOne : Nat := 65536

/-- The largest span from bar 1 to bar 6, in dot lines of unstretched paper (R87). -/
def maxSpanLines : Nat := 12288

/-- The largest stretch figure, ppm (R72). -/
def maxStretch : Nat := 200000

/-- Pieces of a bank (R38). -/
def pieces : Nat := 122

/-- d°C of needed temperature that one grade takes off (R107). -/
def gradeStep : Nat := 40

/-- The period of a tension zone's missing timer, ms (R81). -/
def missingTimeout : Nat := 50

/-- FREE VALUE (notes/assumptions/1.md). Where one event begins a condition at several units at once and the spec
says that the units may be taken in any order (R149, R155, R158; likewise R142 at a BAR_CONFIG or a reset), the unit
named in the context is not determined. The n-th such choice takes the unit at place `freeChoice n` modulo the number
of candidates. The constant has no body that a proof can use. -/
opaque freeChoice : Nat → Nat

end Sys2Proof.Config
end

