-- ==== Sys2Proof/Machine/State.lean ====
section
/-! DEFINITION. The state of the TD-460, block by block as the opening chapter's block summary lists it, and the state
right after hardware reset. Every field is plain data. Fields that are the model's own, not the spec's, say so. -/

namespace Sys2Proof.Machine

/-! ### Names of states, codes and sources -/

/-- The line modes (section 6.4). -/
inductive LineMode where
  | standby | warmup | run | stopping | halted
  deriving DecidableEq, Repr

/-- The stop cause, which has meaning in STOPPING (section 6.4). -/
inductive StopCause where
  | directive | reaction
  deriving DecidableEq, Repr

/-- The receive states of LRX (R1). -/
inductive RxState where
  | hunt | header | payload | trailer | skip
  deriving DecidableEq, Repr

/-- The answer codes (section 2.7). -/
inductive AnswerCode where
  | accepted | busy | malformed | outOfRange | wrongMode | unknownSegment | duplicateTag | listFull | noProfile
  | noFabric | bankBusy | incomplete | checkFail | outOfOrder | late | storeFull | held | slotInUse | alertActive
  | notFound
  deriving DecidableEq, Repr

/-- The two banks of a profile slot (section 3.1). -/
inductive BankId where
  | a | b
  deriving DecidableEq, Repr

/-- The bank states (section 3.1). -/
inductive BankState where
  | free | staging | checking | active | draining
  deriving DecidableEq, Repr

/-- The fill states of a segment (R105). -/
inductive FillState where
  | filling | sealed
  deriving DecidableEq, Repr

/-- The print states of a segment (R105). -/
inductive PrintState where
  | waiting | printing | printed
  deriving DecidableEq, Repr

/-- The calender states of a segment (R105). -/
inductive CalenderState where
  | approach | inArc | retired
  deriving DecidableEq, Repr

/-- The states of a line entry (R129). -/
inductive EntryState where
  | filling | ready | void
  deriving DecidableEq, Repr

/-- The states of a bar (R140). -/
inductive BarState where
  | off | active | faulted
  deriving DecidableEq, Repr

/-- The reaction grades, in rising order (R167). -/
inductive Grade where
  | note | holdIntake | slow | stop
  deriving DecidableEq, Repr

/-- The serving modes (R168). -/
inductive ServingMode where
  | latched | fast
  deriving DecidableEq, Repr

/-- The link subcodes of a context (R172). -/
inductive LinkSubcode where
  | framing | crc | answerOverrun | timeout
  deriving DecidableEq, Repr

/-- The thirteen alert sources (R167); `AlertSource.index` gives their numbers. -/
inductive AlertSource where
  | webBreak | overTemp | driveFault | linkLost | heatSensor | heatOffBand | tensionWindow | barFault
  | lineLost | dwellShort | linkError | profileCheck | gradeChange
  deriving DecidableEq, Repr

/-- Where the heat target comes from (R151, last column). -/
inductive HeatSource where
  | standby
  | idle
  | segment (tag : Tag)
  deriving DecidableEq, Repr

/-! ### The link (LRX, CMU, LTX) -/

/-- What has been decided about the LINE frame in reception (section 1.5). -/
inductive LineRx where
  /-- No LINE frame in reception, or its form is not checked yet. -/
  | undecided
  /-- Accepted at the cursor check (R9): the line fields, and whether a slot is held for ANSWER_ALWAYS (R10). -/
  | accepted (seg : Tag) (line offset count : Nat) (slot : Bool)
  /-- Refused with a code; an answer slot is held for the answer (R10, R13). -/
  | refused (code : AnswerCode)
  /-- Discarded without effect because no slot was free (R10). -/
  | dropped
  deriving DecidableEq, Repr

/-- LRX: the receive state with the frame in reception, the two control buffers and the link timer (R1 to R7, R20). -/
structure Lrx where
  /-- The receive state (R1). -/
  state : RxState
  /-- The idle count of HUNT (R1). -/
  idle : Nat
  /-- The header bytes received so far (R1). -/
  header : List Byte
  /-- The payload bytes received so far (R1). -/
  payload : List Byte
  /-- The received CRC bytes (R1). -/
  trailer : List Byte
  /-- The running CRC over header and payload (R1, R192). -/
  crc : BitVec 16
  /-- The LINE frame in reception (section 1.5). -/
  line : LineRx
  /-- The intake buffer, `none` when EMPTY (R5). -/
  intake : Option Frame
  /-- The execute buffer, `none` when EMPTY (R5). -/
  execute : Option Frame
  /-- The link timer: `none` when stopped, else the timeout in ms it was last started from (R20). -/
  timer : Option Nat
  deriving DecidableEq, Repr

/-- An answer, complete (R30, R191). -/
structure Answer where
  tag : Tag
  kind : Byte
  cmd : Byte
  code : AnswerCode
  detail : Nat
  /-- The reply record's bytes, empty unless a query was answered ACCEPTED. -/
  reply : List Byte
  deriving DecidableEq, Repr

/-- The unit of a context (R172). -/
inductive CtxUnit where
  | heatZone (z : Fin 4)
  | tensionZone (z : TensionZone)
  | bar (k : Bar)
  | profileSlot (slot : Fin 8) (bank : BankId)
  deriving DecidableEq, Repr

/-- The link part of a context (R172). -/
structure LinkPart where
  subcode : LinkSubcode
  kind : Byte
  tag : Tag
  deriving DecidableEq, Repr

/-- A context (R172). -/
structure Context where
  seg : Option Tag
  unit : Option CtxUnit
  link : Option LinkPart
  /-- The paper position when the owner raised the source. -/
  p : Nat
  /-- The measured value. -/
  measured : Int
  deriving DecidableEq, Repr

/-- A notice (R186). -/
structure Notice where
  source : AlertSource
  level : Fin 4
  grade : Grade
  mode : ServingMode
  merge : Nat
  depth : Nat
  ctx : Context
  deriving DecidableEq, Repr

/-- The item a frame in SENDING was chosen for (R14, R15). -/
inductive TxItem where
  | answer
  | hold
  | resume
  | notice
  | trace (tag : Tag)
  deriving DecidableEq, Repr

/-- The transmit states of LTX (R14); in SENDING the frame's bytes, from the header to the CRC. -/
inductive TxState where
  | idle
  | sending (item : TxItem) (bytes : List Byte)
  | gap
  deriving DecidableEq, Repr

/-- LTX: transmit state, answer queue, notice queue, overrun flag and flow state (R14 to R19). -/
structure Ltx where
  tx : TxState
  /-- Queued answers, oldest first (R16). -/
  answers : List Answer
  /-- Queued notices, oldest first (R17). -/
  notices : List Notice
  /-- The notice overrun flag (R17). -/
  overrun : Bool
  /-- The flow state is HELD; clear means RESUMED (R19). -/
  flowHeld : Bool
  deriving DecidableEq, Repr

/-- The line group of LINE_CONFIG (R24, R88), with the base pitch computed from it (R87). -/
structure LineGroup where
  /-- The configured width; 0 until the first accepted LINE_CONFIG (R26, R88). -/
  width : Nat
  encNum : Nat
  encDen : Nat
  /-- The base pitch (R87). -/
  base : Nat
  /-- The bar offsets; bar 1's is 0 (R24). -/
  offsets : Vector Nat 6
  /-- The channel map: the ink channel of each bar (R145). -/
  channels : Vector (Fin 6) 6
  nipDist : Nat
  arcLen : Nat
  countsPerM : Nat
  intakeLead : Nat
  /-- The link timeout, ms (R20). -/
  linkTimeout : Nat
  holdMark : Nat
  resumeMark : Nat
  creep : Nat
  accel : Nat
  deriving DecidableEq, Repr

/-! ### The profile store (PFS) -/

/-- The header fields as stored (R37, R40). -/
structure Header where
  nominal : Nat
  tolerance : Nat
  minDwell : Nat
  inkLimit : Nat
  name : Chars8
  check : Nat
  deriving DecidableEq, Repr

/-- The stored values of one piece (R37). -/
inductive Piece where
  | values (vs : List Nat)
  | header (h : Header)
  deriving DecidableEq, Repr

/-- A bank: state, reference count and stored pieces (R35). The piece set is the set of the listed indices (R38). -/
structure Bank where
  state : BankState
  count : Nat
  /-- Piece index and stored values, indices strictly rising. Empty when FREE, since a FREE bank's values are
  unreadable (R35). -/
  pieces : List (Nat × Piece)
  deriving DecidableEq, Repr

/-- A profile slot: its two banks (section 3.1). -/
structure Slot where
  a : Bank
  b : Bank
  deriving DecidableEq, Repr

/-- PFS: eight slots, and the bank check in progress (R35, R41). -/
structure Pfs where
  slots : Vector Slot 8
  /-- The slot and bank under check (R41). -/
  check : Option (Fin 8 × BankId)
  deriving DecidableEq, Repr

/-! ### Colour path, line store and bars (CPA, LST, BSQ) -/

/-- The fill cursor (R51). -/
structure FillCursor where
  tag : Tag
  line : Nat
  pixel : Nat
  deriving DecidableEq, Repr

/-- The six drop levels of one pixel position, by channel (R57). -/
abbrev Drops := Vector Nat 6

/-- A line entry (R129). -/
structure Entry where
  tag : Tag
  line : Nat
  state : EntryState
  /-- The written pixels, from position 0 on (R59). -/
  written : List Drops
  /-- The provisional pixels of the frame in reception, following the written ones (R57, R58). -/
  provisional : List Drops
  deriving DecidableEq, Repr

/-- One bar of BSQ: state, cursor, fault input and port (R134, R140). -/
structure BarUnit where
  state : BarState
  /-- The tag and line number of the next line the bar will handle; `none` for END and for an OFF bar (R134). -/
  cursor : Option (Tag × Nat)
  /-- The bar fault input's level (pin). -/
  fault : Bool
  /-- The bar port: the lines handed to it in the event of the latest increase of P, each as the drop levels at every
  pixel position (R136). -/
  port : List (List Nat)
  deriving DecidableEq, Repr

/-! ### The run list (RLS) -/

/-- The flags of a record (R119). -/
structure Flags where
  lostLines : Bool
  aborted : Bool
  spoiled : Bool
  offBand : Bool
  dwellShort : Bool
  barMissed : Bool
  pitchClamped : Bool
  deriving DecidableEq, Repr

/-- A run-list record (R105), with the dwell counter that MOU keeps for it (R101). -/
structure Segment where
  tag : Tag
  width : Nat
  lines : Nat
  gap : Nat
  start : Nat
  pitch : Nat
  length : Nat
  slot : Fin 8
  bank : BankId
  grade : Nat
  needed : Int
  tolerance : Nat
  minDwell : Nat
  fabric : Fin 16
  stretch : Nat
  fill : FillState
  print : PrintState
  calender : CalenderState
  /-- The printed-by set, by bar (R114). -/
  printedBy : Vector Bool 6
  lost : Nat
  flags : Flags
  traceSent : Bool
  /-- MOU's dwell counter for the record, while it keeps one (R101). -/
  dwell : Option Nat
  deriving DecidableEq, Repr

/-! ### Motion, heat and tension (MOU, HTC, TNC) -/

/-- MOU (R85, R98, R100, R103), with the encoder and drive-fault inputs. -/
structure Mou where
  /-- The paper position P (R85). -/
  p : Nat
  /-- P at the last line sample (R98). -/
  pLast : Nat
  mode : LineMode
  /-- The nip output is driven closed (R91). -/
  nipClosed : Bool
  requested : Nat
  cause : StopCause
  target : Nat
  /-- The speed reference, driven at its output (R100). -/
  reference : Nat
  /-- The measured speed v (R98). -/
  speed : Nat
  /-- The level of encoder input A (pin). -/
  encA : Bool
  /-- The level of encoder input B (pin). -/
  encB : Bool
  /-- The level of the drive fault input (pin). -/
  driveFault : Bool
  deriving DecidableEq, Repr

/-- The heat group of HEAT_CONFIG (R150). -/
structure HeatGroup where
  idle : Int
  idleBand : Nat
  standby : Int
  dHeat : Nat
  ramp : Nat
  kp : Vector Nat 4
  ki : Vector Nat 4
  trim : Vector Int 4
  overLimit : Int
  derateCount : Nat
  recoverLimit : Nat
  recoverCount : Nat
  deriving DecidableEq, Repr

/-- A heat zone record (R148); its trim is the heat group's. -/
structure HeatZone where
  measured : Int
  setpoint : Int
  /-- The heater output, driven at the zone's port (R148). -/
  output : Int
  integ : Int
  sat : Nat
  recov : Nat
  missCount : Nat
  missing : Bool
  overTemp : Bool
  first : Bool
  deriving DecidableEq, Repr

/-- HTC (R148, R151, R152, R164). -/
structure Htc where
  group : HeatGroup
  zones : Vector HeatZone 4
  grade : Nat
  pHigh : Nat
  target : Int
  band : Nat
  source : HeatSource
  deriving DecidableEq, Repr

/-- A fabric record (R68), without the valid flag. -/
structure Fabric where
  code : Chars8
  unwind : Nat
  rewind : Nat
  compliance : Nat
  maxTemp : Int
  deriving DecidableEq, Repr

/-- A fabric slot: its record, `none` while the valid flag is clear, and its segment count (R68). -/
structure FabricSlot where
  record : Option Fabric
  segs : Nat
  deriving DecidableEq, Repr

/-- A running taper (R74). -/
structure Taper where
  fromUnwind : Int
  fromRewind : Int
  newFabric : Fin 16
  prevFabric : Fin 16
  t0 : Int
  length : Nat
  q : Int
  deriving DecidableEq, Repr

/-- The tension group of TENSION_CONFIG (R78). -/
structure TensionGroup where
  paper : Nat
  kp : Vector Nat 3
  ki : Vector Nat 3
  window : Nat
  windowCount : Nat
  breakThreshold : Nat
  standstill : Nat
  taperLen : Nat
  deriving DecidableEq, Repr

/-- A tension zone record (R77). -/
structure TensionRec where
  target : Int
  last : Nat
  /-- The trim output, driven at the zone's port (R77). -/
  output : Int
  integ : Int
  windowCounter : Nat
  windowFlag : Bool
  breakCounter : Nat
  breakFlag : Bool
  /-- The missing timer: `none` when it has expired and waits for a reading, else the ms it was started from (R81). -/
  timer : Option Nat
  missing : Bool
  deriving DecidableEq, Repr

/-- TNC (R68, R71, R73, R74, R77, R78). -/
structure Tnc where
  fabrics : Vector FabricSlot 16
  intake : Option (Fin 16)
  /-- The tension source: `none` for INTAKE (R73). -/
  source : Option Tag
  /-- The tension fabric (R73). -/
  tension : Option (Fin 16)
  taper : Option Taper
  zones : Vector TensionRec 3
  group : TensionGroup
  deriving DecidableEq, Repr

/-! ### The alert controller (ALC) -/

/-- The configuration of a source; level `none` is OFF (R168). -/
structure SourceConfig where
  level : Option (Fin 4)
  grade : Grade
  mode : ServingMode
  deriving DecidableEq, Repr

/-- A pending occurrence: merge count and context (R171). -/
structure Occurrence where
  merge : Nat
  ctx : Context
  deriving DecidableEq, Repr

/-- An entry of the service stack (R179). -/
structure StackEntry where
  source : AlertSource
  level : Fin 4
  grade : Grade
  merge : Nat
  ctx : Context
  deriving DecidableEq, Repr

/-- ALC (R168 to R180). -/
structure Alc where
  config : Vector SourceConfig 13
  /-- The holds flags of the condition sources (R170). -/
  holds : Vector Bool 13
  /-- The stored contexts of the condition sources (R172). -/
  condCtx : Vector (Option Context) 13
  /-- The pending occurrences (R171). -/
  occ : Vector (Option Occurrence) 13
  /-- The service stack, top first (R180). -/
  stack : List StackEntry
  /-- The hold threshold H (R175). -/
  threshold : Fin 4
  /-- The first-alert record (R173). -/
  firstAlert : Option (AlertSource × Context)
  /-- The later-alert set (R173). -/
  later : Vector Bool 13
  /-- The reaction in force as last handed on (R183). -/
  reaction : Grade
  /-- MODEL's own: the sources that have become pending in the event in progress. Empty between events. -/
  fresh : List AlertSource
  /-- MODEL's own: the event in progress is an evaluation point of itself (R177). Clear between events. -/
  evalDue : Bool
  deriving DecidableEq, Repr

/-! ### The whole -/

/-- The state of the part. -/
structure State where
  lrx : Lrx
  /-- An answer slot is held by CMU for the frame in the execute buffer (R6, R16). -/
  cmuSlot : Bool
  ltx : Ltx
  line : LineGroup
  pfs : Pfs
  /-- The fill cursor; `none` when absent (R51). -/
  cpa : Option FillCursor
  /-- The line entries in use, oldest first (R129). -/
  lst : List Entry
  bars : Vector BarUnit 6
  /-- The run list, oldest record first (R106). -/
  rls : List Segment
  mou : Mou
  htc : Htc
  tnc : Tnc
  alc : Alc
  /-- MODEL's own: how many choices the spec leaves open have been taken (`Config.freeChoice`). -/
  choices : Nat
  /-- MODEL's own: the commands waiting, first in, first out. -/
  pending : List Instr
  deriving DecidableEq, Repr

/-- The part stops with no fault: every error it detects is an answer code or an alert (chapters 2 and 10), so no
command of this model ends in a fault and the type has no constructor. -/
inductive Fault where
  deriving DecidableEq, Repr

/-- The refusals of the model. -/
inductive Refusal where
  /-- Raised by the dispatch for a command that has no meaning yet; no command of this model is left so. Safe: a run
  stops there and nothing is claimed of it. -/
  | notModelled (mnemonic : String)
  deriving DecidableEq, Repr

/-! ### The state after hardware reset -/

/-- LRX after hardware reset (R1, R5, R20): HUNT with nothing counted, both buffers EMPTY, the timer stopped. -/
def Lrx.reset : Lrx where
  state := .hunt
  idle := 0
  header := []
  payload := []
  trailer := []
  crc := 0xFFFF
  line := .undecided
  intake := none
  execute := none
  timer := none

/-- LTX after hardware reset (R14, R16, R17, R19). -/
def Ltx.reset : Ltx where
  tx := .idle
  answers := []
  notices := []
  overrun := false
  flowHeld := false

/-- The line group after hardware reset (R88). -/
def LineGroup.reset : LineGroup where
  width := 0
  encNum := 1
  encDen := 1
  base := 65536
  offsets := #v[0, 0, 0, 0, 0, 0]
  channels := #v[0, 1, 2, 3, 4, 5]
  nipDist := 0
  arcLen := 0
  countsPerM := 1000
  intakeLead := 0
  linkTimeout := 500
  holdMark := 1024
  resumeMark := 2048
  creep := 10
  accel := 10

/-- A FREE bank (R35, R49). -/
def Bank.free : Bank where
  state := .free
  count := 0
  pieces := []

/-- PFS after hardware reset (R49). -/
def Pfs.reset : Pfs where
  slots := Vector.replicate 8 { a := Bank.free, b := Bank.free }
  check := none

/-- A bar after hardware reset (R146): enabled, FAULTED exactly when its fault input is asserted, cursor at END. -/
def BarUnit.reset (fault : Bool) : BarUnit where
  state := if fault then .faulted else .active
  cursor := none
  fault := fault
  port := []

/-- MOU after hardware reset (R103), with the levels found at the encoder and drive-fault inputs. -/
def Mou.reset (encA encB driveFault : Bool) : Mou where
  p := 0
  pLast := 0
  mode := .standby
  nipClosed := false
  requested := 0
  cause := .directive
  target := 0
  reference := 0
  speed := 0
  encA := encA
  encB := encB
  driveFault := driveFault

/-- The heat group's defaults (R150). -/
def HeatGroup.reset : HeatGroup where
  idle := 1800
  idleBand := 50
  standby := 800
  dHeat := 0
  ramp := 10
  kp := #v[64, 64, 64, 64]
  ki := #v[4, 4, 4, 4]
  trim := #v[0, 0, 0, 0]
  overLimit := 2450
  derateCount := 40
  recoverLimit := 800
  recoverCount := 480

/-- A heat zone after hardware reset (R165). -/
def HeatZone.reset : HeatZone where
  measured := 0
  setpoint := 0
  output := 0
  integ := 0
  sat := 0
  recov := 0
  missCount := 0
  missing := false
  overTemp := false
  first := false

/-- HTC after hardware reset (R165). -/
def Htc.reset : Htc where
  group := HeatGroup.reset
  zones := Vector.replicate 4 HeatZone.reset
  grade := 0
  pHigh := 0
  target := 1800
  band := 50
  source := .idle

/-- The tension group's defaults (R78). -/
def TensionGroup.reset : TensionGroup where
  paper := 1000
  kp := #v[32, 32, 32]
  ki := #v[2, 2, 2]
  window := 400
  windowCount := 50
  breakThreshold := 150
  standstill := 40
  taperLen := 10000

/-- A tension zone after hardware reset (R82), with its target. -/
def TensionRec.reset (target : Int) : TensionRec where
  target := target
  last := 0
  output := 0
  integ := 0
  windowCounter := 0
  windowFlag := false
  breakCounter := 0
  breakFlag := false
  timer := some Config.missingTimeout
  missing := false

/-- TNC after hardware reset (R82): the paper zone's target is the default paper setpoint scaled for STANDBY. -/
def Tnc.reset : Tnc where
  fabrics := Vector.replicate 16 { record := none, segs := 0 }
  intake := none
  source := none
  tension := none
  taper := none
  zones := #v[TensionRec.reset 400, TensionRec.reset 0, TensionRec.reset 0]
  group := TensionGroup.reset

/-- The default source configurations (R167), in source order. -/
def defaultConfig : Vector SourceConfig 13 :=
  #v[{ level := some 3, grade := .stop, mode := .latched },
     { level := some 3, grade := .stop, mode := .latched },
     { level := some 3, grade := .stop, mode := .latched },
     { level := some 2, grade := .slow, mode := .latched },
     { level := some 2, grade := .slow, mode := .latched },
     { level := some 1, grade := .note, mode := .latched },
     { level := some 1, grade := .note, mode := .latched },
     { level := some 2, grade := .holdIntake, mode := .latched },
     { level := some 0, grade := .note, mode := .fast },
     { level := some 0, grade := .note, mode := .fast },
     { level := some 1, grade := .note, mode := .fast },
     { level := some 0, grade := .note, mode := .fast },
     { level := some 0, grade := .note, mode := .fast }]

/-- ALC after hardware reset, before the conditions that hold at the reset begin (R188). -/
def Alc.reset : Alc where
  config := defaultConfig
  holds := Vector.replicate 13 false
  condCtx := Vector.replicate 13 none
  occ := Vector.replicate 13 none
  stack := []
  threshold := 0
  firstAlert := none
  later := Vector.replicate 13 false
  reaction := .note
  fresh := []
  evalDue := false

/-- The machine right after hardware reset, with every input pin low (notes/assumptions/2.md): the values of R1, R5,
R14, R16, R17, R19, R20, R49, R56, R82, R88, R103, R128, R146, R165 and R188. -/
def State.reset : State where
  lrx := Lrx.reset
  cmuSlot := false
  ltx := Ltx.reset
  line := LineGroup.reset
  pfs := Pfs.reset
  cpa := none
  lst := []
  bars := Vector.replicate 6 (BarUnit.reset false)
  rls := []
  mou := Mou.reset false false false
  htc := Htc.reset
  tnc := Tnc.reset
  alc := Alc.reset
  choices := 0
  pending := []

end Sys2Proof.Machine
end

