-- ==== Sys2Proof/Machine/Bytes.lean ====
section
/-! DEFINITION. Bytes and fields: big-endian numbers (section Conventions), field lists, and the link CRC (R192). -/

namespace Sys2Proof.Machine

/-- The value of a big-endian run of bytes. -/
def beNat (bs : List Byte) : Nat :=
  bs.foldl (fun acc b => acc * 256 + b.toNat) 0

/-- The low `n` bytes of a number, most significant first. -/
def beBytes : Nat → Nat → List Byte
  | 0, _ => []
  | n + 1, x => BitVec.ofNat 8 (x / 256 ^ n) :: beBytes n x

/-- A signed number in two's complement over `n` bytes (R190). -/
def beIntBytes (n : Nat) (x : Int) : List Byte :=
  beBytes n (x % (256 ^ n : Nat)).toNat

/-- A one-byte bit: 1 when set. -/
def flagByte (b : Bool) : List Byte :=
  if b then [1] else [0]

/-- Reads a payload as fields of the widths given, in bytes; `none` unless the widths use it up exactly. -/
def readFields : List Nat → List Byte → Option (List Nat)
  | [], [] => some []
  | [], _ :: _ => none
  | w :: ws, bs =>
    if bs.length < w then none
    else
      match readFields ws (bs.drop w) with
      | some vs => some (beNat (bs.take w) :: vs)
      | none => none

/-- The bytes of fields given as (width in bytes, value). -/
def writeFields : List (Nat × Nat) → List Byte
  | [] => []
  | (w, v) :: rest => beBytes w v ++ writeFields rest

/-- One of the eight shifts of R192: the running value moves one place up, and takes the generator when the bit
leaving the top was 1. -/
def crcShift (c : BitVec 16) : BitVec 16 :=
  if c.msb then (c <<< 1) ^^^ 0x1021#16 else c <<< 1

/-- The running CRC after one more byte (R192, steps 2 and 3). -/
def crcByte (c : BitVec 16) (b : Byte) : BitVec 16 :=
  crcShift (crcShift (crcShift (crcShift (crcShift (crcShift (crcShift (crcShift
    (c ^^^ (b.zeroExtend 16 <<< 8)))))))))

/-- The CRC of a run of bytes (R192). -/
def crcOf (bs : List Byte) : BitVec 16 :=
  bs.foldl crcByte 0xFFFF#16

/-- The two bytes of a CRC, most significant first (R192). -/
def crcBytes (c : BitVec 16) : List Byte :=
  beBytes 2 c.toNat

end Sys2Proof.Machine
end

