-- ==== Sys2Proof/Machine/Frames.lean ====
section
/-! DEFINITION. The content of downstream control frames: the form step of CMU (R22, R23), which reads a frame as a
`Request`, and the frame that carries a request (section 11.4). -/

namespace Sys2Proof.Machine

/-- The frame kinds of the downstream lane (section 11.2). -/
def kindLine : Byte := 0x01
def kindTable : Byte := 0x02
def kindCommand : Byte := 0x03
def kindQuery : Byte := 0x04

/-- The eight bytes of a character field. -/
def charsBytes (c : Chars8) : List Byte :=
  [c.c0, c.c1, c.c2, c.c3, c.c4, c.c5, c.c6, c.c7]

/-- The character field of eight bytes. -/
def charsOf : List Byte → Option Chars8
  | [c0, c1, c2, c3, c4, c5, c6, c7] => some ⟨c0, c1, c2, c3, c4, c5, c6, c7⟩
  | _ => none

/-- How many 2-byte values a grid, curve or matrix piece carries (R23). -/
def pieceValues (piece : Nat) : Nat :=
  if piece ≤ 80 then 54 else if piece ≤ 104 then 17 else 16

/-- A run of 2-byte values. -/
def readWords (n : Nat) (bs : List Byte) : Option (List W16) :=
  match readFields (List.replicate n 2) bs with
  | some vs => some (vs.map (BitVec.ofNat 16))
  | none => none

/-- The bytes of a run of 2-byte values. -/
def wordsBytes (vs : List W16) : List Byte :=
  writeFields (vs.map fun v => (2, v.toNat))

/-- A header piece: nominal temperature, tolerance, min dwell, ink limit, name, expected check word (section 11.4). -/
def readHeader (bs : List Byte) : Option HeaderFields :=
  match readFields [2, 2, 4, 2] (bs.take 10), charsOf ((bs.drop 10).take 8), readFields [2] (bs.drop 18) with
  | some [nominal, tolerance, minDwell, inkLimit], some name, some [check] =>
    some ⟨.ofNat 16 nominal, .ofNat 16 tolerance, .ofNat 32 minDwell, .ofNat 16 inkLimit, name, .ofNat 16 check⟩
  | _, _, _ => none

/-- The bytes of a header piece. -/
def headerBytes (h : HeaderFields) : List Byte :=
  writeFields [(2, h.nominal.toNat), (2, h.tolerance.toNat), (4, h.minDwell.toNat), (2, h.inkLimit.toNat)]
    ++ charsBytes h.name ++ writeFields [(2, h.check.toNat)]

/-- The body of a TABLE frame for a piece index (R23): the length must fit the piece kind, and is not checked for an
index above 121. -/
def readTableBody (piece : Byte) (bs : List Byte) : Option TableBody :=
  if piece.toNat ≤ 120 then (readWords (pieceValues piece.toNat) bs).map .values
  else if piece.toNat = 121 then (readHeader bs).map .header
  else some (.unchecked bs)

/-- The bytes of a TABLE body. -/
def tableBodyBytes : TableBody → List Byte
  | .values vs => wordsBytes vs
  | .header h => headerBytes h
  | .unchecked bs => bs

/-- The form step for a TABLE frame (R23). -/
def readTable : List Byte → Option Request
  | slot :: piece :: rest => (readTableBody piece rest).map (.table slot piece)
  | _ => none

/-- The widths of LINE_CONFIG's fields (section 11.4). -/
def lineWidths : List Nat :=
  [4, 2, 2, 4, 4, 4, 4, 4, 1, 1, 1, 1, 1, 1, 4, 4, 4, 4, 2, 2, 2, 2, 2]

/-- LINE_CONFIG's fields (section 11.4). -/
def readLineFields (bs : List Byte) : Option LineFields :=
  match readFields lineWidths bs with
  | some [w, en, ed, o2, o3, o4, o5, o6, c1, c2, c3, c4, c5, c6, nip, arc, cpm, lead, lt, hm, rm, cr, ac] =>
    some ⟨.ofNat 32 w, .ofNat 16 en, .ofNat 16 ed, .ofNat 32 o2, .ofNat 32 o3, .ofNat 32 o4, .ofNat 32 o5,
      .ofNat 32 o6, .ofNat 8 c1, .ofNat 8 c2, .ofNat 8 c3, .ofNat 8 c4, .ofNat 8 c5, .ofNat 8 c6, .ofNat 32 nip,
      .ofNat 32 arc, .ofNat 32 cpm, .ofNat 32 lead, .ofNat 16 lt, .ofNat 16 hm, .ofNat 16 rm, .ofNat 16 cr,
      .ofNat 16 ac⟩
  | _ => none

/-- The bytes of LINE_CONFIG's fields. -/
def lineFieldsBytes (c : LineFields) : List Byte :=
  writeFields [(4, c.width.toNat), (2, c.encNum.toNat), (2, c.encDen.toNat), (4, c.off2.toNat), (4, c.off3.toNat),
    (4, c.off4.toNat), (4, c.off5.toNat), (4, c.off6.toNat), (1, c.ch1.toNat), (1, c.ch2.toNat), (1, c.ch3.toNat),
    (1, c.ch4.toNat), (1, c.ch5.toNat), (1, c.ch6.toNat), (4, c.nipDist.toNat), (4, c.arcLen.toNat),
    (4, c.countsPerM.toNat), (4, c.intakeLead.toNat), (2, c.linkTimeout.toNat), (2, c.holdMark.toNat),
    (2, c.resumeMark.toNat), (2, c.creep.toNat), (2, c.accel.toNat)]

/-- The widths of HEAT_CONFIG's fields (section 11.4). -/
def heatWidths : List Nat :=
  [2, 2, 2, 4, 1, 1, 1, 1, 1, 1, 1, 1, 1, 2, 2, 2, 2, 2, 1, 2, 2]

/-- HEAT_CONFIG's fields (section 11.4). -/
def readHeatFields (bs : List Byte) : Option HeatFields :=
  match readFields heatWidths bs with
  | some [idle, ib, sb, dh, rp, p0, p1, p2, p3, i0, i1, i2, i3, t0, t1, t2, t3, ol, dc, rl, rc] =>
    some ⟨.ofNat 16 idle, .ofNat 16 ib, .ofNat 16 sb, .ofNat 32 dh, .ofNat 8 rp, .ofNat 8 p0, .ofNat 8 p1,
      .ofNat 8 p2, .ofNat 8 p3, .ofNat 8 i0, .ofNat 8 i1, .ofNat 8 i2, .ofNat 8 i3, .ofNat 16 t0, .ofNat 16 t1,
      .ofNat 16 t2, .ofNat 16 t3, .ofNat 16 ol, .ofNat 8 dc, .ofNat 16 rl, .ofNat 16 rc⟩
  | _ => none

/-- The bytes of HEAT_CONFIG's fields. -/
def heatFieldsBytes (c : HeatFields) : List Byte :=
  writeFields [(2, c.idle.toNat), (2, c.idleBand.toNat), (2, c.standby.toNat), (4, c.dHeat.toNat), (1, c.ramp.toNat),
    (1, c.kp0.toNat), (1, c.kp1.toNat), (1, c.kp2.toNat), (1, c.kp3.toNat), (1, c.ki0.toNat), (1, c.ki1.toNat),
    (1, c.ki2.toNat), (1, c.ki3.toNat), (2, c.trim0.toNat), (2, c.trim1.toNat), (2, c.trim2.toNat),
    (2, c.trim3.toNat), (2, c.overLimit.toNat), (1, c.derateCount.toNat), (2, c.recoverLimit.toNat),
    (2, c.recoverCount.toNat)]

/-- The widths of TENSION_CONFIG's fields (section 11.4). -/
def tensionWidths : List Nat :=
  [2, 1, 1, 1, 1, 1, 1, 2, 1, 2, 1, 4]

/-- TENSION_CONFIG's fields (section 11.4). -/
def readTensionFields (bs : List Byte) : Option TensionFields :=
  match readFields tensionWidths bs with
  | some [pp, p0, p1, p2, i0, i1, i2, w, wc, bt, sp, tl] =>
    some ⟨.ofNat 16 pp, .ofNat 8 p0, .ofNat 8 p1, .ofNat 8 p2, .ofNat 8 i0, .ofNat 8 i1, .ofNat 8 i2, .ofNat 16 w,
      .ofNat 8 wc, .ofNat 16 bt, .ofNat 8 sp, .ofNat 32 tl⟩
  | _ => none

/-- The bytes of TENSION_CONFIG's fields. -/
def tensionFieldsBytes (c : TensionFields) : List Byte :=
  writeFields [(2, c.paper.toNat), (1, c.kp0.toNat), (1, c.kp1.toNat), (1, c.kp2.toNat), (1, c.ki0.toNat),
    (1, c.ki1.toNat), (1, c.ki2.toNat), (2, c.window.toNat), (1, c.windowCount.toNat), (2, c.breakThreshold.toNat),
    (1, c.standstill.toNat), (4, c.taperLen.toNat)]

/-- FABRIC_LOAD's fields (section 11.4). -/
def readFabricFields (bs : List Byte) : Option FabricFields :=
  match readFields [1] (bs.take 1), charsOf ((bs.drop 1).take 8), readFields [2, 2, 2, 2] (bs.drop 9) with
  | some [slot], some code, some [unwind, rewind, compliance, maxTemp] =>
    some ⟨.ofNat 8 slot, code, .ofNat 16 unwind, .ofNat 16 rewind, .ofNat 16 compliance, .ofNat 16 maxTemp⟩
  | _, _, _ => none

/-- The bytes of FABRIC_LOAD's fields. -/
def fabricFieldsBytes (c : FabricFields) : List Byte :=
  writeFields [(1, c.slot.toNat)] ++ charsBytes c.code
    ++ writeFields [(2, c.unwind.toNat), (2, c.rewind.toNat), (2, c.compliance.toNat), (2, c.maxTemp.toNat)]

/-- The form step for a COMMAND frame: the code and the fixed length of its fields (R22, sections 11.2 and 11.4). -/
def readCommand : List Byte → Option Request
  | [] => none
  | code :: rest =>
    match code.toNat with
    | 0x01 => (readLineFields rest).map .lineConfig
    | 0x02 => (readHeatFields rest).map .heatConfig
    | 0x03 => (readTensionFields rest).map .tensionConfig
    | 0x04 => match rest with
      | [bars] => some (.barConfig bars)
      | _ => none
    | 0x05 => match rest with
      | [source, level, grade, mode] => some (.alertConfig source level grade mode)
      | _ => none
    | 0x06 => match rest with
      | [threshold] => some (.alertHold threshold)
      | _ => none
    | 0x07 => if rest = [] then some .alertClear else none
    | 0x08 => if rest = [] then some .alertLogReset else none
    | 0x09 => (readFabricFields rest).map .fabricLoad
    | 0x0A => match rest with
      | [slot] => some (.splice slot)
      | _ => none
    | 0x0B => match rest with
      | [slot] => some (.profileCommit slot)
      | _ => none
    | 0x0C => match rest with
      | [slot] => some (.profileDiscard slot)
      | _ => none
    | 0x0D => match readFields [1, 2, 2, 4] rest with
      | some [slot, seg, lines, gap] =>
        some (.segmentOpen (.ofNat 8 slot) (.ofNat 16 seg) (.ofNat 16 lines) (.ofNat 32 gap))
      | _ => none
    | 0x0E => match readFields [2] rest with
      | some [seg] => some (.segmentAbort (.ofNat 16 seg))
      | _ => none
    | 0x0F => match readFields [2] rest with
      | some [speed] => some (.run (.ofNat 16 speed))
      | _ => none
    | 0x10 => if rest = [] then some .stop else none
    | 0x11 => if rest = [] then some .clearLine else none
    | _ => none

/-- The form step for a QUERY frame (R22, sections 11.2 and 11.4). -/
def readQuery : List Byte → Option Request
  | [] => none
  | code :: rest =>
    match code.toNat with
    | 0x01 => if rest = [] then some .queryCapability else none
    | 0x02 => match readFields [2] rest with
      | some [seg] => some (.querySegment (.ofNat 16 seg))
      | _ => none
    | 0x03 => if rest = [] then some .queryRunlist else none
    | 0x04 => match rest with
      | [slot] => some (.queryBank slot)
      | _ => none
    | 0x05 => match rest with
      | [slot] => some (.queryFabric slot)
      | _ => none
    | 0x06 => if rest = [] then some .queryZones else none
    | 0x07 => if rest = [] then some .queryAlerts else none
    | 0x08 => if rest = [] then some .queryLine else none
    | _ => none

/-- The form step of CMU (R21 step 1, R22, R23): the request a control frame carries, or `none` for MALFORMED. A
non-zero reserved field, or a flag other than ANSWER_ALWAYS, is MALFORMED (R3). -/
def readRequest (f : Frame) : Option Request :=
  if f.reserved ≠ 0 then none
  else if f.flags ≠ 0x00 ∧ f.flags ≠ 0x01 then none
  else if f.kind = kindTable then readTable f.payload
  else if f.kind = kindCommand then readCommand f.payload
  else if f.kind = kindQuery then readQuery f.payload
  else none

/-- The frame kind that carries a request (section 2.1). -/
def requestKind : Request → Byte
  | .table _ _ _ => kindTable
  | .lineConfig _ | .heatConfig _ | .tensionConfig _ | .barConfig _ | .alertConfig _ _ _ _ | .alertHold _
  | .alertClear | .alertLogReset | .fabricLoad _ | .splice _ | .profileCommit _ | .profileDiscard _
  | .segmentOpen _ _ _ _ | .segmentAbort _ | .run _ | .stop | .clearLine => kindCommand
  | .queryCapability | .querySegment _ | .queryRunlist | .queryBank _ | .queryFabric _ | .queryZones | .queryAlerts
  | .queryLine => kindQuery

/-- The payload that carries a request (section 11.4). -/
def requestPayload : Request → List Byte
  | .table slot piece body => slot :: piece :: tableBodyBytes body
  | .lineConfig c => 0x01 :: lineFieldsBytes c
  | .heatConfig c => 0x02 :: heatFieldsBytes c
  | .tensionConfig c => 0x03 :: tensionFieldsBytes c
  | .barConfig bars => [0x04, bars]
  | .alertConfig source level grade mode => [0x05, source, level, grade, mode]
  | .alertHold threshold => [0x06, threshold]
  | .alertClear => [0x07]
  | .alertLogReset => [0x08]
  | .fabricLoad c => 0x09 :: fabricFieldsBytes c
  | .splice slot => [0x0A, slot]
  | .profileCommit slot => [0x0B, slot]
  | .profileDiscard slot => [0x0C, slot]
  | .segmentOpen slot seg lines gap =>
    0x0D :: writeFields [(1, slot.toNat), (2, seg.toNat), (2, lines.toNat), (4, gap.toNat)]
  | .segmentAbort seg => 0x0E :: writeFields [(2, seg.toNat)]
  | .run speed => 0x0F :: writeFields [(2, speed.toNat)]
  | .stop => [0x10]
  | .clearLine => [0x11]
  | .queryCapability => [0x01]
  | .querySegment seg => 0x02 :: writeFields [(2, seg.toNat)]
  | .queryRunlist => [0x03]
  | .queryBank slot => [0x04, slot]
  | .queryFabric slot => [0x05, slot]
  | .queryZones => [0x06]
  | .queryAlerts => [0x07]
  | .queryLine => [0x08]

/-- The control frame with frame tag `tag` that carries a request. -/
def requestFrame (tag : Tag) (r : Request) : Frame where
  kind := requestKind r
  flags := 0
  tag := tag
  reserved := 0
  payload := requestPayload r

/-- The command code an answer echoes: the first payload byte of a COMMAND or QUERY frame, 0 for any other kind and
for an empty payload (section 1.2). -/
def echoedCode (f : Frame) : Byte :=
  if f.kind = kindCommand ∨ f.kind = kindQuery then f.payload.headD 0 else 0

/-- A TABLE body fits its piece index: what the form step demands of the frame's length (R23). -/
def tableBodyFits (piece : Byte) (body : TableBody) : Bool :=
  match body with
  | .values vs => piece.toNat ≤ 120 && vs.length == pieceValues piece.toNat
  | .header _ => piece.toNat == 121
  | .unchecked _ => 121 < piece.toNat

end Sys2Proof.Machine
end

