-- ==== Sys2Proof/Machine/Ops.lean ====
section
/-! DEFINITION. The named operations every block's rules are written over: updates of one block of the state, numbers
of the enumerations, the run list's selections and positions (R90, R106), the line store's counts (R133) and the
answer slots (R16). -/

namespace Sys2Proof.Machine

/-! ### Vectors -/

/-- Every element mapped. -/
def vmap {α β : Type} {n : Nat} (f : α → β) (v : Vector α n) : Vector β n :=
  Vector.ofFn fun i => f v[i]

/-- One element changed. -/
def vmod {α : Type} {n : Nat} (v : Vector α n) (i : Fin n) (f : α → α) : Vector α n :=
  v.set i (f v[i])

/-! ### Updates of one block -/

def State.setLrx (s : State) (x : Lrx) : State := { s with lrx := x }
def State.setCmuSlot (s : State) (x : Bool) : State := { s with cmuSlot := x }
def State.setLtx (s : State) (x : Ltx) : State := { s with ltx := x }
def State.setLine (s : State) (x : LineGroup) : State := { s with line := x }
def State.setPfs (s : State) (x : Pfs) : State := { s with pfs := x }
def State.setCpa (s : State) (x : Option FillCursor) : State := { s with cpa := x }
def State.setLst (s : State) (x : List Entry) : State := { s with lst := x }
def State.setBars (s : State) (x : Vector BarUnit 6) : State := { s with bars := x }
def State.setRls (s : State) (x : List Segment) : State := { s with rls := x }
def State.setMou (s : State) (x : Mou) : State := { s with mou := x }
def State.setHtc (s : State) (x : Htc) : State := { s with htc := x }
def State.setTnc (s : State) (x : Tnc) : State := { s with tnc := x }
def State.setAlc (s : State) (x : Alc) : State := { s with alc := x }
def State.setChoices (s : State) (x : Nat) : State := { s with choices := x }
def State.setPending (s : State) (x : List Instr) : State := { s with pending := x }

/-! ### Enumerations -/

/-- A source's number (R167). -/
def AlertSource.index : AlertSource → Fin 13
  | .webBreak => 0
  | .overTemp => 1
  | .driveFault => 2
  | .linkLost => 3
  | .heatSensor => 4
  | .heatOffBand => 5
  | .tensionWindow => 6
  | .barFault => 7
  | .lineLost => 8
  | .dwellShort => 9
  | .linkError => 10
  | .profileCheck => 11
  | .gradeChange => 12

/-- The sources in number order (R167). -/
def AlertSource.all : List AlertSource :=
  [.webBreak, .overTemp, .driveFault, .linkLost, .heatSensor, .heatOffBand, .tensionWindow, .barFault, .lineLost,
    .dwellShort, .linkError, .profileCheck, .gradeChange]

/-- The condition sources, 0..7 (R167). -/
def AlertSource.isCondition (src : AlertSource) : Bool :=
  src.index.val ≤ 7

/-- A grade's code and its place in the order NOTE < HOLD_INTAKE < SLOW < STOP (R167, section 11.2). -/
def Grade.rank : Grade → Nat
  | .note => 0
  | .holdIntake => 1
  | .slow => 2
  | .stop => 3

/-- The higher of two grades. -/
def Grade.max (g h : Grade) : Grade :=
  if g.rank < h.rank then h else g

/-- A tension zone's code (section 11.2). -/
def tensionIndex : TensionZone → Fin 3
  | .paperUnwind => 0
  | .fabricUnwind => 1
  | .rewind => 2

/-- The bars in paper order. -/
def allBars : List Bar :=
  [0, 1, 2, 3, 4, 5]

/-- Bar 1, the first on the path. -/
def bar1 : Bar := 0

/-- The heat zones in number order. -/
def allHeatZones : List (Fin 4) :=
  [0, 1, 2, 3]

/-! ### Arithmetic of the conventions -/

/-- A quantity moving toward a target by at most a step. -/
def moveToward (x target : Int) (step : Nat) : Int :=
  if target - x ≤ step ∧ x - target ≤ step then target
  else if x < target then x + step
  else x - step

/-- `clamp(value, low, high)`. -/
def clampInt (x low high : Int) : Int :=
  max low (min x high)

/-! ### The run list -/

/-- A record is live until its calender state is RETIRED (R106). -/
def Segment.live (r : Segment) : Bool :=
  decide (r.calender ≠ .retired)

/-- The record with a tag. -/
def findSeg (t : Tag) (l : List Segment) : Option Segment :=
  l.find? fun r => r.tag = t

/-- The record with a tag, changed. -/
def modSeg (t : Tag) (f : Segment → Segment) (l : List Segment) : List Segment :=
  l.map fun r => if r.tag = t then f r else r

/-- The records behind the one with a tag, in list order. -/
def segsAfter (t : Tag) : List Segment → List Segment
  | [] => []
  | r :: rest => if r.tag = t then rest else segsAfter t rest

/-- Whether the record with tag `t` stands before the one with tag `u` in the list. -/
def segBefore (t u : Tag) (l : List Segment) : Bool :=
  (segsAfter t l).any fun r => r.tag = u

/-- A change of one record of the list. -/
def State.modSegment (s : State) (t : Tag) (f : Segment → Segment) : State :=
  s.setRls (modSeg t f s.rls)

/-- The due position of line n of a record at a bar (R90). -/
def duePosition (g : LineGroup) (r : Segment) (k : Bar) (n : Nat) : Nat :=
  r.start + n * r.pitch / Config.pitchOne + g.offsets[k]

/-- The lead at the nip (R90). -/
def leadPosition (g : LineGroup) (r : Segment) : Nat :=
  r.start + g.nipDist

/-- The retire position (R90). -/
def retirePosition (g : LineGroup) (r : Segment) : Nat :=
  r.start + r.length + g.nipDist + g.arcLen

/-- The look-ahead position, S + nip_dist − D_heat, lies at or below a position (R90, R100, R151). -/
def lookAheadReached (s : State) (r : Segment) (position : Nat) : Bool :=
  decide (r.start + s.line.nipDist ≤ position + s.htc.group.dHeat)

/-- A record qualifies for tension: P + taper_len ≥ S + nip_dist (R73). -/
def tensionQualifies (s : State) (r : Segment) : Bool :=
  decide (r.start + s.line.nipDist ≤ s.mou.p + s.tnc.group.taperLen)

/-- The dwell cap of a record (R99). -/
def dwellCap (g : LineGroup) (r : Segment) : Nat :=
  max 1 (g.arcLen * 1000000 / (g.countsPerM * r.minDwell))

/-- The oldest record in fill state FILLING (R51). -/
def oldestFilling (l : List Segment) : Option Segment :=
  l.find? fun r => r.fill = .filling

/-- The oldest live record (R106). -/
def oldestLive (l : List Segment) : Option Segment :=
  l.find? Segment.live

/-- The newest live record that meets a test. -/
def newestLive (test : Segment → Bool) (l : List Segment) : Option Segment :=
  l.reverse.find? fun r => r.live && test r

/-- Some flag of a record set (R119). -/
def Segment.setFlags (r : Segment) (f : Flags → Flags) : Segment :=
  { r with flags := f r.flags }

/-- The fill cursor at the start of the oldest FILLING record, or absent (R52). -/
def cursorAtOldestFilling (l : List Segment) : Option FillCursor :=
  (oldestFilling l).map fun r => { tag := r.tag, line := 0, pixel := 0 }

/-! ### The line store -/

/-- The used count (R133). -/
def usedCount (s : State) : Nat :=
  s.lst.length

/-- The free count (R133). -/
def freeCount (s : State) : Nat :=
  Config.ringEntries - s.lst.length

/-- The entry of a line in state FILLING, released: it leaves the sequence (R131). -/
def releaseFilling (t : Tag) (n : Nat) (l : List Entry) : List Entry :=
  l.filter fun e => !(decide (e.state = .filling) && decide (e.tag = t) && decide (e.line = n))

/-- The FILLING entry of a line, changed. -/
def modFilling (t : Tag) (n : Nat) (f : Entry → Entry) (l : List Entry) : List Entry :=
  l.map fun e => if e.state = .filling ∧ e.tag = t ∧ e.line = n then f e else e

/-- Every entry of a record VOID; its drop data is not usable (R121, R129). -/
def voidEntries (t : Tag) (l : List Entry) : List Entry :=
  l.map fun e => if e.tag = t then { e with state := .void, written := [], provisional := [] } else e

/-! ### Bars -/

/-- A bar is enabled when it is not OFF (R140). -/
def BarUnit.enabled (b : BarUnit) : Bool :=
  decide (b.state ≠ .off)

/-- A change of one bar. -/
def State.modBar (s : State) (k : Bar) (f : BarUnit → BarUnit) : State :=
  s.setBars (vmod s.bars k f)

/-- The start of the first record of a list as a cursor, or END (R134). -/
def cursorAtHead : List Segment → Option (Tag × Nat)
  | [] => none
  | r :: _ => some (r.tag, 0)

/-- Every cursor that points at a record about to leave the list moves to line 0 of the next record, or to END
(R134; notes/assumptions/7.md for a record that is not WAITING). -/
def cursorsLeave (t : Tag) (s : State) : State :=
  s.setBars (vmap (fun b =>
    match b.cursor with
    | some (u, _) => if u = t then { b with cursor := cursorAtHead (segsAfter t s.rls) } else b
    | none => b) s.bars)

/-! ### Answer slots -/

/-- The slots held by LRX for the LINE frame in reception (R10, R16). -/
def rxSlots : LineRx → Nat
  | .accepted _ _ _ _ true => 1
  | .refused _ => 1
  | _ => 0

/-- Queued answers plus held slots (R16). -/
def slotsInUse (s : State) : Nat :=
  s.ltx.answers.length + rxSlots s.lrx.line + (if s.cmuSlot then 1 else 0)

/-- A slot is free (R16). -/
def slotFree (s : State) : Bool :=
  decide (slotsInUse s < Config.answerSlots)

/-- A complete answer joins the queue at its tail (R16). -/
def queueAnswer (a : Answer) (s : State) : State :=
  s.setLtx { s.ltx with answers := s.ltx.answers ++ [a] }

/-! ### Open choices -/

/-- One of several candidates that the spec leaves in no order: `Config.freeChoice` decides (notes/assumptions/1.md).
With one candidate there is nothing to choose, and the choice counter does not move. -/
def chooseOne {α : Type} (l : List α) (s : State) : Option α × State :=
  match l with
  | [] => (none, s)
  | [x] => (some x, s)
  | x :: y :: rest =>
    ((x :: y :: rest)[Config.freeChoice s.choices % (rest.length + 2)]?, s.setChoices (s.choices + 1))

end Sys2Proof.Machine
end

