-- ==== Sys2Proof/Machine/Motion.lean ====
section
/-! DEFINITION. MOU's speed target and line modes (R91 to R97, R100), the heat target that follows them (R151, R152),
and the line sample (R98, R101). -/

namespace Sys2Proof.Machine

/-! ### Targets -/

/-- The records whose dwell caps enter the speed target: live, and in the arc or with the look-ahead position at or
below P_high (R100). -/
def capsInForce (s : State) : List Nat :=
  (s.rls.filter fun r => r.live && (decide (r.calender = .inArc) || lookAheadReached s r s.htc.pHigh)).map
    (dwellCap s.line)

/-- The speed target (R100): 0 in every mode but RUN. -/
def speedTarget (s : State) : Nat :=
  if s.mou.mode = .run then
    (capsInForce s).foldl min
      (if Grade.rank .slow ≤ s.alc.reaction.rank then min s.mou.requested s.line.creep else s.mou.requested)
  else 0

/-- MOU forms the speed target again; in RUN a target below the reference takes the reference with it (R100). -/
def formSpeed (s : State) : State :=
  let t := speedTarget s
  s.setMou { s.mou with
    target := t
    reference := if s.mou.mode = .run ∧ t < s.mou.reference then t else s.mou.reference }

/-- The heat target, band and source (R151). -/
def heatAim (s : State) : Int × Nat × HeatSource :=
  let g := s.htc.group
  let ofRecord (r : Segment) : Int × Nat × HeatSource := (r.needed, r.tolerance, .segment r.tag)
  let idle : Int × Nat × HeatSource := (g.idle, g.idleBand, .idle)
  if s.alc.reaction = .stop then (g.standby, g.idleBand, .standby)
  else if s.mou.mode = .warmup then
    match oldestLive s.rls with
    | some r => ofRecord r
    | none => idle
  else
    match newestLive (fun r => lookAheadReached s r s.htc.pHigh) s.rls with
    | some r => ofRecord r
    | none => idle

/-- HTC forms the heat target and band again (R152). -/
def formHeat (s : State) : State :=
  let aim := heatAim s
  s.setHtc { s.htc with target := aim.1, band := aim.2.1, source := aim.2.2 }

/-! ### Line modes -/

/-- The link timer runs in WARMUP and RUN (R20). -/
def LineMode.linkTimed : LineMode → Bool
  | .warmup | .run => true
  | _ => false

/-- The link timer on a change of mode (R20): started from the full timeout on entry to WARMUP or RUN from another
mode, left as it stands between the two, stopped otherwise. -/
def timerOnMode (old new : LineMode) (timeout : Nat) (timer : Option Nat) : Option Nat :=
  if new.linkTimed then (if old.linkTimed then timer else some timeout) else none

/-- The line enters a mode: the nip output (R91), the reference on entry to STANDBY, WARMUP or HALTED (R100), the link
timer (R20), and both targets, formed again (R100, R152). -/
def enterMode (m : LineMode) (s : State) : State :=
  let s1 := s.setLrx { s.lrx with timer := timerOnMode s.mou.mode m s.line.linkTimeout s.lrx.timer }
  let s2 := s1.setMou { s1.mou with
    mode := m
    nipClosed := decide (m = .run)
    reference := if m = .standby ∨ m = .warmup ∨ m = .halted then 0 else s1.mou.reference }
  formHeat (formSpeed s2)

/-- Every record in the arc is flagged SPOILED (R96). -/
def spoilArc (s : State) : State :=
  s.setRls (s.rls.map fun r =>
    if r.calender = .inArc then r.setFlags fun f => { f with spoiled := true } else r)

/-- Entry to STOPPING with a cause (R96): from RUN the nip opens and the arc is spoiled; from WARMUP nothing is. -/
def enterStopping (cause : StopCause) (s : State) : State :=
  let s1 := if s.mou.mode = .run then spoilArc s else s
  enterMode .stopping (s1.setMou { s1.mou with cause := cause })

/-- The reaction in force becomes STOP (R95). -/
def stopReaction (s : State) : State :=
  match s.mou.mode with
  | .run | .warmup => enterStopping .reaction s
  | .stopping => s.setMou { s.mou with cause := .reaction }
  | .standby | .halted => s

/-- Warm-up complete (R93): in WARMUP the line enters RUN, in any other mode nothing happens. -/
def warmupComplete (s : State) : State :=
  if s.mou.mode = .warmup then enterMode .run s else s

/-- The effect of a RUN directive that passed its checks (R92). -/
def runDirective (speed : Nat) (s : State) : State :=
  let s1 := s.setMou { s.mou with requested := speed }
  match s.mou.mode with
  | .standby | .halted => enterMode .warmup s1
  | .run => formSpeed s1
  | .warmup | .stopping => s1

/-- The effect of a STOP directive that passed its checks (R94). -/
def stopDirective (s : State) : State :=
  match s.mou.mode with
  | .warmup => enterMode .standby s
  | .run => enterStopping .directive s
  | .standby | .stopping | .halted => s

/-! ### The line sample -/

/-- The speed of R98: the net motion since the last sample, in mm/s, held at 65,535. -/
def measuredSpeed (p pLast countsPerM : Nat) : Nat :=
  min 65535 (((p - pLast) + (pLast - p)) * 20000 / countsPerM)

/-- Measuring at a line sample (R98). -/
def measureSpeed (s : State) : State :=
  s.setMou { s.mou with speed := measuredSpeed s.mou.p s.mou.pLast s.line.countsPerM, pLast := s.mou.p }

/-- The reference moves toward the target by at most accel (R100). -/
def moveReference (s : State) : State :=
  s.setMou { s.mou with reference := (moveToward s.mou.reference s.mou.target s.line.accel).toNat }

/-- The dwell counter of one record after a line sample (R101), and whether it has reached 3. -/
def dwellStep (g : LineGroup) (speed : Nat) (r : Segment) : Segment × Bool :=
  match r.dwell with
  | none => (r, false)
  | some c =>
    if dwellCap g r < speed then
      if 3 ≤ c + 1 then
        (({ r with dwell := none } : Segment).setFlags fun f => { f with dwellShort := true }, true)
      else ({ r with dwell := some (c + 1) }, false)
    else ({ r with dwell := some 0 }, false)

/-- The test for the end of the stop (R97). -/
def stopTest (s : State) : State :=
  if s.mou.mode = .stopping ∧ s.mou.reference = 0 ∧ s.mou.speed = 0 then
    enterMode (match s.mou.cause with
      | .directive => .standby
      | .reaction => .halted) s
  else s

end Sys2Proof.Machine
end

