-- ==== Sys2Proof/Machine/Reports.lean ====
section
/-! DEFINITION. Everything the part sends upstream, byte for byte: the codes of section 11.2, the payloads of section
11.5, the reply records of section 11.6, and the frame around a payload (R191, R192). -/

namespace Sys2Proof.Machine

/-! ### Codes (section 11.2) -/

def answerCodeNumber : AnswerCode → Nat
  | .accepted => 0x00
  | .busy => 0x01
  | .malformed => 0x02
  | .outOfRange => 0x03
  | .wrongMode => 0x04
  | .unknownSegment => 0x05
  | .duplicateTag => 0x06
  | .listFull => 0x07
  | .noProfile => 0x08
  | .noFabric => 0x09
  | .bankBusy => 0x0A
  | .incomplete => 0x0B
  | .checkFail => 0x0C
  | .outOfOrder => 0x0D
  | .late => 0x0E
  | .storeFull => 0x0F
  | .held => 0x10
  | .slotInUse => 0x11
  | .alertActive => 0x12
  | .notFound => 0x13

def lineModeNumber : LineMode → Nat
  | .standby => 0
  | .warmup => 1
  | .run => 2
  | .stopping => 3
  | .halted => 4

def fillStateNumber : FillState → Nat
  | .filling => 0
  | .sealed => 1

def printStateNumber : PrintState → Nat
  | .waiting => 0
  | .printing => 1
  | .printed => 2

def calenderStateNumber : CalenderState → Nat
  | .approach => 0
  | .inArc => 1
  | .retired => 2

def bankNumber : BankId → Nat
  | .a => 0
  | .b => 1

def bankStateNumber : BankState → Nat
  | .free => 0
  | .staging => 1
  | .checking => 2
  | .active => 3
  | .draining => 4

def barStateNumber : BarState → Nat
  | .off => 0
  | .active => 1
  | .faulted => 2

def servingModeNumber : ServingMode → Nat
  | .latched => 0
  | .fast => 1

def linkSubcodeNumber : LinkSubcode → Nat
  | .framing => 1
  | .crc => 2
  | .answerOverrun => 3
  | .timeout => 4

/-- One byte. -/
def byteOf (n : Nat) : List Byte :=
  beBytes 1 n

/-- A set as a bit set (R191): member i at the bit of value 2^i. -/
def bitSet (bs : List Bool) : Nat :=
  bs.foldr (fun b acc => (if b then 1 else 0) + 2 * acc) 0

/-- A record's flag set, LOST_LINES at 0x0001 up to PITCH_CLAMPED at 0x0040 (section 11.2). -/
def flagSet (f : Flags) : Nat :=
  bitSet [f.lostLines, f.aborted, f.spoiled, f.offBand, f.dwellShort, f.barMissed, f.pitchClamped]

/-- Bytes followed by zero bytes up to a length the layout fixes (R191). -/
def padTo (n : Nat) (bs : List Byte) : List Byte :=
  bs ++ List.replicate (n - bs.length) 0

/-! ### Upstream payloads (section 11.5) -/

/-- The ANSWER payload. -/
def answerPayload (a : Answer) : List Byte :=
  [a.kind, a.cmd] ++ byteOf (answerCodeNumber a.code) ++ [0] ++ beBytes 4 a.detail ++ a.reply

/-- The payload of HOLD and RESUME: the free count. -/
def flowPayload (free : Nat) : List Byte :=
  beBytes 2 free

/-- A context's unit: kind, number, bank. -/
def unitBytes : Option CtxUnit → List Byte
  | none => [0, 0, 0]
  | some (.heatZone z) => [1] ++ byteOf z.val ++ [0]
  | some (.tensionZone z) => [2] ++ byteOf (tensionIndex z).val ++ [0]
  | some (.bar k) => [3] ++ byteOf (k.val + 1) ++ [0]
  | some (.profileSlot slot bank) => [4] ++ byteOf slot.val ++ byteOf (bankNumber bank)

/-- A context's link part: subcode, frame kind, frame tag. -/
def linkBytes : Option LinkPart → List Byte
  | none => [0, 0, 0, 0]
  | some l => byteOf (linkSubcodeNumber l.subcode) ++ [l.kind] ++ beBytes 2 l.tag.toNat

/-- The 20 bytes of a context. -/
def contextBytes (c : Context) : List Byte :=
  byteOf (bitSet [c.seg.isSome, c.unit.isSome, c.link.isSome])
    ++ beBytes 2 (match c.seg with
      | some t => t.toNat
      | none => 0)
    ++ unitBytes c.unit ++ linkBytes c.link ++ beBytes 6 c.p ++ beIntBytes 4 c.measured

/-- The NOTICE payload. -/
def noticePayload (n : Notice) : List Byte :=
  byteOf n.source.index.val ++ byteOf n.level.val ++ byteOf n.grade.rank ++ byteOf (servingModeNumber n.mode)
    ++ byteOf n.merge ++ byteOf n.depth ++ contextBytes n.ctx

/-- The TRACE payload (R124). -/
def tracePayload (r : Segment) : List Byte :=
  beBytes 2 r.tag.toNat ++ beBytes 6 r.start ++ beBytes 2 (flagSet r.flags) ++ beBytes 2 r.lost ++ byteOf r.slot.val
    ++ byteOf (bankNumber r.bank) ++ byteOf r.grade ++ byteOf r.fabric.val ++ beBytes 4 r.stretch

/-- An upstream frame from header to CRC (R191, R192). -/
def upFrame (kind : Byte) (flags : Byte) (tag : Tag) (payload : List Byte) : List Byte :=
  let body := [kind, flags] ++ beBytes 2 tag.toNat ++ beBytes 2 payload.length ++ [0, 0] ++ payload
  body ++ crcBytes (crcOf body)

/-! ### Reply records (section 11.6) -/

/-- The capability record (R34). -/
def capabilityRecord : List Byte :=
  beBytes 2 460 ++ byteOf 1 ++ byteOf 5 ++ byteOf 14 ++ byteOf 3 ++ byteOf 4 ++ byteOf 3 ++ byteOf 6 ++ byteOf 4
    ++ byteOf 3 ++ byteOf 13 ++ beBytes 4 76800 ++ byteOf 122

/-- The segment record (R33). -/
def segmentRecord (r : Segment) : List Byte :=
  beBytes 2 r.tag.toNat ++ beBytes 4 r.width ++ beBytes 2 r.lines ++ beBytes 4 r.gap ++ beBytes 6 r.start
    ++ beBytes 4 r.pitch ++ beBytes 4 r.length ++ byteOf r.slot.val ++ byteOf (bankNumber r.bank) ++ byteOf r.grade
    ++ beIntBytes 2 r.needed ++ beBytes 2 r.tolerance ++ beBytes 4 r.minDwell ++ byteOf r.fabric.val
    ++ beBytes 4 r.stretch ++ byteOf (fillStateNumber r.fill) ++ byteOf (printStateNumber r.print)
    ++ byteOf (calenderStateNumber r.calender) ++ byteOf (bitSet r.printedBy.toList) ++ beBytes 2 r.lost
    ++ beBytes 2 (flagSet r.flags) ++ flagByte r.traceSent

/-- The summary line of a record (R33). -/
def summaryLine (r : Segment) : List Byte :=
  beBytes 2 r.tag.toNat ++ beBytes 6 r.start ++ beBytes 4 r.length ++ byteOf (fillStateNumber r.fill)
    ++ byteOf (printStateNumber r.print) ++ byteOf (calenderStateNumber r.calender) ++ beBytes 2 (flagSet r.flags)

/-- The RUNLIST record. -/
def runlistRecord (s : State) : List Byte :=
  byteOf s.rls.length ++ s.rls.flatMap summaryLine

/-- Whether a piece index is in a bank's piece set (R38). -/
def hasPiece (b : Bank) (i : Nat) : Bool :=
  b.pieces.any fun p => p.1 == i

/-- The number of pieces in the piece set (R38). -/
def pieceCount (b : Bank) : Nat :=
  b.pieces.length

/-- The missing-piece set: piece 8j + i at the bit of value 2^i of byte j (section 11.6). -/
def missingBytes (b : Bank) : List Byte :=
  (List.range 16).flatMap fun j =>
    byteOf (bitSet ((List.range 8).map fun i => decide (8 * j + i < Config.pieces) && !hasPiece b (8 * j + i)))

/-- One bank of the BANK record. -/
def bankPart (b : Bank) : List Byte :=
  byteOf (bankStateNumber b.state) ++ byteOf b.count ++ byteOf (pieceCount b) ++ missingBytes b

/-- The BANK record. -/
def bankRecord (s : State) (slot : Fin 8) : List Byte :=
  bankPart s.pfs.slots[slot].a ++ bankPart s.pfs.slots[slot].b

/-- A fabric slot is referenced (R69). -/
def fabricReferenced (t : Tnc) (slot : Fin 16) : Bool :=
  decide (0 < t.fabrics[slot].segs) || decide (t.intake = some slot)
    || (match t.taper with
      | some x => decide (x.newFabric = slot) || decide (x.prevFabric = slot)
      | none => false)

/-- The FABRIC record; an unloaded slot's fields are reported as 0 (R68). -/
def fabricRecord (s : State) (slot : Fin 16) : List Byte :=
  byteOf slot.val
    ++ (match s.tnc.fabrics[slot].record with
      | some f => charsBytes f.code ++ beBytes 2 f.unwind ++ beBytes 2 f.rewind ++ beBytes 2 f.compliance
          ++ beIntBytes 2 f.maxTemp ++ [1]
      | none => List.replicate 16 0 ++ [0])
    ++ flagByte (fabricReferenced s.tnc slot)

/-- A heat zone's part of the ZONES record. -/
def heatZonePart (trim : Int) (z : HeatZone) : List Byte :=
  beIntBytes 2 z.measured ++ beIntBytes 2 trim ++ beIntBytes 2 z.setpoint ++ beIntBytes 2 z.output
    ++ beIntBytes 4 z.integ ++ byteOf z.sat ++ beBytes 2 z.recov ++ byteOf z.missCount ++ flagByte z.missing
    ++ flagByte z.overTemp

/-- A tension zone's part of the ZONES record. -/
def tensionZonePart (z : TensionRec) : List Byte :=
  beIntBytes 2 z.target ++ beBytes 2 z.last ++ beIntBytes 2 z.output ++ beIntBytes 4 z.integ ++ flagByte z.windowFlag

/-- The ZONES record (R84). -/
def zonesRecord (s : State) : List Byte :=
  (allHeatZones.flatMap fun i => heatZonePart s.htc.group.trim[i] s.htc.zones[i])
    ++ s.tnc.zones.toList.flatMap tensionZonePart

/-- A source has an entry on the stack (R170). -/
def onStack (a : Alc) (src : AlertSource) : Bool :=
  a.stack.any fun e => decide (e.source = src)

/-- A source is pending: a condition while it holds, is not OFF and has no entry on the stack (R170); an occurrence
while its flag is set (R171). -/
def sourcePending (a : Alc) (src : AlertSource) : Bool :=
  if src.isCondition then
    a.holds[src.index] && decide (a.config[src.index].level ≠ none) && !onStack a src
  else a.occ[src.index].isSome

/-- A stack entry of the ALERTS record. -/
def stackEntryBytes (e : StackEntry) : List Byte :=
  byteOf e.source.index.val ++ byteOf e.level.val ++ byteOf e.grade.rank ++ byteOf e.merge ++ contextBytes e.ctx

/-- The merge count reported for an occurrence: 0 when not pending (section 11.6). -/
def mergeReported (a : Alc) (src : AlertSource) : Nat :=
  match a.occ[src.index] with
  | some o => o.merge
  | none => 0

/-- The ALERTS record (R187). -/
def alertsRecord (s : State) : List Byte :=
  let a := s.alc
  beBytes 2 (bitSet (AlertSource.all.map (sourcePending a)))
    ++ ([AlertSource.lineLost, .dwellShort, .linkError, .profileCheck, .gradeChange].flatMap fun src =>
        byteOf (mergeReported a src))
    ++ beBytes 2 (bitSet a.holds.toList) ++ byteOf a.threshold.val ++ byteOf a.stack.length
    ++ padTo 96 (a.stack.reverse.flatMap stackEntryBytes)
    ++ (match a.firstAlert with
      | some (src, c) => [1] ++ byteOf src.index.val ++ contextBytes c
      | none => List.replicate 22 0)
    ++ beBytes 2 (bitSet a.later.toList)

/-- A bar's part of the LINE record. -/
def barPart (b : BarUnit) : List Byte :=
  byteOf (barStateNumber b.state)
    ++ (match b.cursor with
      | some (t, n) => [1] ++ beBytes 2 t.toNat ++ beBytes 2 n
      | none => [0, 0, 0, 0, 0])

/-- The LINE record (R33). -/
def lineRecord (s : State) : List Byte :=
  byteOf (lineModeNumber s.mou.mode) ++ beBytes 6 s.mou.p ++ beBytes 4 s.line.base ++ beBytes 2 s.mou.reference
    ++ beBytes 2 s.mou.speed ++ beBytes 2 (usedCount s) ++ beBytes 2 (freeCount s)
    ++ s.bars.toList.flatMap barPart ++ byteOf s.htc.grade

end Sys2Proof.Machine
end

