-- ==== Sys2Proof/Machine/Transmitter.lean ====
section
/-! DEFINITION. LTX: the flow decision (R19), the arbiter (R15), and the notice queue (R17). -/

namespace Sys2Proof.Machine

/-- The flow frame that is due (R19): `some true` for a HOLD, `some false` for a RESUME. -/
def flowDue (s : State) : Option Bool :=
  if s.ltx.flowHeld then
    if s.line.resumeMark ≤ freeCount s then some false else none
  else
    if freeCount s < s.line.holdMark then some true else none

/-- The record the run list offers for a trace (R124): the oldest RETIRED one whose trace-sent is clear. -/
def traceOffer (s : State) : Option Segment :=
  s.rls.find? fun r => decide (r.calender = .retired) && !r.traceSent

/-- LTX's choice in IDLE (R14, R15): the oldest answer, then a due flow frame, then the oldest notice, then the
offered trace. The frame's content is copied now (R191). In SENDING and GAP nothing is chosen. -/
def ltxChoose (s : State) : State :=
  match s.ltx.tx with
  | .sending _ _ | .gap => s
  | .idle =>
    match s.ltx.answers with
    | a :: rest =>
      s.setLtx { s.ltx with answers := rest, tx := .sending .answer (upFrame 0x81 0 a.tag (answerPayload a)) }
    | [] =>
      match flowDue s with
      | some true =>
        s.setLtx { s.ltx with flowHeld := true, tx := .sending .hold (upFrame 0x82 0 0 (flowPayload (freeCount s))) }
      | some false =>
        s.setLtx { s.ltx with flowHeld := false, tx := .sending .resume (upFrame 0x83 0 0 (flowPayload (freeCount s))) }
      | none =>
        match s.ltx.notices with
        | n :: rest =>
          s.setLtx { s.ltx with
            notices := rest
            overrun := false
            tx := .sending .notice (upFrame 0x84 (if s.ltx.overrun then 1 else 0) 0 (noticePayload n)) }
        | [] =>
          match traceOffer s with
          | some r =>
            (s.setLtx { s.ltx with tx := .sending (.trace r.tag) (upFrame 0x85 0 0 (tracePayload r)) }).modSegment r.tag
              fun x => { x with traceSent := true }
          | none => s

/-- A notice joins the queue, or is lost and sets the overrun flag when eight are held (R17, R186). -/
def queueNotice (n : Notice) (s : State) : State :=
  if s.ltx.notices.length < Config.noticePlaces then
    s.setLtx { s.ltx with notices := s.ltx.notices ++ [n] }
  else s.setLtx { s.ltx with overrun := true }

end Sys2Proof.Machine
end

