-- ==== Sys2Proof/Machine/Alerts.lean ====
section
/-! DEFINITION. ALC: raising and pending (R170, R171), the log (R173), evaluation and serving (R176 to R179), the
reaction in force (R180, R183), and `settle`, what ends every event: the log, the evaluation, the hand-over of the
reaction and the transmitter's choice. -/

namespace Sys2Proof.Machine

/-- A change of ALC. -/
def State.modAlc (s : State) (f : Alc → Alc) : State :=
  s.setAlc (f s.alc)

/-! ### Raising -/

/-- An occurrence is raised (R171): no effect at level OFF, a new pending occurrence, or a merge, held at 255. -/
def raiseOcc (src : AlertSource) (ctx : Context) (s : State) : State :=
  s.modAlc fun a =>
    if a.config[src.index].level = none then a
    else
      match a.occ[src.index] with
      | some o => { a with occ := a.occ.set src.index (some { o with merge := min 255 (o.merge + 1) }) }
      | none =>
        { a with occ := a.occ.set src.index (some { merge := 1, ctx := ctx }), fresh := a.fresh ++ [src] }

/-- A condition begins (R170, R172): the holds flag is set and the context stored; the source becomes pending when
its level is not OFF and it has no entry on the stack. -/
def beginCond (src : AlertSource) (ctx : Context) (s : State) : State :=
  s.modAlc fun a =>
    { a with
      holds := a.holds.set src.index true
      condCtx := a.condCtx.set src.index (some ctx)
      fresh := if a.config[src.index].level ≠ none ∧ onStack a src = false then a.fresh ++ [src] else a.fresh }

/-- A condition ends (R170). Its context is kept (R172). -/
def endCond (src : AlertSource) (s : State) : State :=
  s.modAlc fun a => { a with holds := a.holds.set src.index false }

/-- A condition judged over one event: it begins when it came to hold in the event, and ends when it ceased to
(notes/assumptions/6.md). -/
def judgeCond (src : AlertSource) (before after : Bool) (ctx : Context) (s : State) : State :=
  if after then (if before then s else beginCond src ctx s)
  else (if before then endCond src s else s)

/-- A context with nothing but P and a measured value. -/
def plainCtx (s : State) (measured : Int) : Context where
  seg := none
  unit := none
  link := none
  p := s.mou.p
  measured := measured

/-- A context with a unit (R172). -/
def unitCtx (s : State) (u : CtxUnit) (measured : Int) : Context :=
  { plainCtx s measured with unit := some u }

/-- A context with a link part (R172). -/
def linkCtx (s : State) (sub : LinkSubcode) (kind : Byte) (tag : Tag) : Context :=
  { plainCtx s 0 with link := some { subcode := sub, kind := kind, tag := tag } }

/-- LINK_ERROR is raised with a subcode and the kind and tag of the frame concerned (R2, R3, R16, R172). -/
def raiseLinkError (sub : LinkSubcode) (kind : Byte) (tag : Tag) (s : State) : State :=
  raiseOcc .linkError (linkCtx s sub kind tag) s

/-! ### The log (R173) -/

/-- The context with which a pending source is logged or served (R172). -/
def pendingCtx (a : Alc) (src : AlertSource) : Option Context :=
  if src.isCondition then a.condCtx[src.index]
  else (a.occ[src.index]).map Occurrence.ctx

/-- The context of a source, or an empty one where the source has none. -/
def ctxOr (c : Option Context) : Context :=
  match c with
  | some x => x
  | none => { seg := none, unit := none, link := none, p := 0, measured := 0 }

/-- One source that has become pending is logged (R173). -/
def logOne (a : Alc) (src : AlertSource) : Alc :=
  match a.firstAlert with
  | none => { a with firstAlert := some (src, ctxOr (pendingCtx a src)) }
  | some _ => { a with later := a.later.set src.index true }

/-- The sources that have become pending in the event are logged, the lowest-numbered first (R173). -/
def logFresh (a : Alc) : Alc :=
  (AlertSource.all.filter fun src => decide (src ∈ a.fresh)).foldl logOne a

/-! ### Evaluation and serving -/

/-- A pending source is eligible (R176). -/
def eligible (a : Alc) (src : AlertSource) : Bool :=
  match a.config[src.index].level with
  | none => false
  | some l =>
    sourcePending a src && (decide (l = 3) || decide (a.threshold ≤ l))
      && (match a.stack with
        | [] => true
        | e :: _ => decide (e.level < l))
      && !onStack a src

/-- The eligible source that is served next: highest level, then lowest number (R177). -/
def nextServed (a : Alc) : Option AlertSource :=
  AlertSource.all.foldl
    (fun best src =>
      if eligible a src then
        match best with
        | none => some src
        | some b => if a.config[b.index].level.getD 0 < a.config[src.index].level.getD 0 then some src else some b
      else best)
    none

/-- One serve: fast (R178) or latched (R179), with its notice (R186). -/
def serve (src : AlertSource) (s : State) : State :=
  let a := s.alc
  let cfg := a.config[src.index]
  let level := cfg.level.getD 0
  let merge := if src.isCondition then 1 else mergeReported a src
  let ctx := ctxOr (pendingCtx a src)
  let cleared : Alc := { a with occ := a.occ.set src.index none }
  let served : Alc :=
    match cfg.mode with
    | .fast => cleared
    | .latched =>
      { cleared with
        stack := { source := src, level := level, grade := cfg.grade, merge := merge, ctx := ctx } :: a.stack }
  queueNotice
    { source := src, level := level, grade := cfg.grade, mode := cfg.mode, merge := merge,
      depth := served.stack.length, ctx := ctx }
    (s.setAlc served)

/-- The evaluation (R177): serves until no pending source is eligible. Each serve takes its source out of the pending
set, so thirteen rounds reach the end. -/
def evaluateRounds : Nat → State → State
  | 0, s => s
  | n + 1, s =>
    match nextServed s.alc with
    | none => s
    | some src => evaluateRounds n (serve src s)

/-- An evaluation of the pending set (R177). -/
def evaluate (s : State) : State :=
  evaluateRounds AlertSource.all.length s

/-! ### The reaction in force -/

/-- The highest grade on the stack, NOTE when it is empty (R180). -/
def stackReaction (stack : List StackEntry) : Grade :=
  stack.foldl (fun g e => g.max e.grade) .note

/-- The reaction in force is handed on when it has changed (R183): to MOU, whose mode follows a change to STOP (R95)
and whose speed target is formed again (R100), and to HTC, whose heat target is formed again (R152). -/
def handReaction (s : State) : State :=
  let g := stackReaction s.alc.stack
  if g = s.alc.reaction then s
  else
    let s1 := s.modAlc fun a => { a with reaction := g }
    let s2 := if g = .stop then stopReaction s1 else s1
    formHeat (formSpeed s2)

/-- The log and, where the event is an evaluation point (R177), the evaluation. -/
def logAndEvaluate (s : State) : State :=
  let due := s.alc.evalDue || !s.alc.fresh.isEmpty
  let s1 := s.modAlc fun a => { logFresh a with fresh := [], evalDue := false }
  if due then evaluate s1 else s1

/-- What ends every event: the log and the evaluation, the reaction handed on once, and then, with all the event's
effects complete, LTX's choice (R14, R173, R177, R183). -/
def settle (s : State) : State :=
  ltxChoose (handReaction (logAndEvaluate s))

end Sys2Proof.Machine
end

