-- ==== Sys2Proof/Machine/ProfileStore.lean ====
section
/-! DEFINITION. PFS: the inactive bank (R36), storing pieces (R28, R37 to R40), the check word (R42), the end of the
bank check (R43, R44), and reference counts (R47). -/

namespace Sys2Proof.Machine

/-- A bank of a slot. -/
def Slot.get (x : Slot) : BankId → Bank
  | .a => x.a
  | .b => x.b

/-- A bank of a slot, replaced. -/
def Slot.put (x : Slot) (id : BankId) (b : Bank) : Slot :=
  match id with
  | .a => { x with a := b }
  | .b => { x with b := b }

/-- The other bank. -/
def BankId.other : BankId → BankId
  | .a => .b
  | .b => .a

/-- A change of one bank. -/
def State.modBank (s : State) (slot : Fin 8) (id : BankId) (f : Bank → Bank) : State :=
  s.setPfs { s.pfs with slots := vmod s.pfs.slots slot fun x => x.put id (f (x.get id)) }

/-- The bank of the state. -/
def bankOf (s : State) (slot : Fin 8) (id : BankId) : Bank :=
  s.pfs.slots[slot].get id

/-- The slot's ACTIVE bank (R35). -/
def activeBank (x : Slot) : Option BankId :=
  if x.a.state = .active then some .a
  else if x.b.state = .active then some .b
  else none

/-- The inactive bank (R36): the other bank of the ACTIVE one, else the one that is not FREE, else bank A. -/
def inactiveBank (x : Slot) : BankId :=
  match activeBank x with
  | some id => id.other
  | none => if x.a.state ≠ .free then .a else if x.b.state ≠ .free then .b else .a

/-! ### Pieces -/

/-- A stored piece takes its place by index, replacing an earlier one (R38, R39). -/
def insertPiece (i : Nat) (p : Piece) : List (Nat × Piece) → List (Nat × Piece)
  | [] => [(i, p)]
  | (j, q) :: rest =>
    if i < j then (i, p) :: (j, q) :: rest
    else if i = j then (i, p) :: rest
    else (j, q) :: insertPiece i p rest

/-- The clamp of a table value (R28): 4096 for grid and curve values, 4094 for thresholds. -/
def clampValue (piece v : Nat) : Nat :=
  if piece ≤ 104 then min v 4096 else min v 4094

/-- The clamp of the ink limit (R28). -/
def clampInk (v : Nat) : Nat :=
  max 4096 (min v 24576)

/-- What is stored of a TABLE body (R28, R40). An unchecked body belongs to no piece; the range step refuses it. -/
def storedPiece (piece : Nat) : TableBody → Piece
  | .values vs => .values (vs.map fun v => clampValue piece v.toNat)
  | .header h =>
    .header { nominal := h.nominal.toNat, tolerance := h.tolerance.toNat, minDwell := h.minDwell.toNat,
              inkLimit := clampInk h.inkLimit.toNat, name := h.name, check := h.check.toNat }
  | .unchecked _ => .values []

/-- A piece written into a FREE or STAGING bank (R39). -/
def writePiece (i : Nat) (p : Piece) (b : Bank) : Bank :=
  { b with state := .staging, pieces := insertPiece i p b.pieces }

/-- The piece stored at an index. -/
def pieceAt (b : Bank) (i : Nat) : Option Piece :=
  (b.pieces.find? fun p => p.1 == i).map Prod.snd

/-- The stored values of a grid, curve or matrix piece. -/
def pieceValuesAt (b : Bank) (i : Nat) : List Nat :=
  match pieceAt b i with
  | some (.values vs) => vs
  | _ => []

/-- The stored header of a bank (piece 121). -/
def headerOf (b : Bank) : Option Header :=
  match pieceAt b 121 with
  | some (.header h) => some h
  | _ => none

/-- The piece set is complete (R38). -/
def complete (b : Bank) : Bool :=
  (List.range Config.pieces).all fun i => hasPiece b i

/-- The number of indices missing from the piece set (R38, R41). -/
def missingCount (b : Bank) : Nat :=
  Config.pieces - pieceCount b

/-! ### The bank check -/

/-- What a piece adds to the check word (R42). -/
def pieceSum : Piece → Nat
  | .values vs => vs.sum
  | .header h => h.nominal + h.tolerance + h.minDwell + h.inkLimit + ((charsBytes h.name).map BitVec.toNat).sum

/-- The check word (R42): the sum of every stored value but the expected check word, modulo 65,536. -/
def checkWord (b : Bank) : Nat :=
  (b.pieces.map fun p => pieceSum p.2).sum % 65536

/-- The expected check word stored in the header (R43). -/
def expectedWord (b : Bank) : Nat :=
  match headerOf b with
  | some h => h.check
  | none => 0

/-- What happens to the slot's other bank on a match (R43 step 2). -/
def supersede (b : Bank) : Bank :=
  if b.state = .active then (if 0 < b.count then { b with state := .draining } else Bank.free) else b

/-- The check ends with a match (R43 steps 1 to 3). -/
def commitBank (slot : Fin 8) (id : BankId) (s : State) : State :=
  (s.modBank slot id fun b => { b with state := .active, count := 0 }).modBank slot id.other supersede

/-- The check ends with a mismatch (R44). -/
def revertBank (slot : Fin 8) (id : BankId) (s : State) : State :=
  s.modBank slot id fun b => { b with state := .staging }

/-! ### Reference counts (R47) -/

/-- A bind: the count rises by one. -/
def bindBank (slot : Fin 8) (id : BankId) (s : State) : State :=
  s.modBank slot id fun b => { b with count := b.count + 1 }

/-- A release of a bank: the count falls by one, and a DRAINING bank at 0 becomes FREE. -/
def releaseOf (b : Bank) : Bank :=
  if b.state = .draining ∧ b.count - 1 = 0 then Bank.free else { b with count := b.count - 1 }

/-- A release (R47). -/
def releaseBank (slot : Fin 8) (id : BankId) (s : State) : State :=
  s.modBank slot id releaseOf

/-- A bank at CLEAR_LINE (R50): its count 0, and FREE if it was DRAINING. -/
def clearBank (b : Bank) : Bank :=
  if b.state = .draining then Bank.free else { b with count := 0 }

/-- PFS at CLEAR_LINE (R50). -/
def clearPfs (s : State) : State :=
  s.setPfs { s.pfs with slots := vmap (fun x => { a := clearBank x.a, b := clearBank x.b }) s.pfs.slots }

end Sys2Proof.Machine
end

