-- ==== Sys2Proof/Machine/ColourPath.lean ====
section
/-! DEFINITION. CPA's arithmetic: the five stages that turn a pixel's job colour into six drop levels (R57, R61 to
R66). -/

namespace Sys2Proof.Machine

/-- Stage 1 on one axis (R61): the cell index and the fraction. -/
def axisCell (a : Nat) : Nat × Nat :=
  let x := a + a / 128
  let i := min (x / 32) 7
  (i, x - 32 * i)

/-- The three axes ordered by fraction, largest first, equal fractions in axis order (R62). -/
def axisOrder (f0 f1 f2 : Nat) : Fin 3 × Fin 3 × Fin 3 :=
  if f1 ≤ f0 then
    if f2 ≤ f1 then (0, 1, 2) else if f2 ≤ f0 then (0, 2, 1) else (2, 0, 1)
  else
    if f2 ≤ f0 then (1, 0, 2) else if f2 ≤ f1 then (1, 2, 0) else (2, 1, 0)

/-- A node's index from its coordinates (section 3.2). -/
def nodeIndex (v : Vector Nat 3) : Nat :=
  81 * v[0] + 9 * v[1] + v[2]

/-- A node's value for a channel: grid piece node / 9 carries nine nodes of six channels each (R37). -/
def gridValue (b : Bank) (node : Nat) (ch : Fin 6) : Nat :=
  (pieceValuesAt b (node / 9)).getD (6 * (node % 9) + ch.val) 0

/-- The blend of stage 2 for one channel (R63). -/
def blend (c0 c1 c2 c3 fp fq fs : Nat) : Nat :=
  (c0 * (32 - fp) + c1 * (fp - fq) + c2 * (fq - fs) + c3 * fs + 16) / 32

/-- Stages 1 and 2 for a pixel: the interpolated ink amounts (R61 to R63). -/
def interpolate (b : Bank) (a0 a1 a2 : Nat) : Vector Nat 6 :=
  let cells : Vector (Nat × Nat) 3 := #v[axisCell a0, axisCell a1, axisCell a2]
  let order := axisOrder cells[0].2 cells[1].2 cells[2].2
  let fp := cells[order.1].2
  let fq := cells[order.2.1].2
  let fs := cells[order.2.2].2
  let n0 : Vector Nat 3 := vmap Prod.fst cells
  let n1 := vmod n0 order.1 (· + 1)
  let n2 := vmod n1 order.2.1 (· + 1)
  let n3 := vmod n2 order.2.2 (· + 1)
  Vector.ofFn fun ch =>
    blend (gridValue b (nodeIndex n0) ch) (gridValue b (nodeIndex n1) ch) (gridValue b (nodeIndex n2) ch)
      (gridValue b (nodeIndex n3) ch) fp fq fs

/-- Stage 3, the ink limit (R64). -/
def limitInk (limit : Nat) (v : Vector Nat 6) : Vector Nat 6 :=
  let total := v.toList.sum
  if limit < total then vmap (fun c => c * limit / total) v else v

/-- Stage 4, the yield curve of a grade and channel (R65). -/
def yieldCurve (b : Bank) (grade : Nat) (ch : Fin 6) (v : Nat) : Nat :=
  let ys := pieceValuesAt b (81 + 6 * grade + ch.val)
  let j := min (v / 256) 15
  let h := v - 256 * j
  (ys.getD j 0 * (256 - h) + ys.getD (j + 1) 0 * h + 128) / 256

/-- Stage 5, the dither, against a threshold (R66). -/
def dropLevel (y t : Nat) : Nat :=
  let w := 3 * y
  let base := w / 4096
  if t < w - 4096 * base then base + 1 else base

/-- The threshold of a line, a pixel position and a channel (R66). -/
def threshold (b : Bank) (n x : Nat) (ch : Fin 6) : Nat :=
  (pieceValuesAt b (105 + n % 16)).getD ((x + 4 * ch.val) % 16) 0

/-- The ink limit of a bank (R64). -/
def inkLimitOf (b : Bank) : Nat :=
  match headerOf b with
  | some h => h.inkLimit
  | none => 0

/-- The whole conversion of a pixel with job colour (a0, a1, a2) at position x of line n (R57). -/
def convertPixel (b : Bank) (grade n x a0 a1 a2 : Nat) : Drops :=
  let inks := limitInk (inkLimitOf b) (interpolate b a0 a1 a2)
  Vector.ofFn fun ch => dropLevel (yieldCurve b grade ch inks[ch]) (threshold b n x ch)

end Sys2Proof.Machine
end

