-- ==== Sys2Proof/Machine/HeatControl.lean ====
section
/-! DEFINITION. HTC: the zone step at a reading or an absent entry (R154 to R158, R162, R163), the in-band check
(R159, R160), the warm-up test (R161) and the grade test (R162, R163). -/

namespace Sys2Proof.Machine

/-- A change of HTC. -/
def State.modHtc (s : State) (f : Htc → Htc) : State :=
  s.setHtc (f s.htc)

/-- A zone's target (R153). -/
def heatZoneTarget (h : Htc) (i : Fin 4) : Int :=
  h.target + h.group.trim[i]

/-- Recording a reading and moving the setpoint (R154). -/
def heatRecord (ramp : Nat) (target m : Int) (z : HeatZone) : HeatZone :=
  { z with
    measured := m
    missCount := 0
    missing := false
    setpoint := if z.first then moveToward z.setpoint target ramp else m
    first := true }

/-- The over-temperature flag judged at a reading (R155). -/
def heatOver (limit : Int) (z : HeatZone) : Bool :=
  if z.overTemp then decide (limit - 50 < z.measured) else decide (limit < z.measured)

/-- The integrator of a heat zone (R156 step 2). -/
def heatInteg (ki : Nat) (e : Int) (z : HeatZone) : Int :=
  if (z.output = 1000 ∧ 0 < e) ∨ (z.output = 0 ∧ e < 0) then clampInt z.integ 0 256000
  else clampInt (z.integ + ki * e) 0 256000

/-- The loop of a heat zone, or output 0 with the integrator held while its over-temperature flag is set (R155,
R156). -/
def heatLoop (kp ki : Nat) (z : HeatZone) : HeatZone :=
  if z.overTemp then { z with output := 0 }
  else
    let e := z.setpoint - z.measured
    let i := heatInteg ki e z
    { z with integ := i, output := clampInt ((kp * e).tdiv 16 + i / 256) 0 1000 }

/-- The saturation and recover counters at a reading (R162, R163). -/
def heatCounters (g : HeatGroup) (band : Nat) (z : HeatZone) : HeatZone :=
  { z with
    sat := if z.output = 1000 ∧ z.measured < z.setpoint - band then min 240 (z.sat + 1) else 0
    recov := if z.output ≤ g.recoverLimit then (if z.recov < g.recoverCount then z.recov + 1 else z.recov) else 0 }

/-- The zone step at a reading (R154 to R156 and the counters). -/
def heatReading (g : HeatGroup) (i : Fin 4) (target : Int) (band : Nat) (m : Int) (z : HeatZone) : HeatZone :=
  let z1 := heatRecord g.ramp target m z
  let z2 := { z1 with overTemp := heatOver g.overLimit z1 }
  heatCounters g band (heatLoop g.kp[i] g.ki[i] z2)

/-- The zone step at an absent entry (R157), and the missing flag at the fourth (R158). -/
def heatAbsent (z : HeatZone) : HeatZone :=
  if z.missCount + 1 < 4 then { z with missCount := z.missCount + 1 }
  else if z.missing then { z with missCount := 4 }
  else { z with missCount := 4, missing := true, output := 0, sat := 0, recov := 0 }

/-- One zone's step in a sample event (R149 step 1). -/
def heatZoneStep (i : Fin 4) (entry : Option Int) (h : Htc) : Htc :=
  { h with zones := vmod h.zones i fun z =>
      match entry with
      | some m => heatReading h.group i (heatZoneTarget h i) h.band m z
      | none => heatAbsent z }

/-- The four zone steps (R149 step 1). -/
def heatZoneSteps (entries : Vector (Option Int) 4) (h : Htc) : Htc :=
  allHeatZones.foldl (fun acc i => heatZoneStep i entries[i] acc) h

/-- The zones at which a flag is newly set in the event. -/
def newlySet (flag : HeatZone → Bool) (before after : Htc) : List (Fin 4) :=
  allHeatZones.filter fun i => !flag before.zones[i] && flag after.zones[i]

/-- A condition that holds while some zone's flag is set, judged over the zone steps (R155, R158). The zone of the
context is the one whose flag was set first; the zone steps have no order of their own, so that among several it is an
open choice (notes/assumptions/1.md). -/
def judgeHeatFlag (src : AlertSource) (flag : HeatZone → Bool) (before : Htc) (s : State) : State :=
  let held := before.zones.toList.any flag
  let holds := s.htc.zones.toList.any flag
  if !held && holds then
    let (zone, s1) := chooseOne (newlySet flag before s.htc) s
    match zone with
    | some i => beginCond src (unitCtx s1 (.heatZone i) s1.htc.zones[i].measured) s1
    | none => s1
  else if held && !holds then endCond src s
  else s

/-- A zone is in band of a need with a tolerance (R159, R161). -/
def zoneInBand (h : Htc) (need : Int) (tolerance : Nat) (i : Fin 4) : Bool :=
  !h.zones[i].missing && decide (|h.zones[i].measured - (need + h.group.trim[i])| ≤ tolerance)

/-- A record is in band (R159). -/
def recordInBand (h : Htc) (r : Segment) : Bool :=
  allHeatZones.all (zoneInBand h r.needed r.tolerance)

/-- The records in the arc that fail the in-band check, in list order (R159). -/
def failingRecords (s : State) : List Segment :=
  s.rls.filter fun r => decide (r.calender = .inArc) && !recordInBand s.htc r

/-- The in-band check (R159): failing records are flagged OFF_BAND. -/
def flagOffBand (s : State) : State :=
  s.setRls (s.rls.map fun r =>
    if r.calender = .inArc ∧ recordInBand s.htc r = false then r.setFlags fun f => { f with offBand := true } else r)

/-- The HEAT_OFF_BAND condition judged at a sample (R160), on the failing records found. -/
def judgeOffBand (failing : List Segment) (s : State) : State :=
  let held := s.alc.holds[AlertSource.heatOffBand.index]
  match failing with
  | r :: _ =>
    if held then s
    else
      match allHeatZones.find? fun i => !zoneInBand s.htc r.needed r.tolerance i with
      | some i =>
        beginCond .heatOffBand { unitCtx s (.heatZone i) s.htc.zones[i].measured with seg := some r.tag } s
      | none => s
  | [] => if held then endCond .heatOffBand s else s

/-- The warm-up test (R161). -/
def warmupTest (s : State) : State :=
  if s.mou.mode = .warmup ∧ allHeatZones.all (zoneInBand s.htc s.htc.target s.htc.band) = true then warmupComplete s
  else s

/-- Every zone's counters set: the saturation counters to 0, the recover counters as given. -/
def clearSat (clearRecov : Bool) (h : Htc) : Htc :=
  { h with zones := vmap (fun z => { z with sat := 0, recov := if clearRecov then 0 else z.recov }) h.zones }

/-- Every zone's recover counter set to 0. -/
def clearRecov (h : Htc) : Htc :=
  { h with zones := vmap (fun z => { z with recov := 0 }) h.zones }

/-- The grade test (R162, R163). -/
def gradeTest (s : State) : State :=
  let h := s.htc
  match allHeatZones.find? fun i => decide (h.group.derateCount ≤ h.zones[i].sat) with
  | some i =>
    if h.grade < 3 then
      raiseOcc .gradeChange (unitCtx s (.heatZone i) ((h.grade + 1 : Nat) : Int))
        (s.setHtc { clearSat true h with grade := h.grade + 1 })
    else s.setHtc (clearSat false h)
  | none =>
    if allHeatZones.all (fun i => decide (h.group.recoverCount ≤ h.zones[i].recov)) = true ∧ 0 < h.grade then
      raiseOcc .gradeChange (plainCtx s ((h.grade - 1 : Nat) : Int))
        (s.setHtc { clearRecov h with grade := h.grade - 1 })
    else s

/-- A sample event (R149): the zone steps and their conditions, the in-band check, the warm-up test and the grade
test, in this order. -/
def heatSampleEvent (entries : Vector (Option Int) 4) (s : State) : State :=
  let s1 := s.modHtc (heatZoneSteps entries)
  let s2 := judgeHeatFlag .heatSensor (fun z => z.missing) s.htc (judgeHeatFlag .overTemp (fun z => z.overTemp) s.htc s1)
  let s3 := judgeOffBand (failingRecords s2) (flagOffBand s2)
  gradeTest (warmupTest s3)

/-- HTC at CLEAR_LINE (R166), before the heat target is formed again. -/
def clearHtc (s : State) : State :=
  s.modHtc fun h => { clearSat true h with grade := 0, pHigh := 0 }

end Sys2Proof.Machine
end

