-- ==== Sys2Proof/Machine/LineStore.lean ====
section
/-! DEFINITION. LST and BSQ: freeing (R132), the fill cursor passing on (R52, R54), a LINE frame overtaken in
reception (R13), lost lines (R138), firing and handling (R135 to R137, R141), and bar states (R142 to R144). -/

namespace Sys2Proof.Machine

/-! ### Passing and freeing -/

/-- A line lies before a cursor in run-list order, so that the bar has passed it (R132, R134). END lies after every
line, and the lines of a record that has left the list lie before every cursor. -/
def linePassed (rls : List Segment) (cursor : Option (Tag × Nat)) (t : Tag) (n : Nat) : Bool :=
  match cursor with
  | none => true
  | some (u, m) => if t = u then decide (n < m) else !segBefore u t rls

/-- Every enabled bar has passed a line (R132). -/
def passedByAll (s : State) (t : Tag) (n : Nat) : Bool :=
  s.bars.toList.all fun b => !b.enabled || linePassed s.rls b.cursor t n

/-- The head entry is freed: VOID, or READY and passed by every enabled bar (R132). -/
def freesAtHead (s : State) (e : Entry) : Bool :=
  match e.state with
  | .void => true
  | .ready => passedByAll s e.tag e.line
  | .filling => false

/-- The freeing test (R132): entries are freed from the head up to the first that meets neither test. -/
def freeEntries (s : State) : State :=
  s.setLst (s.lst.dropWhile (freesAtHead s))

/-! ### The fill cursor -/

/-- A record is SEALED and, if it is the filling segment, the cursor passes to the oldest FILLING record, or becomes
absent (R52, R112). -/
def sealSegment (t : Tag) (s : State) : State :=
  let s1 := s.modSegment t fun r => { r with fill := .sealed }
  match s.cpa with
  | some c => if c.tag = t then s1.setCpa (cursorAtOldestFilling s1.rls) else s1
  | none => s1

/-- The fill cursor leaves line n of a record: to line n + 1 at pixel 0, or, after the last line, the record is SEALED
(R53, R54). -/
def fillNextLine (t : Tag) (n lines : Nat) (s : State) : State :=
  if n + 1 < lines then s.setCpa (some { tag := t, line := n + 1, pixel := 0 }) else sealSegment t s

/-- The kind byte of the frame in reception, 0 before it has arrived (R2). -/
def rxKind (l : Lrx) : Byte :=
  l.header.headD 0

/-- The frame tag of the frame in reception, 0 before it has arrived (R2). -/
def rxTag (l : Lrx) : Tag :=
  if 4 ≤ l.header.length then BitVec.ofNat 16 (beNat ((l.header.drop 2).take 2)) else 0

/-- A LINE frame overtaken while it arrives becomes refused (R13): in the slot it holds for ANSWER_ALWAYS, or in a
slot taken now, or, when none is free, discarded with LINK_ERROR(ANSWER_OVERRUN). -/
def overtake (code : AnswerCode) (s : State) : State :=
  match s.lrx.line with
  | .accepted _ _ _ _ slot =>
    if slot ∨ slotFree s = true then s.setLrx { s.lrx with line := .refused code }
    else raiseLinkError .answerOverrun (rxKind s.lrx) (rxTag s.lrx) (s.setLrx { s.lrx with line := .dropped })
  | _ => s

/-- The frame in reception is an accepted LINE frame of a record. -/
def receivingLineOf (t : Tag) (s : State) : Bool :=
  match s.lrx.line with
  | .accepted u _ _ _ _ => decide (u = t)
  | _ => false

/-- `overtake` for an accepted frame of one record. -/
def overtakeOf (t : Tag) (code : AnswerCode) (s : State) : State :=
  if receivingLineOf t s then overtake code s else s

/-- Bar 1 declares line n of the filling segment lost (R138). -/
def declareLost (r : Segment) (n : Nat) (s : State) : State :=
  let s1 := s.setLst (releaseFilling r.tag n s.lst)
  let s2 := fillNextLine r.tag n r.lines s1
  let s3 := overtakeOf r.tag .late s2
  let s4 := s3.modSegment r.tag fun x =>
    ({ x with lost := min 65535 (x.lost + 1) } : Segment).setFlags fun f => { f with lostLines := true }
  raiseOcc .lineLost { unitCtx s4 (.bar bar1) n with seg := some r.tag } s4

/-- Bar 1 has reached an incomplete line of the filling segment (R138). -/
def lineIsLost (s : State) (k : Bar) (r : Segment) (n : Nat) : Bool :=
  decide (k = bar1) && (match s.cpa with
    | some c => decide (c.tag = r.tag) && decide (c.line ≤ n)
    | none => false)

/-! ### Handling a line at a bar -/

/-- The entry at a bar's read point: the oldest, VOID entries aside, whose line the bar has not passed (R136). -/
def readPoint (s : State) (k : Bar) : Option Entry :=
  s.lst.find? fun e => decide (e.state ≠ .void) && !linePassed s.rls s.bars[k].cursor e.tag e.line

/-- The drop levels a bar fires for line n of a record: from the matching READY entry at its read point, through the
channel the channel map assigns to the bar, or blank (R136, R145). -/
def firedLevels (s : State) (k : Bar) (r : Segment) (n : Nat) : List Nat :=
  let blank := List.replicate r.width 0
  match readPoint s k with
  | some e =>
    if e.state = .ready ∧ e.tag = r.tag ∧ e.line = n then e.written.map fun d => d[s.line.channels[k]] else blank
  | none => blank

/-- An ACTIVE bar fires the line at its port (R136); a FAULTED bar fires nothing and the record is flagged BAR_MISSED
(R141). -/
def fireOrMiss (k : Bar) (r : Segment) (n : Nat) (s : State) : State :=
  match s.bars[k].state with
  | .active => s.modBar k fun b => { b with port := b.port ++ [firedLevels s k r n] }
  | .faulted => s.modSegment r.tag fun x => x.setFlags fun f => { f with barMissed := true }
  | .off => s

/-- Every bar of the required set, the enabled bars, is in a printed-by set (R114). -/
def printedByAll (s : State) (r : Segment) : Bool :=
  allBars.all fun k => !s.bars[k].enabled || r.printedBy[k]

/-- The print state after the test of R114. -/
def printTest (s : State) (r : Segment) : Segment :=
  if r.print = .printing ∧ printedByAll s r = true then { r with print := .printed } else r

/-- The handling reported to the run list (R113, R114, R137). -/
def reportHandling (k : Bar) (t : Tag) (n : Nat) (s : State) : State :=
  s.modSegment t fun r =>
    let r1 : Segment := if k = bar1 ∧ n = 0 ∧ r.print = .waiting then { r with print := .printing } else r
    if n + 1 = r.lines then printTest s { r1 with printedBy := r1.printedBy.set k true } else r1

/-- The cursor after a handling: the next line, or line 0 of the next record, or END (R134). -/
def nextCursor (rls : List Segment) (r : Segment) (n : Nat) : Option (Tag × Nat) :=
  if n + 1 < r.lines then some (r.tag, n + 1) else cursorAtHead (segsAfter r.tag rls)

/-- A bar handles line n of a record (R135 to R138, R141): the declaration of a loss first, then the firing, then the
report, and the cursor moves on. -/
def handleLine (k : Bar) (r : Segment) (n : Nat) (s : State) : State :=
  let s1 := if lineIsLost s k r n then declareLost r n s else s
  let s2 := fireOrMiss k r n s1
  let s3 := reportHandling k r.tag n s2
  s3.modBar k fun b => { b with cursor := nextCursor s3.rls r n }

/-- A bar handles every line at its cursor whose due position is at or below P (R135). The first argument bounds the
number of lines. -/
def handleDue (k : Bar) : Nat → State → State
  | 0, s => s
  | fuel + 1, s =>
    match s.bars[k].cursor with
    | none => s
    | some (t, n) =>
      match findSeg t s.rls with
      | none => s
      | some r => if duePosition s.line r k n ≤ s.mou.p then handleDue k fuel (handleLine k r n s) else s

/-- The lines of all records of the list: no bar handles more in one event. -/
def totalLines (l : List Segment) : Nat :=
  (l.map Segment.lines).sum

/-- One enabled bar's part of an increase of P: its port takes the lines handed to it in this event (R135). -/
def barAdvance (s : State) (k : Bar) : State :=
  let s1 := s.modBar k fun b => { b with port := [] }
  if s1.bars[k].enabled then handleDue k (totalLines s1.rls) s1 else s1

/-- The bar sequencer at an increase of P (R135), and the freeing test of the handlings (R132). -/
def barsAdvance (s : State) : State :=
  freeEntries (allBars.foldl barAdvance s)

/-! ### Bar states -/

/-- The lines of a record due at a bar at or below P (R144): n·pitch / 65,536 ≤ d means n·pitch < (d + 1)·65,536. -/
def linesAtOrBelow (g : LineGroup) (p : Nat) (k : Bar) (r : Segment) : Nat :=
  if p < r.start + g.offsets[k] then 0
  else min r.lines (((p - (r.start + g.offsets[k]) + 1) * Config.pitchOne + (r.pitch - 1)) / r.pitch)

/-- The cursor of a bar that enters the enabled set (R144): the first line in run-list order due above P at that bar,
or END. -/
def firstLineAbove (g : LineGroup) (p : Nat) (k : Bar) : List Segment → Option (Tag × Nat)
  | [] => none
  | r :: rest =>
    if linesAtOrBelow g p k r < r.lines then some (r.tag, linesAtOrBelow g p k r) else firstLineAbove g p k rest

/-- A bar at a BAR_CONFIG (R143). -/
def configuredBar (s : State) (k : Bar) (enable : Bool) (b : BarUnit) : BarUnit :=
  if enable then
    { b with
      state := if b.state = .active then .active else if b.fault then .faulted else .active
      cursor := if b.state = .off then firstLineAbove s.line s.mou.p k s.rls else b.cursor }
  else { b with state := .off, cursor := none }

/-- BAR_FAULT holds: some bar is FAULTED (R142). -/
def barFaultHolds (bars : Vector BarUnit 6) : Bool :=
  bars.toList.any fun b => decide (b.state = .faulted)

/-- BAR_FAULT judged over an event (R142). The bar of the context is the first that entered FAULTED; among several in
one event it is an open choice (notes/assumptions/1.md). -/
def judgeBarFault (before : Vector BarUnit 6) (s : State) : State :=
  let held := barFaultHolds before
  let holds := barFaultHolds s.bars
  if !held && holds then
    let (bar, s1) := chooseOne (allBars.filter fun k => decide (s.bars[k].state = .faulted)) s
    match bar with
    | some k => beginCond .barFault (unitCtx s1 (.bar k) 0) s1
    | none => s1
  else if held && !holds then endCond .barFault s
  else s

/-- The effect of a BAR_CONFIG that passed its checks (R115, R132, R143, R144). -/
def barConfigEffect (enabled : Vector Bool 6) (s : State) : State :=
  let s1 := s.setBars (Vector.ofFn fun k => configuredBar s k enabled[k] s.bars[k])
  let s2 := judgeBarFault s.bars s1
  let s3 := s2.setRls (s2.rls.map (printTest s2))
  freeEntries s3

/-- LST and BSQ at CLEAR_LINE (R147). -/
def clearStore (s : State) : State :=
  (s.setLst []).setBars (vmap (fun b => { b with cursor := none }) s.bars)

end Sys2Proof.Machine
end

