-- ==== Sys2Proof/Machine/Tension.lean ====
section
/-! DEFINITION. TNC: the tension source, the tension fabric and the taper (R73 to R75), the zone targets (R76), the
zone loops (R77), the window, break and missing checks (R79 to R81), and the stretch figure (R72). -/

namespace Sys2Proof.Machine

/-- A change of TNC. -/
def State.modTnc (s : State) (f : Tnc → Tnc) : State :=
  s.setTnc (f s.tnc)

/-- The unwind setpoint of a fabric slot's record. -/
def unwindOf (t : Tnc) (slot : Fin 16) : Int :=
  match t.fabrics[slot].record with
  | some f => f.unwind
  | none => 0

/-- The rewind setpoint of a fabric slot's record. -/
def rewindOf (t : Tnc) (slot : Fin 16) : Int :=
  match t.fabrics[slot].record with
  | some f => f.rewind
  | none => 0

/-- The stretch figure of a fabric (R72). -/
def stretchOf (f : Fabric) : Nat :=
  min (f.compliance * f.unwind / 10) Config.maxStretch

/-- A segment count raised or lowered (R69). -/
def modSegs (slot : Fin 16) (f : Nat → Nat) (s : State) : State :=
  s.modTnc fun t => { t with fabrics := vmod t.fabrics slot fun x => { x with segs := f x.segs } }

/-! ### The taper -/

/-- An interpolated target (R75): the product exact, the quotient truncated toward zero. -/
def interpolated (source target : Int) (x : Taper) : Int :=
  source + ((target - source) * (x.q - x.t0)).tdiv x.length

/-- The interpolated FABRIC_UNWIND target of a running taper (R75). -/
def taperUnwind (t : Tnc) (x : Taper) : Int :=
  interpolated x.fromUnwind (unwindOf t x.newFabric) x

/-- The interpolated REWIND target of a running taper (R75). -/
def taperRewind (t : Tnc) (x : Taper) : Int :=
  interpolated x.fromRewind (rewindOf t x.newFabric) x

/-- A taper that has reached its end is over (R75). -/
def unlessEnded (x : Taper) : Option Taper :=
  if x.q = x.t0 + x.length then none else some x

/-- The taper that starts on a change of tension fabric from `old` to `new` (R74). -/
def taperStart (t : Tnc) (p : Nat) (t0 : Int) (old new : Fin 16) : Taper where
  fromUnwind := match t.taper with
    | some x => taperUnwind t x
    | none => unwindOf t old
  fromRewind := match t.taper with
    | some x => taperRewind t x
    | none => rewindOf t old
  newFabric := new
  prevFabric := old
  t0 := t0
  length := t.group.taperLen
  q := clampInt p t0 (t0 + t.group.taperLen)

/-- The tension fabric becomes `new` (R73, R74): a taper starts on a change from one slot to another, none on a change
from none to a slot, and a running taper goes on where the slot stays the same. -/
def setTension (new : Option (Fin 16)) (t0 : Int) (s : State) : State :=
  s.modTnc fun t =>
    match t.tension, new with
    | some o, some n =>
      if o = n then t else { t with tension := some n, taper := unlessEnded (taperStart t s.mou.p t0 o n) }
    | _, _ => { t with tension := new }

/-- The taper's progress at an increase of P (R75). -/
def advanceTaper (s : State) : State :=
  s.modTnc fun t =>
    match t.taper with
    | none => t
    | some x => { t with taper := unlessEnded { x with q := max x.q (clampInt s.mou.p x.t0 (x.t0 + x.length)) } }

/-- A record newly becomes the source (R73): its fabric is the tension fabric, and a taper starts at
T0 = S + nip_dist − taper_len (R74). -/
def sourceBecomes (r : Segment) (t0 : Int) (s : State) : State :=
  setTension (some r.fabric) t0 (s.modTnc fun t => { t with source := some r.tag })

/-- Re-evaluation at an increase of P and at a SEGMENT_OPEN (R73): the newest live record that is newer than the
source and qualifies becomes the source. -/
def tensionQualify (s : State) : State :=
  let newer := match s.tnc.source with
    | some t => segsAfter t s.rls
    | none => s.rls
  match newestLive (tensionQualifies s) newer with
  | some r => sourceBecomes r ((r.start : Int) + s.line.nipDist - s.tnc.group.taperLen) s
  | none => s

/-- Re-evaluation when the record with tag `t` has been released (R73): if it was the source, the newest qualifying
live record takes its place, or INTAKE; the change has T0 = P (R74). -/
def tensionReleased (t : Tag) (s : State) : State :=
  if s.tnc.source = some t then
    match newestLive (tensionQualifies s) s.rls with
    | some r => sourceBecomes r s.mou.p s
    | none => setTension s.tnc.intake s.mou.p (s.modTnc fun x => { x with source := none })
  else s

/-! ### Zone targets and loops -/

/-- A zone is idle: a fabric zone while the tension fabric is none (R76). -/
def zoneIdle (t : Tnc) (z : TensionZone) : Bool :=
  decide (z ≠ .paperUnwind) && t.tension.isNone

/-- The base target of a zone (R76). -/
def baseTarget (t : Tnc) : TensionZone → Int
  | .paperUnwind => t.group.paper
  | .fabricUnwind =>
    match t.taper, t.tension with
    | some x, _ => taperUnwind t x
    | none, some f => unwindOf t f
    | none, none => 0
  | .rewind =>
    match t.taper, t.tension with
    | some x, _ => taperRewind t x
    | none, some f => rewindOf t f
    | none, none => 0

/-- The target of a zone: scaled for standstill in STANDBY, HALTED and WARMUP (R76). -/
def zoneTarget (t : Tnc) (mode : LineMode) (z : TensionZone) : Int :=
  match mode with
  | .standby | .halted | .warmup => baseTarget t z * t.group.standstill / 100
  | .run | .stopping => baseTarget t z

/-- The window check of R79. -/
def windowCheck (g : TensionGroup) (e : Int) (z : TensionRec) : TensionRec :=
  let out := decide ((g.window : Int) < |e|)
  let counts := if z.windowFlag then !out else out
  if counts then
    if g.windowCount ≤ z.windowCounter + 1 then { z with windowFlag := !z.windowFlag, windowCounter := 0 }
    else { z with windowCounter := z.windowCounter + 1 }
  else { z with windowCounter := 0 }

/-- The break check of R80. -/
def breakCheck (g : TensionGroup) (speed reading : Nat) (z : TensionRec) : TensionRec :=
  let counts := if z.breakFlag then decide (g.breakThreshold ≤ reading)
    else decide (reading < g.breakThreshold) && decide (0 < speed)
  if counts then
    if 3 ≤ z.breakCounter + 1 then { z with breakFlag := !z.breakFlag, breakCounter := 0 }
    else { z with breakCounter := z.breakCounter + 1 }
  else { z with breakCounter := 0 }

/-- Recording a reading (R77 step 1). -/
def recordReading (reading : Nat) (z : TensionRec) : TensionRec :=
  { z with last := reading, timer := some Config.missingTimeout, missing := false }

/-- The integrator of a zone loop (R77 step 4). -/
def tensionInteg (ki : Nat) (e : Int) (z : TensionRec) : Int :=
  if (z.output = 1000 ∧ 0 < e) ∨ (z.output = -1000 ∧ e < 0) then clampInt z.integ (-256000) 256000
  else clampInt (z.integ + ki * e) (-256000) 256000

/-- The zone loop at a reading of a zone that is not idle (R77 steps 1 to 6). -/
def tensionLoop (g : TensionGroup) (kp ki : Nat) (target : Int) (speed reading : Nat) (z : TensionRec) : TensionRec :=
  let e := target - reading
  let i := tensionInteg ki e z
  let z1 := { recordReading reading z with
    target := target
    integ := i
    output := clampInt ((kp * e).tdiv 16 + i.tdiv 256) (-1000) 1000 }
  breakCheck g speed reading (windowCheck g e z1)

/-- A reading taken by its zone (R77): a reading of an idle zone is only recorded. -/
def takeReading (z : TensionZone) (reading : Nat) (s : State) : State :=
  s.modTnc fun t =>
    let i := tensionIndex z
    { t with zones := vmod t.zones i fun x =>
        if zoneIdle t z then recordReading reading x
        else tensionLoop t.group t.group.kp[i] t.group.ki[i] (zoneTarget t s.mou.mode z) s.mou.speed reading x }

/-- The expiry of a zone's missing timer (R81). -/
def zoneMissing (z : TensionRec) : TensionRec :=
  { z with timer := none, missing := true, windowCounter := 0, breakCounter := 0 }

/-- TENSION_WINDOW holds: some zone's window flag or missing flag is set (R79). -/
def windowHolds (t : Tnc) : Bool :=
  t.zones.toList.any fun z => z.windowFlag || z.missing

/-- WEB_BREAK holds: some zone's break flag is set (R80). -/
def breakHolds (t : Tnc) : Bool :=
  t.zones.toList.any fun z => z.breakFlag

/-- The two conditions judged over an event of zone `z` that started with TNC as `before` (R79, R80), with that zone,
P and its last reading as context. -/
def judgeTension (z : TensionZone) (before : Tnc) (s : State) : State :=
  let ctx := unitCtx s (.tensionZone z) s.tnc.zones[tensionIndex z].last
  judgeCond .tensionWindow (windowHolds before) (windowHolds s.tnc) ctx
    (judgeCond .webBreak (breakHolds before) (breakHolds s.tnc) ctx s)

/-- TNC at CLEAR_LINE (R83). -/
def clearTnc (s : State) : State :=
  s.modTnc fun t =>
    { t with
      fabrics := vmap (fun x => { x with segs := 0 }) t.fabrics
      source := none
      tension := t.intake
      taper := none }

end Sys2Proof.Machine
end

