-- ==== Sys2Proof/Machine/RunList.lean ====
section
/-! DEFINITION. RLS: opening a segment (R89, R90, R107 to R110), aborting one (R120 to R123), its way through the
calender (R116, R117), its release (R118), the removal after its trace (R125), CLEAR_LINE (R127), and the increase of
P (R86). -/

namespace Sys2Proof.Machine

/-! ### Opening -/

/-- The header of a slot's ACTIVE bank, with the bank (R48). -/
def activeHeader (s : State) (slot : Fin 8) : Option (BankId × Header) :=
  match activeBank s.pfs.slots[slot] with
  | some id =>
    match headerOf (bankOf s slot id) with
    | some h => some (id, h)
    | none => none
  | none => none

/-- The intake fabric's slot and record (R72). -/
def intakeFabric (s : State) : Option (Fin 16 × Fabric) :=
  match s.tnc.intake with
  | some slot =>
    match s.tnc.fabrics[slot].record with
    | some f => some (slot, f)
    | none => none
  | none => none

/-- The needed temperature at a grade (R107). -/
def neededTemp (nominal grade : Nat) : Int :=
  (nominal : Int) - Config.gradeStep * grade

/-- The segment pitch before the clamp (R89). -/
def stretchedPitch (base stretch : Nat) : Nat :=
  base + (base * stretch + 500000) / 1000000

/-- The segment pitch (R89). -/
def segmentPitch (base stretch : Nat) : Nat :=
  min (stretchedPitch base stretch) Config.maxPitch

/-- The length of a segment (R90). -/
def segmentLength (lines pitch : Nat) : Nat :=
  lines * pitch / Config.pitchOne

/-- The start position of a new record (R109). -/
def newStart (s : State) (gap : Nat) : Nat :=
  match s.rls.getLast? with
  | some r => max (r.start + r.length + gap) (s.mou.p + s.line.intakeLead)
  | none => s.mou.p + s.line.intakeLead

/-- The flags of a record nothing has happened to. -/
def Flags.none : Flags where
  lostLines := false
  aborted := false
  spoiled := false
  offBand := false
  dwellShort := false
  barMissed := false
  pitchClamped := false

/-- The record a SEGMENT_OPEN makes (R105, R108). -/
def newSegment (s : State) (slot : Fin 8) (tag : Tag) (lines gap : Nat) (bank : BankId) (h : Header) (fabric : Fin 16)
    (f : Fabric) : Segment :=
  let stretch := stretchOf f
  let pitch := segmentPitch s.line.base stretch
  { tag := tag
    width := s.line.width
    lines := lines
    gap := gap
    start := newStart s gap
    pitch := pitch
    length := segmentLength lines pitch
    slot := slot
    bank := bank
    grade := s.htc.grade
    needed := neededTemp h.nominal s.htc.grade
    tolerance := h.tolerance
    minDwell := h.minDwell
    fabric := fabric
    stretch := stretch
    fill := .filling
    print := .waiting
    calender := .approach
    printedBy := Vector.replicate 6 false
    lost := 0
    flags := { Flags.none with pitchClamped := decide (Config.maxPitch < stretchedPitch s.line.base stretch) }
    traceSent := false
    dwell := Option.none }

/-- Every enabled bar's cursor at END moves to line 0 of a new record (R134). -/
def cursorsOpen (t : Tag) (s : State) : State :=
  s.setBars (vmap (fun b => if b.enabled ∧ b.cursor = none then { b with cursor := some (t, 0) } else b) s.bars)

/-- A new record joins the list at the tail and acts on its neighbours (R52, R69, R47, R108, R110, R134). -/
def addSegment (r : Segment) (s : State) : State :=
  let s1 := s.setRls (s.rls ++ [r])
  let s2 := modSegs r.fabric (· + 1) (bindBank r.slot r.bank s1)
  let s3 := if s2.cpa = none then s2.setCpa (some { tag := r.tag, line := 0, pixel := 0 }) else s2
  let s4 := tensionQualify (cursorsOpen r.tag s3)
  formHeat (formSpeed s4)

/-- The effect of a SEGMENT_OPEN that passed its checks (R108). The two lookups succeed then (R107, checks 4 and 5). -/
def openEffect (slot : Fin 8) (tag : Tag) (lines gap : Nat) (s : State) : State :=
  match activeHeader s slot, intakeFabric s with
  | some (bank, h), some (fabric, f) => addSegment (newSegment s slot tag lines gap bank h fabric f) s
  | _, _ => s

/-! ### Release and removal -/

/-- The references of a record are released (R118): its bank's count and its fabric slot's segment count fall by one. -/
def releaseRefs (r : Segment) (s : State) : State :=
  modSegs r.fabric (· - 1) (releaseBank r.slot r.bank s)

/-- A record leaves the list; cursors at it move on (R106, R134). -/
def removeSegment (t : Tag) (s : State) : State :=
  let s1 := cursorsLeave t s
  s1.setRls (s1.rls.filter fun r => !decide (r.tag = t))

/-- The removal of a record whose trace has been sent (R125). The record the message finds is the RETIRED one whose
trace-sent is set (notes/assumptions/8.md). -/
def traceDone (t : Tag) (s : State) : State :=
  match findSeg t s.rls with
  | some r => if r.calender = .retired ∧ r.traceSent = true then removeSegment t s else s
  | none => s

/-! ### Aborting -/

/-- SEGMENT_ABORT of a record in print state WAITING (R121). -/
def abortWaiting (r : Segment) (s : State) : State :=
  let filling := decide (s.cpa.map FillCursor.tag = some r.tag)
  let s1 := removeSegment r.tag (s.setLst (voidEntries r.tag s.lst))
  let s2 := releaseRefs r s1
  let s3 := if filling then overtakeOf r.tag .unknownSegment (s2.setCpa (cursorAtOldestFilling s2.rls)) else s2
  let s4 := freeEntries (tensionReleased r.tag s3)
  formHeat (formSpeed s4)

/-- The flags of an aborted record (R119). -/
def abortFlags (t : Tag) (s : State) : State :=
  s.modSegment t fun r => r.setFlags fun f => { f with aborted := true, spoiled := true }

/-- SEGMENT_ABORT of a record in print state PRINTING (R122). -/
def abortPrinting (r : Segment) (s : State) : State :=
  let s1 := abortFlags r.tag s
  match s.cpa with
  | some c =>
    if c.tag = r.tag ∧ r.fill = .filling then
      overtakeOf r.tag .late (sealSegment r.tag (s1.setLst (releaseFilling r.tag c.line s1.lst)))
    else s1
  | none => s1

/-- The effect of a SEGMENT_ABORT that found its record (R120 to R123). -/
def abortEffect (t : Tag) (s : State) : State :=
  match findSeg t s.rls with
  | none => s
  | some r =>
    match r.print with
    | .waiting => abortWaiting r s
    | .printing => abortPrinting r s
    | .printed => abortFlags t s

/-! ### Through the calender -/

/-- A record in APPROACH whose lead P has reached enters IN_ARC, and MOU starts its dwell counter (R101, R116). -/
def enterArc (t : Tag) (s : State) : State :=
  s.modSegment t fun r =>
    if r.calender = .approach ∧ leadPosition s.line r ≤ s.mou.p then
      { r with calender := .inArc, dwell := if r.flags.dwellShort then none else some 0 }
    else r

/-- What retirement makes of a record (R117 steps 1, 2 and 4). -/
def retiredRecord (r : Segment) : Segment :=
  let r1 := if r.print = .printed then r else r.setFlags fun f => { f with barMissed := true }
  { r1 with print := .printed, calender := .retired, dwell := none }

/-- A record in IN_ARC whose retire position P has reached is retired (R117), its references are released (R118), and
the tension source is re-evaluated if it was the source (R73). -/
def retireAt (t : Tag) (s : State) : State :=
  match findSeg t s.rls with
  | some r =>
    if r.calender = .inArc ∧ retirePosition s.line r ≤ s.mou.p then
      tensionReleased t (releaseRefs r (s.modSegment t retiredRecord))
    else s
  | none => s

/-- The calender transitions at an increase of P, in list order (R106, R116, R117). -/
def calenderAdvance (s : State) : State :=
  (s.rls.map Segment.tag).foldl (fun acc t => retireAt t (enterArc t acc)) s

/-- P_high follows P (R152). -/
def raiseHigh (s : State) : State :=
  s.setHtc { s.htc with pHigh := max s.htc.pHigh s.mou.p }

/-- Some live record's look-ahead position has been reached by the rise of P_high (R100, R152). -/
def lookAheadNew (before after : State) : Bool :=
  after.rls.any fun r =>
    r.live && lookAheadReached after r after.htc.pHigh && !lookAheadReached before r before.htc.pHigh

/-- The calender states of the list's records: a change of one is an event of the speed target (R100). -/
def calenderStates (s : State) : List CalenderState :=
  s.rls.map Segment.calender

/-- Which records of the list are live: a record leaving the live set is an event of the heat target (R152). -/
def liveStates (s : State) : List Bool :=
  s.rls.map Segment.live

/-- An increase of P taken by every position-keyed block (R86): P_high (R152), the bars (R135), the taper and the
tension source (R73, R75), the calender transitions (R116, R117), and each target where a term of it has changed
(R100, R152). -/
def increaseOfP (s : State) : State :=
  let s1 := raiseHigh (s.setMou { s.mou with p := s.mou.p + 1 })
  let s2 := tensionQualify (advanceTaper (barsAdvance s1))
  let s3 := calenderAdvance s2
  let s4 := if lookAheadNew s s2 ∨ calenderStates s3 ≠ calenderStates s2 then formSpeed s3 else s3
  if lookAheadNew s s2 ∨ liveStates s3 ≠ liveStates s2 then formHeat s4 else s4

/-! ### CLEAR_LINE -/

/-- MOU at CLEAR_LINE (R104). -/
def clearMou (s : State) : State :=
  s.setMou { s.mou with p := 0, pLast := 0 }

/-- ALC at CLEAR_LINE (R189): every pending occurrence is cleared; nothing becomes newly pending and no evaluation
starts. -/
def clearAlc (s : State) : State :=
  s.modAlc fun a => { a with occ := Vector.replicate 13 none, fresh := [], evalDue := false }

/-- The effect of a CLEAR_LINE that passed its checks, block by block (R127). -/
def clearEffect (s : State) : State :=
  let s1 := clearPfs s
  let s2 := overtake .unknownSegment ((clearStore s1).setCpa none)
  let s3 := clearMou (s2.setRls [])
  clearAlc (formHeat (formSpeed (clearHtc (clearTnc s3))))

end Sys2Proof.Machine
end

