-- ==== Sys2Proof/Machine/Receiver.lean ====
section
/-! DEFINITION. LRX: framing (R1, R2), LINE frames (R8 to R13), the link timer (R20), and what the end of a frame
does to the line in reception (R11, R12, R53, R58). -/

namespace Sys2Proof.Machine

/-- A change of LRX. -/
def State.modLrx (s : State) (f : Lrx → Lrx) : State :=
  s.setLrx (f s.lrx)

/-- LRX with no frame in reception, in a receive state with an idle count. A slot held for the frame is released with
it (R4, R10, R12). -/
def Lrx.without (l : Lrx) (state : RxState) (idle : Nat) : Lrx :=
  { l with state := state, idle := idle, header := [], payload := [], trailer := [], crc := 0xFFFF, line := .undecided }

/-- The payload length field of the header (section 11.3). -/
def rxLength (l : Lrx) : Nat :=
  beNat ((l.header.drop 4).take 2)

/-- The frame in reception as a frame. -/
def rxFrame (l : Lrx) : Frame where
  kind := rxKind l
  flags := (l.header.drop 1).headD 0
  tag := rxTag l
  reserved := BitVec.ofNat 16 (beNat ((l.header.drop 6).take 2))
  payload := l.payload

/-- A frame completed with a good CRC, or idle fill, restarts a running link timer from the full timeout (R20). -/
def restartTimer (s : State) : State :=
  match s.lrx.timer with
  | some _ => s.modLrx fun l => { l with timer := some s.line.linkTimeout }
  | none => s

/-- A frame completed with a good CRC (R20): it ends a LINK_LOST condition, and in WARMUP or RUN it restarts the link
timer. -/
def goodFrame (s : State) : State :=
  let s1 := if s.mou.mode.linkTimed then s.modLrx fun l => { l with timer := some s.line.linkTimeout } else s
  if s1.alc.holds[AlertSource.linkLost.index] then endCond .linkLost s1 else s1

/-! ### LINE frames -/

/-- A LINE frame needs an answer slot now (R10): it takes one, or is discarded with ANSWER_OVERRUN. -/
def lineWithSlot (line : LineRx) (s : State) : State :=
  if slotFree s then s.modLrx fun l => { l with line := line }
  else raiseLinkError .answerOverrun (rxKind s.lrx) (rxTag s.lrx) (s.modLrx fun l => { l with line := .dropped })

/-- The LINE frame's form is good (R8). -/
def lineFormGood (f : Frame) (length count : Nat) : Bool :=
  decide (length = 10 + 3 * count) && decide (1 ≤ count) && decide (count ≤ Config.maxPixels)
    && decide (f.reserved = 0) && (decide (f.flags = 0x00) || decide (f.flags = 0x01))

/-- The cursor check (R9): the first row that applies. -/
def cursorCheck (s : State) (seg : Tag) (line offset count : Nat) : Option AnswerCode :=
  match findSeg seg s.rls with
  | none => some .unknownSegment
  | some r =>
    if r.fill = .sealed then some .late
    else
      match s.cpa with
      | none => some .outOfOrder
      | some c =>
        if c.tag ≠ seg then some .outOfOrder
        else if line < c.line then some .late
        else if c.line < line then some .outOfOrder
        else if offset ≠ c.pixel then some .outOfOrder
        else if r.width < offset + count then some .outOfRange
        else if offset = 0 ∧ freeCount s = 0 then some .storeFull
        else none

/-- The entry allocated for a LINE frame with pixel offset 0 (R130). -/
def newEntry (seg : Tag) (line : Nat) : Entry where
  tag := seg
  line := line
  state := .filling
  written := []
  provisional := []

/-- An accepted LINE frame (R9, R130): with pixel offset 0 an entry is allocated at the tail. -/
def acceptLine (seg : Tag) (line offset count : Nat) (slot : Bool) (s : State) : State :=
  let s1 := s.modLrx fun l => { l with line := .accepted seg line offset count slot }
  if offset = 0 then s1.setLst (s1.lst ++ [newEntry seg line]) else s1

/-- The checks of a LINE frame at its tenth payload byte (R8, R9, R10). -/
def checkLine (s : State) : State :=
  let f := rxFrame s.lrx
  let seg : Tag := BitVec.ofNat 16 (beNat (f.payload.take 2))
  let line := beNat ((f.payload.drop 2).take 2)
  let offset := beNat ((f.payload.drop 4).take 4)
  let count := beNat ((f.payload.drop 8).take 2)
  if lineFormGood f (rxLength s.lrx) count then
    match cursorCheck s seg line offset count with
    | some code => lineWithSlot (.refused code) s
    | none =>
      if f.flags = 0x01 then
        if slotFree s then acceptLine seg line offset count true s else lineWithSlot .dropped s
      else acceptLine seg line offset count false s
  else lineWithSlot (.refused .malformed) s

/-- A pixel of an accepted LINE frame has arrived (R57): converted with the record's bound bank and grade, and written
provisionally into the line's entry. -/
def takePixel (s : State) : State :=
  match s.lrx.line with
  | .accepted seg line offset _ _ =>
    match findSeg seg s.rls with
    | some r =>
      let k := (s.lrx.payload.length - 10) / 3 - 1
      let at3 := s.lrx.payload.drop (s.lrx.payload.length - 3)
      let d := convertPixel (bankOf s r.slot r.bank) r.grade line (offset + k) (at3.getD 0 0).toNat (at3.getD 1 0).toNat
        (at3.getD 2 0).toNat
      s.setLst (modFilling seg line (fun e => { e with provisional := e.provisional ++ [d] }) s.lst)
    | none => s
  | _ => s

/-- What a payload byte does for a LINE frame once it has been taken in: the checks at the tenth byte, MALFORMED when a
payload below ten bytes ends (R8), a pixel at every third byte after the tenth (R57). -/
def linePayloadByte (s : State) : State :=
  let n := s.lrx.payload.length
  if n = 10 then checkLine s
  else if n < 10 then
    if n = rxLength s.lrx then lineWithSlot (.refused .malformed) s else s
  else if (n - 10) % 3 = 0 then takePixel s
  else s

/-- An accepted LINE frame that ends badly or is cut (R12, R58): its provisional pixels are discarded, and the entry
its offset-0 acceptance allocated is released. -/
def discardLine (s : State) : State :=
  match s.lrx.line with
  | .accepted seg line offset _ _ =>
    if offset = 0 then s.setLst (releaseFilling seg line s.lst)
    else s.setLst (modFilling seg line (fun e => { e with provisional := [] }) s.lst)
  | _ => s

/-- An accepted LINE frame with a good CRC (R11, R53): its pixels count as written, the fill pixel advances, and a
complete line makes its entry READY and moves or seals the cursor. -/
def commitLine (seg : Tag) (line offset count : Nat) (s : State) : State :=
  match findSeg seg s.rls with
  | none => s
  | some r =>
    let done := decide (offset + count = r.width)
    let s1 := s.setLst (modFilling seg line (fun e =>
      { e with
        written := e.written ++ e.provisional
        provisional := []
        state := if done then .ready else .filling }) s.lst)
    if done then fillNextLine seg line r.lines s1
    else s1.setCpa (some { tag := seg, line := line, pixel := offset + count })

/-- The answer to a LINE frame: kind LINE, command code 0 (section 1.2). -/
def lineAnswer (tag : Tag) (code : AnswerCode) : Answer where
  tag := tag
  kind := kindLine
  cmd := 0
  code := code
  detail := 0
  reply := []

/-- The LINE frame in reception ends with a good CRC (R10, R11, R13): an accepted one is committed, and answered
ACCEPTED in the slot it holds; a refused one is answered with its code. -/
def completeLine (s : State) : State :=
  let tag := rxTag s.lrx
  let closed := s.modLrx fun l => l.without .hunt 0
  match s.lrx.line with
  | .accepted seg line offset count slot =>
    let s1 := commitLine seg line offset count closed
    if slot then queueAnswer (lineAnswer tag .accepted) s1 else s1
  | .refused code => queueAnswer (lineAnswer tag code) closed
  | .undecided | .dropped => closed

/-! ### Framing -/

/-- The frame in reception is dropped as a framing error (R2): LINK_ERROR(FRAMING) with the kind and tag as far as
received; an accepted LINE frame is discarded (R12); LRX enters the state given. -/
def framingError (state : RxState) (idle : Nat) (s : State) : State :=
  raiseLinkError .framing (rxKind s.lrx) (rxTag s.lrx) ((discardLine s).modLrx fun l => l.without state idle)

/-- A header byte (R1); after the eighth the payload length is examined. -/
def takeHeaderByte (b : Byte) (s : State) : State :=
  let s1 := s.modLrx fun l => { l with header := l.header ++ [b], crc := crcByte l.crc b }
  if s1.lrx.header.length < 8 then s1
  else if Config.maxPayload < rxLength s1.lrx then framingError .skip 0 s1
  else if rxLength s1.lrx = 0 then
    let s2 := s1.modLrx fun l => { l with state := .trailer }
    if rxKind s2.lrx = kindLine then lineWithSlot (.refused .malformed) s2 else s2
  else s1.modLrx fun l => { l with state := .payload }

/-- A payload byte (R1). -/
def takePayloadByte (b : Byte) (s : State) : State :=
  let s1 := s.modLrx fun l => { l with payload := l.payload ++ [b], crc := crcByte l.crc b }
  let s2 := if rxKind s1.lrx = kindLine then linePayloadByte s1 else s1
  if rxLength s2.lrx ≤ s2.lrx.payload.length then s2.modLrx fun l => { l with state := .trailer } else s2

/-- A byte in TRAILER (R1), or a data symbol in place of the end mark (R2). -/
def takeTrailerByte (b : Byte) (s : State) : State :=
  if s.lrx.trailer.length < 2 then s.modLrx fun l => { l with trailer := l.trailer ++ [b] }
  else framingError .skip 0 s

/-- A data symbol (R1). -/
def takeData (b : Byte) (s : State) : State :=
  match s.lrx.state with
  | .hunt | .skip => s
  | .header => takeHeaderByte b s
  | .payload => takePayloadByte b s
  | .trailer => takeTrailerByte b s

/-- A start mark (R1, R2). -/
def takeStart (s : State) : State :=
  match s.lrx.state with
  | .hunt =>
    if Config.gapSymbols ≤ s.lrx.idle then s.modLrx fun l => l.without .header 0
    else raiseLinkError .framing 0 0 (s.modLrx fun l => l.without .skip 0)
  | .skip => s
  | .header | .payload | .trailer => framingError .skip 0 s

/-- Idle fill (R1, R2, R20): it restarts a running link timer in every receive state. -/
def takeIdle (s : State) : State :=
  let s1 := restartTimer s
  match s1.lrx.state with
  | .hunt => s1.modLrx fun l => { l with idle := l.idle + 1 }
  | .skip => s1
  | .header | .payload | .trailer => framingError .hunt 1 s1

/-- The ABORT mark (R4): the frame in reception and the one in the intake buffer are discarded unanswered. -/
def takeAbort (s : State) : State :=
  (discardLine s).modLrx fun l => { l.without .hunt 0 with intake := none }

end Sys2Proof.Machine
end

