-- ==== Sys2Proof/Machine/CommandUnit.lean ====
section
/-! DEFINITION. CMU: the checking sequence of a control frame (R21 to R29) and its effect, the control buffers and the
answer (R5, R6, R30), the bank check's end (R43, R44) and the hardware reset (R188). -/

namespace Sys2Proof.Machine

/-! ### The range step (R24, R25) -/

/-- `low ≤ x ≤ high`. -/
def inRange (low x high : Nat) : Bool :=
  decide (low ≤ x) && decide (x ≤ high)

/-- `low ≤ x ≤ high` for a signed field. -/
def inRangeInt (low x high : Int) : Bool :=
  decide (low ≤ x) && decide (x ≤ high)

/-- The base pitch of an encoder ratio (R87). -/
def basePitch (encNum encDen : Nat) : Nat :=
  (encNum * 65536 + encDen / 2) / encDen

/-- The six channels of a channel map are all different. -/
def channelsDiffer (cs : List Nat) : Bool :=
  decide cs.Nodup

/-- LINE_CONFIG's range step (R24), with the base pitch and the bar span (R87). -/
def lineRangeOk (c : LineFields) : Bool :=
  let chans := [c.ch1.toNat, c.ch2.toNat, c.ch3.toNat, c.ch4.toNat, c.ch5.toNat, c.ch6.toNat]
  let base := basePitch c.encNum.toNat c.encDen.toNat
  inRange 64 c.width.toNat 76800 && decide (1 ≤ c.encNum.toNat) && inRange 1 c.encDen.toNat 1024
    && decide (0 < c.off2.toNat) && decide (c.off2.toNat < c.off3.toNat) && decide (c.off3.toNat < c.off4.toNat)
    && decide (c.off4.toNat < c.off5.toNat) && decide (c.off5.toNat < c.off6.toNat)
    && chans.all (fun ch => decide (ch ≤ 5)) && channelsDiffer chans && decide (c.off6.toNat < c.nipDist.toNat)
    && decide (1 ≤ c.arcLen.toNat) && inRange 1000 c.countsPerM.toNat 1000000 && inRange 50 c.linkTimeout.toNat 5000
    && decide (c.holdMark.toNat < c.resumeMark.toNat) && decide (c.resumeMark.toNat ≤ 16384)
    && inRange 1 c.creep.toNat 50 && inRange 1 c.accel.toNat 100 && inRange Config.minPitch base Config.maxPitch
    && decide (c.off6.toNat * Config.pitchOne / base ≤ Config.maxSpanLines)

/-- HEAT_CONFIG's range step (R150). -/
def heatRangeOk (c : HeatFields) : Bool :=
  inRangeInt 0 c.idle.toInt 2300 && inRange 5 c.idleBand.toNat 200 && inRangeInt 0 c.standby.toInt 2300
    && decide (c.dHeat.toNat ≤ 16777215) && inRange 1 c.ramp.toNat 50 && inRangeInt (-200) c.trim0.toInt 200
    && inRangeInt (-200) c.trim1.toInt 200 && inRangeInt (-200) c.trim2.toInt 200 && inRangeInt (-200) c.trim3.toInt 200
    && inRangeInt 1300 c.overLimit.toInt 2600 && decide (c.idle.toInt < c.overLimit.toInt)
    && decide (c.standby.toInt < c.overLimit.toInt) && inRange 4 c.derateCount.toNat 240
    && inRange 500 c.recoverLimit.toNat 990 && inRange 40 c.recoverCount.toNat 2400

/-- TENSION_CONFIG's range step (R78). -/
def tensionRangeOk (c : TensionFields) : Bool :=
  inRange 100 c.paper.toNat 8000 && inRange 10 c.window.toNat 5000 && decide (1 ≤ c.windowCount.toNat)
    && decide (c.breakThreshold.toNat ≤ 5000) && inRange 10 c.standstill.toNat 100
    && inRange 1 c.taperLen.toNat 1000000

/-- ALERT_CONFIG's range step (R25, R168): fixed sources refused, level 0, 1, 2 or OFF, FAST only with NOTE and only
for an occurrence source. -/
def alertRangeOk (source level grade mode : Nat) : Bool :=
  inRange 3 source 12 && (decide (level ≤ 2) || decide (level = 0xFF)) && decide (grade ≤ 3) && decide (mode ≤ 1)
    && (decide (mode = 0) || (decide (grade = 0) && decide (8 ≤ source)))

/-- FABRIC_LOAD's range step (R25). -/
def fabricRangeOk (c : FabricFields) : Bool :=
  decide (c.slot.toNat ≤ 15) && inRange 100 c.unwind.toNat 8000 && inRange 100 c.rewind.toNat 8000
    && decide (c.compliance.toNat ≤ 2000) && inRangeInt 1200 c.maxTemp.toInt 2400

/-- The range step of a TABLE frame (R23, R29). -/
def tableRangeOk (slot piece : Nat) (body : TableBody) : Bool :=
  decide (slot ≤ 7) && decide (piece ≤ 121) && (match body with
    | .header h => inRange 1200 h.nominal.toNat 2300 && inRange 5 h.tolerance.toNat 200
        && inRange 1000 h.minDwell.toNat 120000
    | _ => true)

/-- The range step (R21 step 2, R23 to R25). -/
def rangeOk : Request → Bool
  | .table slot piece body => tableRangeOk slot.toNat piece.toNat body
  | .lineConfig c => lineRangeOk c
  | .heatConfig c => heatRangeOk c
  | .tensionConfig c => tensionRangeOk c
  | .barConfig bars => decide (bars.toNat % 2 = 1) && decide (bars.toNat < 64)
  | .alertConfig source level grade mode => alertRangeOk source.toNat level.toNat grade.toNat mode.toNat
  | .alertHold threshold => decide (threshold.toNat ≤ 3)
  | .fabricLoad c => fabricRangeOk c
  | .splice slot => decide (slot.toNat ≤ 15)
  | .profileCommit slot => decide (slot.toNat ≤ 7)
  | .profileDiscard slot => decide (slot.toNat ≤ 7)
  | .segmentOpen slot _ lines _ => decide (slot.toNat ≤ 7) && decide (1 ≤ lines.toNat)
  | .run speed => inRange 1 speed.toNat 500
  | .queryBank slot => decide (slot.toNat ≤ 7)
  | .queryFabric slot => decide (slot.toNat ≤ 15)
  | .segmentAbort _ | .querySegment _ | .alertClear | .alertLogReset | .stop | .clearLine | .queryCapability
  | .queryRunlist | .queryZones | .queryAlerts | .queryLine => true

/-! ### The mode step (R26) -/

/-- The mode step (R21 step 3, R26). The configured width is 0 until a LINE_CONFIG has been accepted. -/
def modeOk (s : State) : Request → Bool
  | .lineConfig _ => decide (s.mou.mode = .standby) && s.rls.isEmpty
  | .barConfig _ => decide (s.mou.mode = .standby) || decide (s.mou.mode = .halted)
  | .clearLine => decide (s.mou.mode = .standby) || decide (s.mou.mode = .halted)
  | .segmentOpen _ _ _ _ => decide (s.line.width ≠ 0) && decide (s.mou.mode ≠ .stopping)
  | .run _ => decide (s.mou.mode ≠ .stopping)
  | .stop => decide (s.mou.mode = .warmup) || decide (s.mou.mode = .run) || decide (s.mou.mode = .stopping)
  | .table _ _ _ | .heatConfig _ | .tensionConfig _ | .alertConfig _ _ _ _ | .alertHold _ | .alertClear
  | .alertLogReset | .fabricLoad _ | .splice _ | .profileCommit _ | .profileDiscard _ | .segmentAbort _
  | .queryCapability | .querySegment _ | .queryRunlist | .queryBank _ | .queryFabric _ | .queryZones | .queryAlerts
  | .queryLine => true

/-! ### The object step (R27) -/

/-- A profile slot number of a frame that passed the range step. -/
def slotOf (b : Byte) : Fin 8 :=
  Fin.ofNat 8 b.toNat

/-- A fabric slot number of a frame that passed the range step. -/
def fabricSlotOf (b : Byte) : Fin 16 :=
  Fin.ofNat 16 b.toNat

/-- The inactive bank of a slot, with its name (R36). -/
def inactiveOf (s : State) (slot : Fin 8) : BankId × Bank :=
  let id := inactiveBank s.pfs.slots[slot]
  (id, bankOf s slot id)

/-- The object step of SEGMENT_OPEN (R107), in its order. -/
def openObject (s : State) (slot : Fin 8) (tag : Tag) : Option AnswerCode :=
  if Grade.rank .holdIntake ≤ s.alc.reaction.rank then some .held
  else if Config.runListPlaces ≤ s.rls.length then some .listFull
  else if (findSeg tag s.rls).isSome then some .duplicateTag
  else
    match activeHeader s slot with
    | none => some .noProfile
    | some (_, h) =>
      match intakeFabric s with
      | none => some .noFabric
      | some (_, f) => if f.maxTemp < neededTemp h.nominal s.htc.grade then some .outOfRange else none

/-- The object step (R21 step 4, R27): the first check that fails, with the answer's detail (R30). -/
def objectCheck (s : State) : Request → Option (AnswerCode × Nat)
  | .run _ => if s.alc.reaction = .stop then some (.alertActive, 0) else none
  | .clearLine => if s.alc.stack.isEmpty then none else some (.alertActive, 0)
  | .segmentOpen slot tag _ _ =>
    match openObject s (slotOf slot) tag with
    | some code => some (code, 0)
    | none => none
  | .segmentAbort tag => if (findSeg tag s.rls).isSome then none else some (.notFound, 0)
  | .profileCommit slot =>
    let b := (inactiveOf s (slotOf slot)).2
    if b.state ≠ .staging then some (.notFound, 0)
    else if complete b then none
    else some (.incomplete, missingCount b)
  | .profileDiscard slot => if (inactiveOf s (slotOf slot)).2.state = .staging then none else some (.notFound, 0)
  | .table slot _ _ =>
    match (inactiveOf s (slotOf slot)).2.state with
    | .checking | .draining => some (.bankBusy, 0)
    | .free | .staging | .active => none
  | .fabricLoad c => if fabricReferenced s.tnc (fabricSlotOf c.slot) then some (.slotInUse, 0) else none
  | .splice slot => if (s.tnc.fabrics[fabricSlotOf slot].record).isSome then none else some (.noFabric, 0)
  | .alertClear => if s.alc.stack.isEmpty then some (.notFound, 0) else none
  | .querySegment tag => if (findSeg tag s.rls).isSome then none else some (.notFound, 0)
  | .lineConfig _ | .heatConfig _ | .tensionConfig _ | .barConfig _ | .alertConfig _ _ _ _ | .alertHold _
  | .alertLogReset | .stop | .queryCapability | .queryRunlist | .queryBank _ | .queryFabric _ | .queryZones
  | .queryAlerts | .queryLine => none

/-- The three steps after the form step (R21): the refusal, if any, with its detail. -/
def refusal (s : State) (r : Request) : Option (AnswerCode × Nat) :=
  if rangeOk r = false then some (.outOfRange, 0)
  else if modeOk s r = false then some (.wrongMode, 0)
  else objectCheck s r

/-! ### Effects of the configuration commands -/

/-- A channel number of a LINE_CONFIG that passed the range step. -/
def channelOf (b : Byte) : Fin 6 :=
  Fin.ofNat 6 b.toNat

/-- The line group of an accepted LINE_CONFIG (R88). -/
def lineGroupOf (c : LineFields) : LineGroup where
  width := c.width.toNat
  encNum := c.encNum.toNat
  encDen := c.encDen.toNat
  base := basePitch c.encNum.toNat c.encDen.toNat
  offsets := #v[0, c.off2.toNat, c.off3.toNat, c.off4.toNat, c.off5.toNat, c.off6.toNat]
  channels := #v[channelOf c.ch1, channelOf c.ch2, channelOf c.ch3, channelOf c.ch4, channelOf c.ch5, channelOf c.ch6]
  nipDist := c.nipDist.toNat
  arcLen := c.arcLen.toNat
  countsPerM := c.countsPerM.toNat
  intakeLead := c.intakeLead.toNat
  linkTimeout := c.linkTimeout.toNat
  holdMark := c.holdMark.toNat
  resumeMark := c.resumeMark.toNat
  creep := c.creep.toNat
  accel := c.accel.toNat

/-- LINE_CONFIG (R88). -/
def lineConfigEffect (c : LineFields) (s : State) : State :=
  s.setLine (lineGroupOf c)

/-- The heat group of an accepted HEAT_CONFIG (R150). -/
def heatGroupOf (c : HeatFields) : HeatGroup where
  idle := c.idle.toInt
  idleBand := c.idleBand.toNat
  standby := c.standby.toInt
  dHeat := c.dHeat.toNat
  ramp := c.ramp.toNat
  kp := #v[c.kp0.toNat, c.kp1.toNat, c.kp2.toNat, c.kp3.toNat]
  ki := #v[c.ki0.toNat, c.ki1.toNat, c.ki2.toNat, c.ki3.toNat]
  trim := #v[c.trim0.toInt, c.trim1.toInt, c.trim2.toInt, c.trim3.toInt]
  overLimit := c.overLimit.toInt
  derateCount := c.derateCount.toNat
  recoverLimit := c.recoverLimit.toNat
  recoverCount := c.recoverCount.toNat

/-- HEAT_CONFIG (R150): the group, the heat target formed again, and the speed target when D_heat changed (R100). -/
def heatConfigEffect (c : HeatFields) (s : State) : State :=
  let s1 := formHeat (s.modHtc fun h => { h with group := heatGroupOf c })
  if s.htc.group.dHeat = c.dHeat.toNat then s1 else formSpeed s1

/-- The tension group of an accepted TENSION_CONFIG (R78). -/
def tensionGroupOf (c : TensionFields) : TensionGroup where
  paper := c.paper.toNat
  kp := #v[c.kp0.toNat, c.kp1.toNat, c.kp2.toNat]
  ki := #v[c.ki0.toNat, c.ki1.toNat, c.ki2.toNat]
  window := c.window.toNat
  windowCount := c.windowCount.toNat
  breakThreshold := c.breakThreshold.toNat
  standstill := c.standstill.toNat
  taperLen := c.taperLen.toNat

/-- TENSION_CONFIG (R78). -/
def tensionConfigEffect (c : TensionFields) (s : State) : State :=
  s.modTnc fun t => { t with group := tensionGroupOf c }

/-- The enabled set of a BAR_CONFIG: bar k at the bit of value 2^(k−1) (R190). -/
def barSetOf (b : Byte) : Vector Bool 6 :=
  Vector.ofFn fun k => b.getLsbD k.val

/-- The source with a number. -/
def sourceOf (n : Nat) : AlertSource :=
  (AlertSource.all[n]?).getD .linkLost

/-- The level of a level code that passed the range step (section 11.2). -/
def levelOf (n : Nat) : Option (Fin 4) :=
  if n = 0xFF then none else some (Fin.ofNat 4 n)

/-- The grade with a code. -/
def gradeOf : Nat → Grade
  | 0 => .note
  | 1 => .holdIntake
  | 2 => .slow
  | _ => .stop

/-- ALERT_CONFIG (R168, R169): the three parts replaced together; a pending occurrence set to OFF is discarded; a
condition that holds and comes from OFF becomes pending; and an evaluation point (R177). -/
def alertConfigEffect (source level grade mode : Nat) (s : State) : State :=
  let src := sourceOf source
  let cfg : SourceConfig :=
    { level := levelOf level, grade := gradeOf grade, mode := if mode = 1 then .fast else .latched }
  s.modAlc fun a =>
    { a with
      config := a.config.set src.index cfg
      occ := if cfg.level = none then a.occ.set src.index none else a.occ
      fresh := if src.isCondition = true ∧ a.config[src.index].level = none ∧ cfg.level ≠ none
            ∧ a.holds[src.index] = true ∧ onStack a src = false then a.fresh ++ [src] else a.fresh
      evalDue := true }

/-- ALERT_HOLD (R175): the threshold, and an evaluation point (R177). -/
def alertHoldEffect (threshold : Nat) (s : State) : State :=
  s.modAlc fun a => { a with threshold := Fin.ofNat 4 threshold, evalDue := true }

/-- ALERT_CLEAR (R181, R182): the top entry is popped, a condition that still holds and is not OFF becomes pending
again, and an evaluation follows. -/
def alertClearEffect (s : State) : State :=
  s.modAlc fun a =>
    match a.stack with
    | [] => a
    | e :: rest =>
      { a with
        stack := rest
        fresh := if e.source.isCondition = true ∧ a.holds[e.source.index] = true
              ∧ a.config[e.source.index].level ≠ none then a.fresh ++ [e.source] else a.fresh
        evalDue := true }

/-- The number of the source at the top of the stack: ALERT_CLEAR's detail (R30). -/
def topSourceNumber (s : State) : Nat :=
  match s.alc.stack with
  | [] => 0
  | e :: _ => e.source.index.val

/-- ALERT_LOG_RESET (R174). -/
def alertLogResetEffect (s : State) : State :=
  s.modAlc fun a => { a with firstAlert := none, later := Vector.replicate 13 false }

/-- FABRIC_LOAD (R70): the five fields replaced and the valid flag set. -/
def fabricLoadEffect (c : FabricFields) (s : State) : State :=
  s.modTnc fun t =>
    { t with fabrics := vmod t.fabrics (fabricSlotOf c.slot) fun x =>
        { x with record := some { code := c.code, unwind := c.unwind.toNat, rewind := c.rewind.toNat,
                                  compliance := c.compliance.toNat, maxTemp := c.maxTemp.toInt } } }

/-- SPLICE (R71): the slot becomes the intake fabric, and the tension fabric follows while the source is INTAKE (R73,
R74). -/
def spliceEffect (slot : Fin 16) (s : State) : State :=
  let s1 := s.modTnc fun t => { t with intake := some slot }
  if s.tnc.source = none then setTension (some slot) s.mou.p s1 else s1

/-- TABLE (R39, R40): the piece is stored, clamped, into the slot's inactive bank. -/
def tableEffect (slot : Fin 8) (piece : Nat) (body : TableBody) (s : State) : State :=
  s.modBank slot (inactiveBank s.pfs.slots[slot]) (writePiece piece (storedPiece piece body))

/-- PROFILE_DISCARD (R46). -/
def discardEffect (slot : Fin 8) (s : State) : State :=
  s.modBank slot (inactiveBank s.pfs.slots[slot]) fun _ => Bank.free

/-- PROFILE_COMMIT starts the bank check (R41). -/
def commitEffect (slot : Fin 8) (s : State) : State :=
  let id := inactiveBank s.pfs.slots[slot]
  let s1 := s.modBank slot id fun b => { b with state := .checking }
  s1.setPfs { s1.pfs with check := some (slot, id) }

/-! ### Execution (R6, R21, R30) -/

/-- What an execution ends with: an answer, or nothing yet while a bank check runs (R6). -/
inductive Done where
  | answer (code : AnswerCode) (detail : Nat) (reply : List Byte)
  | pending
  deriving DecidableEq, Repr

/-- An ACCEPTED answer without a reply record. -/
def accepted : Done :=
  .answer .accepted 0 []

/-- The reply of the SEGMENT query (R33). -/
def segmentReply (s : State) (tag : Tag) : List Byte :=
  match findSeg tag s.rls with
  | some r => segmentRecord r
  | none => []

/-- The execution of a request that passed the four steps (R21), by its owner. -/
def perform (r : Request) (s : State) : State × Done :=
  match r with
  | .table slot piece body => (tableEffect (slotOf slot) piece.toNat body s, accepted)
  | .lineConfig c => (lineConfigEffect c s, accepted)
  | .heatConfig c => (heatConfigEffect c s, accepted)
  | .tensionConfig c => (tensionConfigEffect c s, accepted)
  | .barConfig bars => (barConfigEffect (barSetOf bars) s, accepted)
  | .alertConfig source level grade mode =>
    (alertConfigEffect source.toNat level.toNat grade.toNat mode.toNat s, accepted)
  | .alertHold threshold => (alertHoldEffect threshold.toNat s, accepted)
  | .alertClear => (alertClearEffect s, .answer .accepted (topSourceNumber s) [])
  | .alertLogReset => (alertLogResetEffect s, accepted)
  | .fabricLoad c => (fabricLoadEffect c s, accepted)
  | .splice slot => (spliceEffect (fabricSlotOf slot) s, accepted)
  | .profileCommit slot => (commitEffect (slotOf slot) s, .pending)
  | .profileDiscard slot => (discardEffect (slotOf slot) s, accepted)
  | .segmentOpen slot tag lines gap => (openEffect (slotOf slot) tag lines.toNat gap.toNat s, accepted)
  | .segmentAbort tag => (abortEffect tag s, accepted)
  | .run speed => (runDirective speed.toNat s, accepted)
  | .stop => (stopDirective s, accepted)
  | .clearLine => (clearEffect s, .answer .accepted s.rls.length [])
  | .queryCapability => (s, .answer .accepted 0 capabilityRecord)
  | .querySegment tag => (s, .answer .accepted 0 (segmentReply s tag))
  | .queryRunlist => (s, .answer .accepted 0 (runlistRecord s))
  | .queryBank slot => (s, .answer .accepted 0 (bankRecord s (slotOf slot)))
  | .queryFabric slot => (s, .answer .accepted 0 (fabricRecord s (fabricSlotOf slot)))
  | .queryZones => (s, .answer .accepted 0 (zonesRecord s))
  | .queryAlerts => (s, .answer .accepted 0 (alertsRecord s))
  | .queryLine => (s, .answer .accepted 0 (lineRecord s))

/-- The four steps and the execution of a control frame (R21): form, range, mode, object, effect. -/
def executeFrame (f : Frame) (s : State) : State × Done :=
  match readRequest f with
  | none => (s, .answer .malformed 0 [])
  | some r =>
    match refusal s r with
    | some (code, detail) => (s, .answer code detail [])
    | none => perform r s

/-- The execute buffer empties and the frame of the intake buffer, if any, moves in (R5). -/
def advanceBuffers (s : State) : State :=
  s.modLrx fun l => { l with execute := l.intake, intake := none }

/-- An answer to a control frame (R30). -/
def controlAnswer (f : Frame) (code : AnswerCode) (detail : Nat) (reply : List Byte) : Answer where
  tag := f.tag
  kind := f.kind
  cmd := echoedCode f
  code := code
  detail := detail
  reply := reply

/-- The end of an execution (R6): the answer joins the queue in the slot CMU held, and the execute buffer empties. -/
def finishExecution (f : Frame) (code : AnswerCode) (detail : Nat) (reply : List Byte) (s : State) : State :=
  advanceBuffers (queueAnswer (controlAnswer f code detail reply) (s.setCmuSlot false))

/-- CMU takes the frame of the execute buffer (R6): without a free slot it is discarded with ANSWER_OVERRUN, with one
it is executed. -/
def startExecution (f : Frame) (s : State) : State :=
  if slotFree s then
    match executeFrame f (s.setCmuSlot true) with
    | (s1, .answer code detail reply) => finishExecution f code detail reply s1
    | (s1, .pending) => s1
  else raiseLinkError .answerOverrun f.kind f.tag (advanceBuffers s)

/-- CMU's event: the frame in the execute buffer, unless a bank check holds it there, is executed (R6). -/
def runExecute (s : State) : State :=
  match s.pfs.check, s.lrx.execute with
  | none, some f => settle (startExecution f s)
  | _, _ => s

/-- A CRC-good control frame enters the control buffers (R5): the intake buffer, and at once the execute buffer when
that is EMPTY; with both FULL it is answered BUSY, or lost with ANSWER_OVERRUN when no slot is free. -/
def intakeFrame (f : Frame) (s : State) : State :=
  match s.lrx.intake with
  | none =>
    match s.lrx.execute with
    | none => s.modLrx fun l => { l with execute := some f }
    | some _ => s.modLrx fun l => { l with intake := some f }
  | some _ =>
    if slotFree s then queueAnswer (controlAnswer f .busy 0 []) s
    else raiseLinkError .answerOverrun f.kind f.tag s

/-- A CRC-good control frame: R5, and then CMU's event if the frame reached the execute buffer (R6). -/
def takeControl (f : Frame) (s : State) : State :=
  let s1 := settle (intakeFrame f s)
  if s.lrx.execute = none then runExecute s1 else s1

/-- The end mark (R3): a complete frame is checked and routed by its kind; an early end mark is a framing error
(R2). -/
def takeEnd (s : State) : State :=
  match s.lrx.state with
  | .hunt => s
  | .skip => s.modLrx fun l => l.without .hunt 0
  | .header | .payload => settle (framingError .hunt 0 s)
  | .trailer =>
    if s.lrx.trailer.length < 2 then settle (framingError .hunt 0 s)
    else if s.lrx.trailer = crcBytes s.lrx.crc then
      if rxKind s.lrx = kindLine then settle (completeLine (goodFrame s))
      else takeControl (rxFrame s.lrx) ((goodFrame s).modLrx fun l => l.without .hunt 0)
    else
      settle (raiseLinkError .crc (rxKind s.lrx) (rxTag s.lrx)
        ((discardLine s).modLrx fun l => l.without .hunt 0))

/-! ### The end of the bank check (R43, R44) -/

/-- The end of the bank check: activation on a match, STAGING and PROFILE_CHECK on a mismatch, and the answer to
PROFILE_COMMIT. -/
def endCheck (slot : Fin 8) (id : BankId) (f : Frame) (s : State) : State :=
  let b := bankOf s slot id
  let s1 := s.setPfs { s.pfs with check := none }
  if checkWord b = expectedWord b then finishExecution f .accepted 0 [] (commitBank slot id s1)
  else
    finishExecution f .checkFail 0 []
      (raiseOcc .profileCheck (unitCtx s (.profileSlot slot id) (checkWord b)) (revertBank slot id s1))

/-! ### Hardware reset (R188) -/

/-- Every block at its reset value, with the input pins as they stand; the model's own choice counter and the waiting
commands are no state of the part and stay. -/
def resetBlocks (s : State) : State :=
  { State.reset with
    bars := vmap (fun b => BarUnit.reset b.fault) s.bars
    mou := Mou.reset s.mou.encA s.mou.encB s.mou.driveFault
    choices := s.choices
    pending := s.pending }

/-- The conditions that hold at a reset begin (R102, R146, R188), before the evaluation the reset starts. -/
def beginAtReset (s : State) : State :=
  let s1 := if s.mou.driveFault then beginCond .driveFault (plainCtx s 0) s else s
  (judgeBarFault (vmap (fun b => { b with state := .active }) s1.bars) s1).modAlc fun a => { a with evalDue := true }

end Sys2Proof.Machine
end

