-- ==== Sys2Proof/Machine/Commands.lean ====
section
/-! DEFINITION. The meanings of the control frames that carry a TABLE or a COMMAND, of a malformed one, and of the end
of the bank check. Each control-frame row is the arrival at the control buffers of a CRC-good frame with the row's
content (R5): it moves into the execute buffer when that is EMPTY, and CMU takes a slot, runs the four steps and the
effect, and answers (R6, R21, R30); else it waits, or is answered BUSY (notes/assumptions/4.md). The checks of each
command stand in `rangeOk`, `modeOk` and `objectCheck`, its effect in `perform`. -/

namespace Sys2Proof.Machine

/-- MALFORMED_CONTROL_FRAME (R22): a control frame that fails the form step. -/
def execMalformedControlFrame (f : Frame) (s : State) : Host.Outcome State Fault Refusal :=
  .next (takeControl f s)

/-- TABLE (R39): the steps of R23, R28 and R29, then `tableEffect`. -/
def execTable (tag : Tag) (slot piece : Byte) (body : TableBody) (s : State) : Host.Outcome State Fault Refusal :=
  .next (takeControl (requestFrame tag (.table slot piece body)) s)

/-- LINE_CONFIG (R88): the steps of R24, R26 and R87, then `lineConfigEffect`. -/
def execLineConfig (tag : Tag) (c : LineFields) (s : State) : Host.Outcome State Fault Refusal :=
  .next (takeControl (requestFrame tag (.lineConfig c)) s)

/-- HEAT_CONFIG (R150). -/
def execHeatConfig (tag : Tag) (c : HeatFields) (s : State) : Host.Outcome State Fault Refusal :=
  .next (takeControl (requestFrame tag (.heatConfig c)) s)

/-- TENSION_CONFIG (R78). -/
def execTensionConfig (tag : Tag) (c : TensionFields) (s : State) : Host.Outcome State Fault Refusal :=
  .next (takeControl (requestFrame tag (.tensionConfig c)) s)

/-- BAR_CONFIG (R143). -/
def execBarConfig (tag : Tag) (bars : Byte) (s : State) : Host.Outcome State Fault Refusal :=
  .next (takeControl (requestFrame tag (.barConfig bars)) s)

/-- ALERT_CONFIG (R168, R169). -/
def execAlertConfig (tag : Tag) (source level grade mode : Byte) (s : State) : Host.Outcome State Fault Refusal :=
  .next (takeControl (requestFrame tag (.alertConfig source level grade mode)) s)

/-- ALERT_HOLD (R175). -/
def execAlertHold (tag : Tag) (threshold : Byte) (s : State) : Host.Outcome State Fault Refusal :=
  .next (takeControl (requestFrame tag (.alertHold threshold)) s)

/-- ALERT_CLEAR (R181, R182). -/
def execAlertClear (tag : Tag) (s : State) : Host.Outcome State Fault Refusal :=
  .next (takeControl (requestFrame tag .alertClear) s)

/-- ALERT_LOG_RESET (R174). -/
def execAlertLogReset (tag : Tag) (s : State) : Host.Outcome State Fault Refusal :=
  .next (takeControl (requestFrame tag .alertLogReset) s)

/-- FABRIC_LOAD (R70). -/
def execFabricLoad (tag : Tag) (c : FabricFields) (s : State) : Host.Outcome State Fault Refusal :=
  .next (takeControl (requestFrame tag (.fabricLoad c)) s)

/-- SPLICE (R71). -/
def execSplice (tag : Tag) (slot : Byte) (s : State) : Host.Outcome State Fault Refusal :=
  .next (takeControl (requestFrame tag (.splice slot)) s)

/-- PROFILE_COMMIT (R41): a complete STAGING bank goes under check, and the answer waits for BANK_CHECK_END. -/
def execProfileCommit (tag : Tag) (slot : Byte) (s : State) : Host.Outcome State Fault Refusal :=
  .next (takeControl (requestFrame tag (.profileCommit slot)) s)

/-- PROFILE_DISCARD (R46). -/
def execProfileDiscard (tag : Tag) (slot : Byte) (s : State) : Host.Outcome State Fault Refusal :=
  .next (takeControl (requestFrame tag (.profileDiscard slot)) s)

/-- SEGMENT_OPEN (R107 to R110). -/
def execSegmentOpen (tag : Tag) (slot : Byte) (seg : Tag) (lines : W16) (gap : W32) (s : State) :
    Host.Outcome State Fault Refusal :=
  .next (takeControl (requestFrame tag (.segmentOpen slot seg lines gap)) s)

/-- SEGMENT_ABORT (R120 to R123). -/
def execSegmentAbort (tag : Tag) (seg : Tag) (s : State) : Host.Outcome State Fault Refusal :=
  .next (takeControl (requestFrame tag (.segmentAbort seg)) s)

/-- RUN (R92). -/
def execRun (tag : Tag) (speed : W16) (s : State) : Host.Outcome State Fault Refusal :=
  .next (takeControl (requestFrame tag (.run speed)) s)

/-- STOP (R94). -/
def execStop (tag : Tag) (s : State) : Host.Outcome State Fault Refusal :=
  .next (takeControl (requestFrame tag .stop) s)

/-- CLEAR_LINE (R127). -/
def execClearLine (tag : Tag) (s : State) : Host.Outcome State Fault Refusal :=
  .next (takeControl (requestFrame tag .clearLine) s)

/-- The end of the bank check (R6, R43, R44): the outcome for the bank and the answer to the PROFILE_COMMIT in the
execute buffer; then the frame that has moved there, if any, is executed. With no check in progress none can end. -/
def checkEnds (s : State) : State :=
  match s.pfs.check, s.lrx.execute with
  | some (slot, id), some f => runExecute (settle (endCheck slot id f s))
  | _, _ => s

/-- BANK_CHECK_END (R43). -/
def execBankCheckEnd (s : State) : Host.Outcome State Fault Refusal :=
  .next (checkEnds s)

end Sys2Proof.Machine
end

