-- ==== Sys2Proof/Machine/LinkEvents.lean ====
section
/-! DEFINITION. The meanings of the link's events: the symbols of the downstream lane (R1 to R4), the transmitter's
progress (R14), and the expiry of the link timer (R20). Every event ends with `settle`. -/

namespace Sys2Proof.Machine

/-- START_MARK (R1, R2). -/
def execStartMark (s : State) : Host.Outcome State Fault Refusal :=
  .next (settle (takeStart s))

/-- DATA_SYMBOL (R1, R2, R8 to R11, R57). -/
def execDataSymbol (b : Byte) (s : State) : Host.Outcome State Fault Refusal :=
  .next (settle (takeData b s))

/-- IDLE_FILL (R1, R2, R20). -/
def execIdleFill (s : State) : Host.Outcome State Fault Refusal :=
  .next (settle (takeIdle s))

/-- END_MARK (R3, R5, R11, R20); `takeEnd` settles each event it is made of. -/
def execEndMark (s : State) : Host.Outcome State Fault Refusal :=
  .next (takeEnd s)

/-- ABORT_MARK (R4). -/
def execAbortMark (s : State) : Host.Outcome State Fault Refusal :=
  .next (settle (takeAbort s))

/-- The upstream end mark has been sent (R14, R18): LTX tells the item's owner, of whom only the run list acts on it
(R125), and enters GAP. Outside SENDING no end mark can be sent, and nothing happens. -/
def frameSent (s : State) : State :=
  match s.ltx.tx with
  | .sending (.trace t) _ => traceDone t (s.setLtx { s.ltx with tx := .gap })
  | .sending _ _ => s.setLtx { s.ltx with tx := .gap }
  | .idle | .gap => s

/-- FRAME_SENT (R14). -/
def execFrameSent (s : State) : Host.Outcome State Fault Refusal :=
  .next (settle (frameSent s))

/-- The fourth idle symbol of the gap has been sent (R14). Outside GAP nothing happens. -/
def gapEnd (s : State) : State :=
  match s.ltx.tx with
  | .gap => s.setLtx { s.ltx with tx := .idle }
  | .idle | .sending _ _ => s

/-- GAP_END (R14): LTX returns to IDLE and chooses again. -/
def execGapEnd (s : State) : Host.Outcome State Fault Refusal :=
  .next (settle (gapEnd s))

/-- The link timer expires (R20): LINK_LOST begins with subcode TIMEOUT, and the timer stays stopped. A stopped timer
does not expire. DESIGN CHOICE, unsafe (notes/assumptions/26.md): where LINK_LOST holds already, the line having left
RUN and entered WARMUP again since, the spec does not say what the expiry does; here the condition begins again, with a
new context and, if it has no entry on the stack, pending and logged anew. -/
def linkExpired (s : State) : State :=
  match s.lrx.timer with
  | some _ => beginCond .linkLost (linkCtx s .timeout 0 0) (s.modLrx fun l => { l with timer := none })
  | none => s

/-- LINK_TIMEOUT (R20). -/
def execLinkTimeout (s : State) : Host.Outcome State Fault Refusal :=
  .next (settle (linkExpired s))

end Sys2Proof.Machine
end

