-- ==== Sys2Proof/Machine/PathEvents.lean ====
section
/-! DEFINITION. The meanings of the events of the paper path: the encoder (R85, R86), the line sample (R97, R98, R100,
R101), the drive fault input (R102), the bar fault inputs (R140, R142), the load cells (R77 to R81), the heat samples
(R149) and the hardware reset (R188). Every event ends with `settle`. -/

namespace Sys2Proof.Machine

/-! ### The encoder -/

/-- What a change of the encoder levels is (R85). -/
inductive Edge where
  | forward | reverse | invalid
  deriving DecidableEq, Repr

/-- The decoding of an edge from the old and the new levels (R85). In the forward order A leads B: from both low, A
rises, B rises, A falls, B falls (notes/assumptions/3.md). A change of both levels is no valid edge, and with no change
there is no edge. -/
def decodeEdge (a b a' b' : Bool) : Edge :=
  if a ≠ a' ∧ b = b' then (if a' ≠ b then .forward else .reverse)
  else if a = a' ∧ b ≠ b' then (if b' = a then .forward else .reverse)
  else .invalid

/-- The effect of an edge on P (R85, R86): an increase is taken by every position-keyed block; a decrease moves no
state machine; at the counter's limits nothing happens. -/
def countEdge (e : Edge) (s : State) : State :=
  match e with
  | .forward => if s.mou.p < Config.maxPosition then increaseOfP s else s
  | .reverse => if 0 < s.mou.p then s.setMou { s.mou with p := s.mou.p - 1 } else s
  | .invalid => s

/-- The encoder inputs take new levels (R85). -/
def encoderLevels (a b : Bool) (s : State) : State :=
  countEdge (decodeEdge s.mou.encA s.mou.encB a b) (s.setMou { s.mou with encA := a, encB := b })

/-- ENCODER_EDGE (R85, R86). -/
def execEncoderEdge (a b : Bool) (s : State) : Host.Outcome State Fault Refusal :=
  .next (settle (encoderLevels a b s))

/-! ### The line sample -/

/-- The dwell counter of one record at a line sample, and the occurrence when it reaches 3 (R101). -/
def dwellRecord (s : State) (t : Tag) : State :=
  match findSeg t s.rls with
  | none => s
  | some r =>
    let s1 := s.modSegment t fun x => (dwellStep s.line s.mou.speed x).1
    if (dwellStep s.line s.mou.speed r).2 then
      raiseOcc .dwellShort { plainCtx s1 s.mou.speed with seg := some t } s1
    else s1

/-- The dwell counters of all records, in list order (R101). -/
def dwellSample (s : State) : State :=
  (s.rls.map Segment.tag).foldl dwellRecord s

/-- A line sample (R98, R100, R101, R97): the measured speed, the target and the reference, the dwell counters, and
last the test for the end of the stop. -/
def sampleLine (s : State) : State :=
  stopTest (dwellSample (moveReference (formSpeed (measureSpeed s))))

/-- LINE_SAMPLE (R97, R98, R100, R101). -/
def execLineSample (s : State) : Host.Outcome State Fault Refusal :=
  .next (settle (sampleLine s))

/-! ### The fault inputs -/

/-- A change of the drive fault input (R102): the condition begins with the measured speed in its context, or ends. A
level that is no change is no event. -/
def driveFaultLevel (asserted : Bool) (s : State) : State :=
  if s.mou.driveFault = asserted then s
  else
    let s1 := s.setMou { s.mou with driveFault := asserted }
    if asserted then beginCond .driveFault (plainCtx s1 s1.mou.speed) s1 else endCond .driveFault s1

/-- DRIVE_FAULT_INPUT (R102). -/
def execDriveFaultInput (asserted : Bool) (s : State) : Host.Outcome State Fault Refusal :=
  .next (settle (driveFaultLevel asserted s))

/-- A bar under a level of its fault input (R140): an ACTIVE bar enters FAULTED on assertion; nothing else changes a
state. -/
def faultedBar (asserted : Bool) (b : BarUnit) : BarUnit :=
  { b with fault := asserted, state := if b.state = .active ∧ asserted then .faulted else b.state }

/-- A change of a bar's fault input (R140, R142). -/
def barFaultLevel (k : Bar) (asserted : Bool) (s : State) : State :=
  judgeBarFault s.bars (s.modBar k (faultedBar asserted))

/-- BAR_FAULT_INPUT (R140, R142). -/
def execBarFaultInput (k : Bar) (asserted : Bool) (s : State) : Host.Outcome State Fault Refusal :=
  .next (settle (barFaultLevel k asserted s))

/-! ### Tension and heat -/

/-- A load-cell reading (R77 to R80). -/
def tensionReadingEvent (z : TensionZone) (reading : Nat) (s : State) : State :=
  judgeTension z s.tnc (takeReading z reading s)

/-- TENSION_READING (R77, R79, R80). -/
def execTensionReading (z : TensionZone) (reading : Nat) (s : State) : Host.Outcome State Fault Refusal :=
  .next (settle (tensionReadingEvent z reading s))

/-- The expiry of a zone's missing timer (R81). A timer that has expired and waits for a reading does not expire
again. -/
def missingExpired (z : TensionZone) (s : State) : State :=
  match s.tnc.zones[tensionIndex z].timer with
  | some _ => judgeTension z s.tnc (s.modTnc fun t => { t with zones := vmod t.zones (tensionIndex z) zoneMissing })
  | none => s

/-- TENSION_MISSING_TIMEOUT (R81). -/
def execTensionMissingTimeout (z : TensionZone) (s : State) : Host.Outcome State Fault Refusal :=
  .next (settle (missingExpired z s))

/-- HEAT_SAMPLE (R149). -/
def execHeatSample (z0 z1 z2 z3 : Option Int) (s : State) : Host.Outcome State Fault Refusal :=
  .next (settle (heatSampleEvent #v[z0, z1, z2, z3] s))

/-- HEAT_SAMPLE_TIMEOUT (R149): a set with every entry absent. -/
def execHeatSampleTimeout (s : State) : Host.Outcome State Fault Refusal :=
  .next (settle (heatSampleEvent #v[none, none, none, none] s))

/-! ### Hardware reset -/

/-- HARDWARE_RESET (R188). -/
def execHardwareReset (s : State) : Host.Outcome State Fault Refusal :=
  .next (settle (beginAtReset (resetBlocks s)))

end Sys2Proof.Machine
end

