-- ==== Sys2Proof/Machine/Queries.lean ====
section
/-! DEFINITION. The meanings of the queries (R33): as for the commands, the arrival of a CRC-good QUERY frame at the
control buffers (R5); the answer carries the reply record of section 11.6. -/

namespace Sys2Proof.Machine

/-- QUERY_CAPABILITY (R34). -/
def execQueryCapability (tag : Tag) (s : State) : Host.Outcome State Fault Refusal :=
  .next (takeControl (requestFrame tag .queryCapability) s)

/-- QUERY_SEGMENT (R33). -/
def execQuerySegment (tag : Tag) (seg : Tag) (s : State) : Host.Outcome State Fault Refusal :=
  .next (takeControl (requestFrame tag (.querySegment seg)) s)

/-- QUERY_RUNLIST (R33). -/
def execQueryRunlist (tag : Tag) (s : State) : Host.Outcome State Fault Refusal :=
  .next (takeControl (requestFrame tag .queryRunlist) s)

/-- QUERY_BANK (R33). -/
def execQueryBank (tag : Tag) (slot : Byte) (s : State) : Host.Outcome State Fault Refusal :=
  .next (takeControl (requestFrame tag (.queryBank slot)) s)

/-- QUERY_FABRIC (R84). -/
def execQueryFabric (tag : Tag) (slot : Byte) (s : State) : Host.Outcome State Fault Refusal :=
  .next (takeControl (requestFrame tag (.queryFabric slot)) s)

/-- QUERY_ZONES (R84). -/
def execQueryZones (tag : Tag) (s : State) : Host.Outcome State Fault Refusal :=
  .next (takeControl (requestFrame tag .queryZones) s)

/-- QUERY_ALERTS (R187). -/
def execQueryAlerts (tag : Tag) (s : State) : Host.Outcome State Fault Refusal :=
  .next (takeControl (requestFrame tag .queryAlerts) s)

/-- QUERY_LINE (R33). -/
def execQueryLine (tag : Tag) (s : State) : Host.Outcome State Fault Refusal :=
  .next (takeControl (requestFrame tag .queryLine) s)

end Sys2Proof.Machine
end

