-- ==== Sys2Proof/Machine/Dispatch.lean ====
section
/-! DEFINITION. The dispatch: one arm for each command, each a call of its meaning. -/

namespace Sys2Proof.Machine

/-- The effect of a command on everything but the queue of waiting commands. -/
def exec (i : Instr) (s : State) : Host.Outcome State Fault Refusal :=
  match i with
  | .startMark => Sys2Proof.Machine.execStartMark s
  | .dataSymbol b => Sys2Proof.Machine.execDataSymbol b s
  | .idleFill => Sys2Proof.Machine.execIdleFill s
  | .endMark => Sys2Proof.Machine.execEndMark s
  | .abortMark => Sys2Proof.Machine.execAbortMark s
  | .malformedControlFrame f => Sys2Proof.Machine.execMalformedControlFrame f s
  | .table tag slot piece body => Sys2Proof.Machine.execTable tag slot piece body s
  | .lineConfig tag c => Sys2Proof.Machine.execLineConfig tag c s
  | .heatConfig tag c => Sys2Proof.Machine.execHeatConfig tag c s
  | .tensionConfig tag c => Sys2Proof.Machine.execTensionConfig tag c s
  | .barConfig tag bars => Sys2Proof.Machine.execBarConfig tag bars s
  | .alertConfig tag source level grade mode => Sys2Proof.Machine.execAlertConfig tag source level grade mode s
  | .alertHold tag threshold => Sys2Proof.Machine.execAlertHold tag threshold s
  | .alertClear tag => Sys2Proof.Machine.execAlertClear tag s
  | .alertLogReset tag => Sys2Proof.Machine.execAlertLogReset tag s
  | .fabricLoad tag c => Sys2Proof.Machine.execFabricLoad tag c s
  | .splice tag slot => Sys2Proof.Machine.execSplice tag slot s
  | .profileCommit tag slot => Sys2Proof.Machine.execProfileCommit tag slot s
  | .bankCheckEnd => Sys2Proof.Machine.execBankCheckEnd s
  | .profileDiscard tag slot => Sys2Proof.Machine.execProfileDiscard tag slot s
  | .segmentOpen tag slot seg lines gap => Sys2Proof.Machine.execSegmentOpen tag slot seg lines gap s
  | .segmentAbort tag seg => Sys2Proof.Machine.execSegmentAbort tag seg s
  | .run tag speed => Sys2Proof.Machine.execRun tag speed s
  | .stop tag => Sys2Proof.Machine.execStop tag s
  | .clearLine tag => Sys2Proof.Machine.execClearLine tag s
  | .queryCapability tag => Sys2Proof.Machine.execQueryCapability tag s
  | .querySegment tag seg => Sys2Proof.Machine.execQuerySegment tag seg s
  | .queryRunlist tag => Sys2Proof.Machine.execQueryRunlist tag s
  | .queryBank tag slot => Sys2Proof.Machine.execQueryBank tag slot s
  | .queryFabric tag slot => Sys2Proof.Machine.execQueryFabric tag slot s
  | .queryZones tag => Sys2Proof.Machine.execQueryZones tag s
  | .queryAlerts tag => Sys2Proof.Machine.execQueryAlerts tag s
  | .queryLine tag => Sys2Proof.Machine.execQueryLine tag s
  | .frameSent => Sys2Proof.Machine.execFrameSent s
  | .gapEnd => Sys2Proof.Machine.execGapEnd s
  | .linkTimeout => Sys2Proof.Machine.execLinkTimeout s
  | .encoderEdge a b => Sys2Proof.Machine.execEncoderEdge a b s
  | .lineSample => Sys2Proof.Machine.execLineSample s
  | .driveFaultInput asserted => Sys2Proof.Machine.execDriveFaultInput asserted s
  | .barFaultInput bar asserted => Sys2Proof.Machine.execBarFaultInput bar asserted s
  | .tensionReading zone reading => Sys2Proof.Machine.execTensionReading zone reading s
  | .tensionMissingTimeout zone => Sys2Proof.Machine.execTensionMissingTimeout zone s
  | .heatSample z0 z1 z2 z3 => Sys2Proof.Machine.execHeatSample z0 z1 z2 z3 s
  | .heatSampleTimeout => Sys2Proof.Machine.execHeatSampleTimeout s
  | .hardwareReset => Sys2Proof.Machine.execHardwareReset s

end Sys2Proof.Machine
end

