-- ==== Sys2Proof/Safety.lean ====
section
/-! DEFINITION. The terms claims are made in: a state between events, a state in which CMU executes a control frame at
once, the delivery of its answer and of a notice, frames as symbols and frames cut short, what an event does to the run
list, the line store and the log, and the invariants of the part. Each predicate is decidable on a given state. -/

namespace Sys2Proof.Machine

/-! ### Between events -/

/-- Between events nothing is left over: no source has become pending without being logged and evaluated, the reaction
in force is the stack's, and LTX has nothing to choose or is busy (R14, R173, R177, R183). -/
abbrev Quiet (s : State) : Prop :=
  s.alc.fresh = [] ∧ s.alc.evalDue = false ∧ s.alc.reaction = stackReaction s.alc.stack ∧ ltxChoose s = s

/-- A control frame that arrives now is executed at once (R5, R6): both buffers are EMPTY, no bank check runs, and an
answer slot is free. -/
abbrev CanExecute (s : State) : Prop :=
  Quiet s ∧ s.pfs.check = none ∧ s.lrx.execute = none ∧ s.lrx.intake = none ∧ s.cmuSlot = false ∧ slotFree s = true

/-- An answer that joins the empty-handed transmitter's queue is chosen at once in IDLE; else it waits at the tail
(R14, R16). -/
def deliver (a : Answer) (s : State) : State :=
  match s.ltx.tx with
  | .idle => s.setLtx { s.ltx with tx := .sending .answer (upFrame 0x81 0 a.tag (answerPayload a)) }
  | .sending _ _ | .gap => s.setLtx { s.ltx with answers := s.ltx.answers ++ [a] }

/-- A notice that joins the queue in an event (R14, R17, R186): chosen at once in IDLE, with the overrun flag, which is
then cleared; else at the tail, or lost when eight are queued, which sets the flag. -/
def deliverNotice (n : Notice) (l : Ltx) : Ltx :=
  match l.tx with
  | .idle => { l with tx := .sending .notice (upFrame 0x84 (if l.overrun then 1 else 0) 0 (noticePayload n)), overrun := false }
  | .sending _ _ | .gap => if l.notices.length < 8 then { l with notices := l.notices ++ [n] } else { l with overrun := true }

/-- The answer to the control frame that carries a request (R30). -/
def answerTo (tag : Tag) (r : Request) (code : AnswerCode) (detail : Nat) (reply : List Byte) : Answer :=
  controlAnswer (requestFrame tag r) code detail reply

/-- The command that is the arrival of a request. -/
def rowOf (tag : Tag) : Request → Instr
  | .table slot piece body => .table tag slot piece body
  | .lineConfig c => .lineConfig tag c
  | .heatConfig c => .heatConfig tag c
  | .tensionConfig c => .tensionConfig tag c
  | .barConfig bars => .barConfig tag bars
  | .alertConfig source level grade mode => .alertConfig tag source level grade mode
  | .alertHold threshold => .alertHold tag threshold
  | .alertClear => .alertClear tag
  | .alertLogReset => .alertLogReset tag
  | .fabricLoad c => .fabricLoad tag c
  | .splice slot => .splice tag slot
  | .profileCommit slot => .profileCommit tag slot
  | .profileDiscard slot => .profileDiscard tag slot
  | .segmentOpen slot seg lines gap => .segmentOpen tag slot seg lines gap
  | .segmentAbort seg => .segmentAbort tag seg
  | .run speed => .run tag speed
  | .stop => .stop tag
  | .clearLine => .clearLine tag
  | .queryCapability => .queryCapability tag
  | .querySegment seg => .querySegment tag seg
  | .queryRunlist => .queryRunlist tag
  | .queryBank slot => .queryBank tag slot
  | .queryFabric slot => .queryFabric tag slot
  | .queryZones => .queryZones tag
  | .queryAlerts => .queryAlerts tag
  | .queryLine => .queryLine tag

/-- A request that a frame can carry: a TABLE body fits its piece index (R23). -/
def requestFits : Request → Bool
  | .table _ piece body => tableBodyFits piece body
  | _ => true

/-! ### Frames as symbols -/

/-- The bytes of a downstream frame between its marks: header, payload and CRC (section 11.3, R192). -/
def downBytes (f : Frame) : List Byte :=
  let body := [f.kind, f.flags] ++ beBytes 2 f.tag.toNat ++ beBytes 2 f.payload.length ++ beBytes 2 f.reserved.toNat
    ++ f.payload
  body ++ crcBytes (crcOf body)

/-- The symbols of a downstream frame, marks included (section 1.2). -/
def frameSymbols (f : Frame) : List Instr :=
  .startMark :: (downBytes f).map .dataSymbol ++ [.endMark]

/-- Commands taken one after another, up to the first that does not go on. -/
def execAll : List Instr → State → Host.Outcome State Fault Refusal
  | [], s => .next s
  | i :: rest, s =>
    match exec i s with
    | .next t => execAll rest t
    | .fault e => .fault e
    | .refused e => .refused e

/-! ### The checks of a control frame, as the spec's tables give them -/

/-- The ranges and cross-field rules of LINE_CONFIG (R24, R87). -/
abbrev LineRanges (c : LineFields) : Prop :=
  (64 ≤ c.width.toNat ∧ c.width.toNat ≤ 76800) ∧ 1 ≤ c.encNum.toNat ∧ (1 ≤ c.encDen.toNat ∧ c.encDen.toNat ≤ 1024)
    ∧ (0 < c.off2.toNat ∧ c.off2.toNat < c.off3.toNat ∧ c.off3.toNat < c.off4.toNat ∧ c.off4.toNat < c.off5.toNat
      ∧ c.off5.toNat < c.off6.toNat)
    ∧ (∀ ch ∈ [c.ch1, c.ch2, c.ch3, c.ch4, c.ch5, c.ch6], ch.toNat ≤ 5)
    ∧ [c.ch1, c.ch2, c.ch3, c.ch4, c.ch5, c.ch6].Nodup
    ∧ c.off6.toNat < c.nipDist.toNat ∧ 1 ≤ c.arcLen.toNat ∧ (1000 ≤ c.countsPerM.toNat ∧ c.countsPerM.toNat ≤ 1000000)
    ∧ (50 ≤ c.linkTimeout.toNat ∧ c.linkTimeout.toNat ≤ 5000)
    ∧ (c.holdMark.toNat < c.resumeMark.toNat ∧ c.resumeMark.toNat ≤ 16384)
    ∧ (1 ≤ c.creep.toNat ∧ c.creep.toNat ≤ 50) ∧ (1 ≤ c.accel.toNat ∧ c.accel.toNat ≤ 100)
    ∧ ∀ base, base = (c.encNum.toNat * 65536 + c.encDen.toNat / 2) / c.encDen.toNat →
      (65536 ≤ base ∧ base ≤ 16777215) ∧ c.off6.toNat * 65536 / base ≤ 12288

/-- The ranges of HEAT_CONFIG, and its over-temperature limit above both temperatures (R150). -/
abbrev HeatRanges (c : HeatFields) : Prop :=
  (0 ≤ c.idle.toInt ∧ c.idle.toInt ≤ 2300) ∧ (5 ≤ c.idleBand.toNat ∧ c.idleBand.toNat ≤ 200)
    ∧ (0 ≤ c.standby.toInt ∧ c.standby.toInt ≤ 2300) ∧ c.dHeat.toNat ≤ 16777215
    ∧ (1 ≤ c.ramp.toNat ∧ c.ramp.toNat ≤ 50)
    ∧ (∀ trim ∈ [c.trim0, c.trim1, c.trim2, c.trim3], -200 ≤ trim.toInt ∧ trim.toInt ≤ 200)
    ∧ (1300 ≤ c.overLimit.toInt ∧ c.overLimit.toInt ≤ 2600) ∧ c.idle.toInt < c.overLimit.toInt
    ∧ c.standby.toInt < c.overLimit.toInt ∧ (4 ≤ c.derateCount.toNat ∧ c.derateCount.toNat ≤ 240)
    ∧ (500 ≤ c.recoverLimit.toNat ∧ c.recoverLimit.toNat ≤ 990)
    ∧ (40 ≤ c.recoverCount.toNat ∧ c.recoverCount.toNat ≤ 2400)

/-- The ranges of TENSION_CONFIG (R78). -/
abbrev TensionRanges (c : TensionFields) : Prop :=
  (100 ≤ c.paper.toNat ∧ c.paper.toNat ≤ 8000) ∧ (10 ≤ c.window.toNat ∧ c.window.toNat ≤ 5000)
    ∧ 1 ≤ c.windowCount.toNat ∧ c.breakThreshold.toNat ≤ 5000
    ∧ (10 ≤ c.standstill.toNat ∧ c.standstill.toNat ≤ 100) ∧ (1 ≤ c.taperLen.toNat ∧ c.taperLen.toNat ≤ 1000000)

/-- The ranges of each frame's fields (R23, R24, R25, R29, R78, R150). -/
def RangeMet : Request → Prop
  | .table slot piece body => slot.toNat ≤ 7 ∧ piece.toNat ≤ 121 ∧ ∀ h, body = .header h →
      (1200 ≤ h.nominal.toNat ∧ h.nominal.toNat ≤ 2300) ∧ (5 ≤ h.tolerance.toNat ∧ h.tolerance.toNat ≤ 200)
        ∧ (1000 ≤ h.minDwell.toNat ∧ h.minDwell.toNat ≤ 120000)
  | .lineConfig c => LineRanges c
  | .heatConfig c => HeatRanges c
  | .tensionConfig c => TensionRanges c
  | .barConfig bars => bars.getLsbD 0 = true ∧ bars.toNat < 64
  | .alertConfig source level grade mode =>
    (3 ≤ source.toNat ∧ source.toNat ≤ 12) ∧ (level.toNat ≤ 2 ∨ level.toNat = 0xFF) ∧ grade.toNat ≤ 3
      ∧ mode.toNat ≤ 1 ∧ (mode.toNat = 1 → grade.toNat = 0 ∧ 8 ≤ source.toNat)
  | .alertHold threshold => threshold.toNat ≤ 3
  | .fabricLoad c => c.slot.toNat ≤ 15 ∧ (100 ≤ c.unwind.toNat ∧ c.unwind.toNat ≤ 8000)
      ∧ (100 ≤ c.rewind.toNat ∧ c.rewind.toNat ≤ 8000) ∧ c.compliance.toNat ≤ 2000
      ∧ (1200 ≤ c.maxTemp.toInt ∧ c.maxTemp.toInt ≤ 2400)
  | .splice slot | .queryFabric slot => slot.toNat ≤ 15
  | .profileCommit slot | .profileDiscard slot | .queryBank slot => slot.toNat ≤ 7
  | .segmentOpen slot _ lines _ => slot.toNat ≤ 7 ∧ 1 ≤ lines.toNat
  | .run speed => 1 ≤ speed.toNat ∧ speed.toNat ≤ 500
  | .segmentAbort _ | .querySegment _ | .alertClear | .alertLogReset | .stop | .clearLine | .queryCapability
  | .queryRunlist | .queryZones | .queryAlerts | .queryLine => True

/-- The states in which the mode step admits each frame (R26). -/
def ModeMet (s : State) : Request → Prop
  | .lineConfig _ => s.mou.mode = .standby ∧ s.rls = []
  | .barConfig _ | .clearLine => s.mou.mode = .standby ∨ s.mou.mode = .halted
  | .segmentOpen _ _ _ _ => s.line.width ≠ 0 ∧ s.mou.mode ≠ .stopping
  | .run _ => s.mou.mode ≠ .stopping
  | .stop => s.mou.mode = .warmup ∨ s.mou.mode = .run ∨ s.mou.mode = .stopping
  | .table _ _ _ | .heatConfig _ | .tensionConfig _ | .alertConfig _ _ _ _ | .alertHold _ | .alertClear
  | .alertLogReset | .fabricLoad _ | .splice _ | .profileCommit _ | .profileDiscard _ | .segmentAbort _
  | .queryCapability | .querySegment _ | .queryRunlist | .queryBank _ | .queryFabric _ | .queryZones | .queryAlerts
  | .queryLine => True

/-- The object checks of SEGMENT_OPEN in their order (R107): the first that fails gives the code. -/
abbrev OpenChecks (s : State) (slot : Fin 8) (seg : Tag) (result : Option AnswerCode) : Prop :=
  (s.alc.reaction ≠ .note → result = some .held)
    ∧ (s.alc.reaction = .note → 32 ≤ s.rls.length → result = some .listFull)
    ∧ (s.alc.reaction = .note → s.rls.length < 32 → (∃ r ∈ s.rls, r.tag = seg) → result = some .duplicateTag)
    ∧ (s.alc.reaction = .note → s.rls.length < 32 → (∀ r ∈ s.rls, r.tag ≠ seg) →
      (activeBank s.pfs.slots[slot] = none → result = some .noProfile)
      ∧ ∀ id h, activeBank s.pfs.slots[slot] = some id → headerOf (bankOf s slot id) = some h →
        (s.tnc.intake = none → result = some .noFabric)
        ∧ ∀ k f, s.tnc.intake = some k → s.tnc.fabrics[k].record = some f →
          (f.maxTemp < (h.nominal : Int) - 40 * s.htc.grade → result = some .outOfRange)
          ∧ ((h.nominal : Int) - 40 * s.htc.grade ≤ f.maxTemp → result = none))

/-! ### Frames cut short -/

/-- The line entries when the frame in reception ends badly or is cut (R12, R58): an accepted LINE frame with pixel
offset 0 gives its entry back, and one with another offset loses its provisional pixels only. -/
def droppedLines (line : LineRx) (l : List Entry) : List Entry :=
  match line with
  | .accepted seg n offset _ _ =>
    if offset = 0 then releaseFilling seg n l else modFilling seg n (fun e => { e with provisional := [] }) l
  | .undecided | .refused _ | .dropped => l

/-- The event in which the frame in reception is dropped (R2, R3, R12): nothing of it is left in LRX, whose receive
state and idle count are as given; its lines are dropped; and LINK_ERROR is raised with the subcode given and the
frame's kind and tag as far as received. -/
def frameDropped (sub : LinkSubcode) (state : RxState) (idle : Nat) (s : State) : State :=
  settle (raiseOcc .linkError
    { seg := none, unit := none, link := some { subcode := sub, kind := rxKind s.lrx, tag := rxTag s.lrx },
      p := s.mou.p, measured := 0 }
    ((s.setLst (droppedLines s.lrx.line s.lst)).setLrx { s.lrx with
      state := state, idle := idle, header := [], payload := [], trailer := [], crc := 0xFFFF, line := .undecided }))

/-- What the drop of the frame in reception leaves (R2, R10, R12): LRX without a frame, in the receive state and with
the idle count given; the lines dropped; the cursor, the control buffers, the queued answers and P as they were, so that
no answer is sent and a slot held for the frame is free again. -/
abbrev FrameGone (s t : State) (state : RxState) (idle : Nat) : Prop :=
  t.lrx.state = state ∧ t.lrx.idle = idle ∧ t.lrx.header = [] ∧ t.lrx.payload = [] ∧ t.lrx.trailer = []
    ∧ t.lrx.line = .undecided ∧ t.lrx.intake = s.lrx.intake ∧ t.lrx.execute = s.lrx.execute
    ∧ t.lst = droppedLines s.lrx.line s.lst ∧ t.cpa = s.cpa ∧ t.ltx.answers = s.ltx.answers ∧ t.cmuSlot = s.cmuSlot
    ∧ t.pfs = s.pfs ∧ t.bars = s.bars ∧ t.tnc = s.tnc ∧ t.mou.p = s.mou.p ∧ t.line = s.line

/-! ### What events do -/

/-- A record of print state WAITING has been removed (R121): it has left the list with its references, its entries are
void, cursors at it have moved on, and both targets are formed again. -/
abbrev WaitingRemoved (s u : State) (seg : Tag) (r : Segment) : Prop :=
  u.rls = s.rls.filter (fun x => decide (x.tag ≠ seg))
    ∧ bankOf u r.slot r.bank =
        (if (bankOf s r.slot r.bank).state = .draining ∧ (bankOf s r.slot r.bank).count ≤ 1 then
          { state := .free, count := 0, pieces := [] }
        else { bankOf s r.slot r.bank with count := (bankOf s r.slot r.bank).count - 1 })
    ∧ (∀ (m : Fin 8) (x : BankId), ¬(m = r.slot ∧ x = r.bank) → bankOf u m x = bankOf s m x)
    ∧ u.tnc.fabrics = s.tnc.fabrics.set r.fabric { s.tnc.fabrics[r.fabric] with
        segs := s.tnc.fabrics[r.fabric].segs - 1 }
    ∧ (s.tnc.source ≠ some seg → u.tnc.source = s.tnc.source ∧ u.tnc.tension = s.tnc.tension
        ∧ u.tnc.taper = s.tnc.taper)
    ∧ (∀ c ∈ s.cpa, c.tag ≠ seg → u.cpa = s.cpa)
    ∧ (∀ c ∈ s.cpa, c.tag = seg → u.cpa = cursorAtOldestFilling u.rls)
    ∧ (∀ e ∈ u.lst, e.tag = seg → e.state = .void)
    ∧ (∀ e ∈ u.lst, e.tag ≠ seg → e ∈ s.lst)
    ∧ (∀ e ∈ s.lst, e.tag ≠ seg → e.state = .filling → e ∈ u.lst)
    ∧ (∀ b : Bar, u.bars[b].state = s.bars[b].state ∧ u.bars[b].fault = s.bars[b].fault
        ∧ u.bars[b].cursor = (match s.bars[b].cursor with
          | some (x, y) => if x = seg then cursorAtHead (segsAfter seg s.rls) else some (x, y)
          | none => none))
    ∧ u.mou.target = speedTarget u ∧ (u.htc.target, u.htc.band, u.htc.source) = heatAim u
    ∧ u.mou.p = s.mou.p ∧ u.mou.mode = s.mou.mode ∧ u.htc.zones = s.htc.zones ∧ u.htc.grade = s.htc.grade
    ∧ u.lrx = s.lrx ∧ u.ltx = s.ltx ∧ u.line = s.line ∧ u.alc = s.alc

/-- The accepted LINE frame of a record that arrives while the record is aborted or its line lost (R10, R13): refused
with a code if it holds a slot or one is free, else dropped. `inUse` counts the slots. -/
def overtaken (slot : Bool) (inUse : Nat) (code : AnswerCode) : LineRx :=
  if slot = true ∨ inUse < 4 then .refused code else .dropped

/-- A bar handles nothing at a position (R135): it is OFF, its cursor is at END, or its line is due above it. -/
abbrev NotDue (s : State) (k : Bar) (p : Nat) : Prop :=
  s.bars[k].state = .off ∨ s.bars[k].cursor = none
    ∨ ∃ x ∈ s.bars[k].cursor, ∃ r ∈ findSeg x.1 s.rls, p < duePosition s.line r k x.2

/-- The cursor after line n of a record (R134). -/
def cursorAfter (l : List Segment) (r : Segment) (n : Nat) : Option (Tag × Nat) :=
  if n + 1 < r.lines then some (r.tag, n + 1) else cursorAtHead (segsAfter r.tag l)

/-- An enabled bar has one line to handle at a position, line n of a record, and the other bars have none (R135). -/
abbrev OneLineDue (s : State) (k : Bar) (r : Segment) (n p : Nat) : Prop :=
  s.bars[k].state ≠ .off ∧ s.bars[k].cursor = some (r.tag, n) ∧ findSeg r.tag s.rls = some r ∧ n < r.lines
    ∧ duePosition s.line r k n ≤ p
    ∧ NotDue (s.modBar k fun b => { b with cursor := cursorAfter s.rls r n }) k p
    ∧ ∀ j : Bar, j ≠ k → NotDue s j p

/-- Bar 1 reaches a line of the filling segment that is not complete (R138). -/
abbrev LineLost (s : State) (k : Bar) (r : Segment) (n : Nat) : Prop :=
  k = 0 ∧ ∃ c ∈ s.cpa, c.tag = r.tag ∧ c.line ≤ n

/-- A zone fails a record's band: its readings are missing, or its measured value lies off the record's need by more
than the tolerance (R159). -/
abbrev ZoneOut (h : Htc) (r : Segment) (i : Fin 4) : Prop :=
  h.zones[i].missing = true ∨ (r.tolerance : Int) < |h.zones[i].measured - (r.needed + h.group.trim[i])|

/-- A record in the arc fails the in-band check (R159). -/
abbrev OffBand (h : Htc) (r : Segment) : Prop :=
  r.calender = .inArc ∧ ∃ i : Fin 4, ZoneOut h r i

/-- ALC with one source newly pending in the log (R173). -/
def logged (src : AlertSource) (ctx : Context) (a : Alc) : Alc :=
  match a.firstAlert with
  | none => { a with firstAlert := some (src, ctx) }
  | some _ => { a with later := a.later.set src.index true }

/-- A source of level l may be served under a threshold and a stack (R176). -/
abbrev Servable (a : Alc) (src : AlertSource) (l : Fin 4) : Prop :=
  (l = 3 ∨ a.threshold ≤ l) ∧ (∀ e ∈ a.stack.head?, e.level < l) ∧ ∀ e ∈ a.stack, e.source ≠ src

/-! ### Invariants -/

/-- Queues, buffers and counters within their capacities (R5, R6, R16, R17, R85, R129, R152). -/
abbrev Bounded (s : State) : Prop :=
  slotsInUse s ≤ Config.answerSlots ∧ s.ltx.notices.length ≤ Config.noticePlaces ∧ s.lst.length ≤ Config.ringEntries
    ∧ s.mou.p ≤ Config.maxPosition ∧ s.mou.p ≤ s.htc.pHigh ∧ s.lrx.execute.isSome = s.pfs.check.isSome
    ∧ s.cmuSlot = s.pfs.check.isSome ∧ (s.lrx.intake.isSome → s.lrx.execute.isSome)

/-- The service stack (R180): levels strictly rising from bottom to top, no source twice, and the reaction in force is
the highest grade on it. The stack is listed top first. -/
abbrev StackOrdered (s : State) : Prop :=
  s.alc.stack.Pairwise (fun a b => b.level < a.level) ∧ (s.alc.stack.map StackEntry.source).Nodup
    ∧ s.alc.reaction = stackReaction s.alc.stack

/-- The run list (R106): at most 32 records, no two with one tag, in strictly rising start position. The lengths and
the base pitch are what keeps it so (R87, R90, R109). -/
abbrev RunListOrdered (s : State) : Prop :=
  s.rls.length ≤ Config.runListPlaces ∧ (s.rls.map Segment.tag).Nodup
    ∧ s.rls.Pairwise (fun a b => a.start < b.start) ∧ (∀ r ∈ s.rls, 1 ≤ r.length) ∧ Config.minPitch ≤ s.line.base

/-- The speed target is formed of its terms as they stand, and the reference obeys it (R100). No two records have one
tag (R106). -/
abbrev SpeedFormed (s : State) : Prop :=
  (s.rls.map Segment.tag).Nodup ∧ s.mou.target = speedTarget s ∧ (s.mou.mode = .run → s.mou.reference ≤ s.mou.target)
    ∧ (s.mou.mode = .standby ∨ s.mou.mode = .warmup ∨ s.mou.mode = .halted → s.mou.reference = 0)

/-- The heat target, the heat band and the target source are formed of their terms as they stand (R151, R152). No two
records have one tag (R106). -/
abbrev HeatFormed (s : State) : Prop :=
  (s.rls.map Segment.tag).Nodup ∧ (s.htc.target, s.htc.band, s.htc.source) = heatAim s

/-- What R100 promises of the reference in RUN. -/
abbrev SpeedSafe (s : State) : Prop :=
  s.mou.mode = .run →
    s.mou.reference ≤ s.mou.requested
      ∧ (Grade.rank .slow ≤ s.alc.reaction.rank → s.mou.reference ≤ s.line.creep)
      ∧ ∀ r ∈ s.rls, r.live = true → (r.calender = .inArc ∨ lookAheadReached s r s.htc.pHigh = true) →
          s.mou.reference ≤ dwellCap s.line r

/-- The nip output, the link timer and the speed target follow the line mode (R20, R91, R100). -/
abbrev ModeOutputs (s : State) : Prop :=
  s.mou.nipClosed = decide (s.mou.mode = .run) ∧ (s.lrx.timer.isSome → s.mou.mode.linkTimed = true)
    ∧ (s.mou.mode ≠ .run → s.mou.target = 0)

/-- The live records bound to a bank. -/
def boundTo (s : State) (slot : Fin 8) (id : BankId) : Nat :=
  (s.rls.filter fun r => r.live && decide (r.slot = slot) && decide (r.bank = id)).length

/-- The live records bound to a fabric slot. -/
def boundToFabric (s : State) (slot : Fin 16) : Nat :=
  (s.rls.filter fun r => r.live && decide (r.fabric = slot)).length

/-- Reference counts (R35, R47, R68, R69): a bank's count and a fabric slot's segment count are the numbers of live
records bound to them, a FREE, STAGING or CHECKING bank has none, and a slot has at most one ACTIVE bank. -/
abbrev RefCounts (s : State) : Prop :=
  (s.rls.map Segment.tag).Nodup ∧ (∀ r ∈ s.rls, r.calender = .retired → r.print = .printed)
    ∧ (∀ slot : Fin 8, (bankOf s slot .a).count = boundTo s slot .a ∧ (bankOf s slot .b).count = boundTo s slot .b)
    ∧ (∀ slot : Fin 8,
        ((bankOf s slot .a).state = .active ∨ (bankOf s slot .a).state = .draining ∨ (bankOf s slot .a).count = 0)
        ∧ ((bankOf s slot .b).state = .active ∨ (bankOf s slot .b).state = .draining ∨ (bankOf s slot .b).count = 0)
        ∧ ¬((bankOf s slot .a).state = .active ∧ (bankOf s slot .b).state = .active))
    ∧ (∀ x ∈ s.pfs.check, (bankOf s x.1 x.2).state = .checking)
    ∧ ∀ slot : Fin 16, s.tnc.fabrics[slot].segs = boundToFabric s slot

/-- A heat zone within its ranges, with its heater off while it is too hot or its readings are missing (R148, R156). -/
abbrev HeatZoneOk (z : HeatZone) : Prop :=
  0 ≤ z.output ∧ z.output ≤ 1000 ∧ 0 ≤ z.integ ∧ z.integ ≤ 256000 ∧ z.sat ≤ 240 ∧ z.missCount ≤ 4
    ∧ (z.overTemp = true ∨ z.missing = true → z.output = 0)

/-- A tension zone within its ranges (R77). -/
abbrev TensionZoneOk (z : TensionRec) : Prop :=
  -1000 ≤ z.output ∧ z.output ≤ 1000 ∧ -256000 ≤ z.integ ∧ z.integ ≤ 256000

/-- Every heater and trim output within its range (R77, R148). -/
abbrev OutputsOk (s : State) : Prop :=
  (∀ i : Fin 4, HeatZoneOk s.htc.zones[i]) ∧ ∀ i : Fin 3, TensionZoneOk s.tnc.zones[i]

/-- A stored piece as the clamps leave it (R28, R37). -/
def pieceClamped (i : Nat) : Piece → Bool
  | .values vs => vs.all fun v => decide (v ≤ if i ≤ 104 then 4096 else 4094)
  | .header h => decide (4096 ≤ h.inkLimit) && decide (h.inkLimit ≤ 24576)

/-- A bank's stored pieces are clamped (R28). -/
abbrev BankClamped (b : Bank) : Prop :=
  ∀ x ∈ b.pieces, pieceClamped x.1 x.2 = true

/-- Six drop levels, each in 0..3 (R67). -/
abbrev DropsOk (d : Drops) : Prop :=
  ∀ c : Fin 6, d[c] ≤ 3

/-- Stored table values are clamped, and every stored drop level lies in 0..3 (R28, R67). -/
abbrev ColourOk (s : State) : Prop :=
  (∀ slot : Fin 8, BankClamped (bankOf s slot .a) ∧ BankClamped (bankOf s slot .b))
    ∧ ∀ e ∈ s.lst, (∀ d ∈ e.written, DropsOk d) ∧ ∀ d ∈ e.provisional, DropsOk d

/-- A bank in the shape its state demands (R35, R38): a FREE one holds nothing, one that has been committed or is under
check holds the complete piece set, and the piece set lists indices 0..121 once each, in rising order. -/
abbrev BankOk (b : Bank) : Prop :=
  (b.pieces.map Prod.fst).Pairwise (· < ·) ∧ (∀ x ∈ b.pieces, x.1 < Config.pieces)
    ∧ (b.state = .free → b.pieces = [] ∧ b.count = 0)
    ∧ (b.state = .checking ∨ b.state = .active ∨ b.state = .draining → complete b = true)

/-- The shape of the profile store (R36, R38, R41): without an ACTIVE bank a slot has no DRAINING one and at most one
bank that is not FREE, and a bank is CHECKING only while it is the one under check. -/
abbrev BanksShaped (s : State) : Prop :=
  (∀ slot : Fin 8, BankOk (bankOf s slot .a) ∧ BankOk (bankOf s slot .b)
    ∧ (activeBank s.pfs.slots[slot] = none →
        ((bankOf s slot .a).state = .free ∨ (bankOf s slot .b).state = .free)
        ∧ (bankOf s slot .a).state ≠ .draining ∧ (bankOf s slot .b).state ≠ .draining)
    ∧ ((bankOf s slot .a).state = .checking → s.pfs.check = some (slot, .a))
    ∧ ((bankOf s slot .b).state = .checking → s.pfs.check = some (slot, .b)))
    ∧ ∀ x ∈ s.pfs.check, (bankOf s x.1 x.2).state = .checking

/-- Every evaluation has been carried to its end (R177): no pending source is eligible. Condition sources are LATCHED,
as the range step of ALERT_CONFIG keeps them (R168). -/
abbrev AlertsServed (s : State) : Prop :=
  (∀ src : AlertSource, src.isCondition = true → s.alc.config[src.index].mode = .latched)
    ∧ ∀ src : AlertSource, eligible s.alc src = false

/-- The conditions that are a matter of the state itself hold exactly when their rules say so: WEB_BREAK (R80),
OVER_TEMP (R155), DRIVE_FAULT (R102), HEAT_SENSOR (R158), TENSION_WINDOW (R79) and BAR_FAULT (R142). -/
abbrev ConditionsTrack (s : State) : Prop :=
  (s.alc.holds[AlertSource.webBreak.index] = true ↔ ∃ i : Fin 3, s.tnc.zones[i].breakFlag = true)
    ∧ (s.alc.holds[AlertSource.overTemp.index] = true ↔ ∃ i : Fin 4, s.htc.zones[i].overTemp = true)
    ∧ (s.alc.holds[AlertSource.driveFault.index] = true ↔ s.mou.driveFault = true)
    ∧ (s.alc.holds[AlertSource.heatSensor.index] = true ↔ ∃ i : Fin 4, s.htc.zones[i].missing = true)
    ∧ (s.alc.holds[AlertSource.tensionWindow.index] = true ↔
        ∃ i : Fin 3, s.tnc.zones[i].windowFlag = true ∨ s.tnc.zones[i].missing = true)
    ∧ (s.alc.holds[AlertSource.barFault.index] = true ↔ ∃ k : Bar, s.bars[k].state = .faulted)

/-- The tension fabric follows the tension source (R73, R74): it is the bound fabric of the source, which is a live
record, or the intake fabric while the source is INTAKE; there is none before the first SPLICE, and then no record
either; and a running taper leads to it, with its progress short of its end. -/
abbrev TensionFollows (s : State) : Prop :=
  (s.rls.map Segment.tag).Nodup
    ∧ (match s.tnc.source with
      | none => s.tnc.tension = s.tnc.intake
      | some t => ∃ r ∈ s.rls, r.tag = t ∧ r.live = true ∧ s.tnc.tension = some r.fabric)
    ∧ (s.tnc.intake = none → s.tnc.tension = none ∧ s.rls = [])
    ∧ ∀ x ∈ s.tnc.taper, s.tnc.tension = some x.newFabric ∧ x.t0 ≤ x.q ∧ x.q < x.t0 + x.length

/-- The bound fields of a record are those of another (R105, R108). -/
abbrev SameBound (r r' : Segment) : Prop :=
  r'.tag = r.tag ∧ r'.width = r.width ∧ r'.lines = r.lines ∧ r'.gap = r.gap ∧ r'.start = r.start ∧ r'.pitch = r.pitch
    ∧ r'.length = r.length ∧ r'.slot = r.slot ∧ r'.bank = r.bank ∧ r'.grade = r.grade ∧ r'.needed = r.needed
    ∧ r'.tolerance = r.tolerance ∧ r'.minDwell = r.minDwell ∧ r'.fabric = r.fabric ∧ r'.stretch = r.stretch

/-- The progress of a record has only advanced, and no set flag has been lost (R111, R119). -/
abbrev Advanced (r r' : Segment) : Prop :=
  fillStateNumber r.fill ≤ fillStateNumber r'.fill ∧ printStateNumber r.print ≤ printStateNumber r'.print
    ∧ calenderStateNumber r.calender ≤ calenderStateNumber r'.calender
    ∧ (r.traceSent = true → r'.traceSent = true)
    ∧ (r.flags.lostLines = true → r'.flags.lostLines = true) ∧ (r.flags.aborted = true → r'.flags.aborted = true)
    ∧ (r.flags.spoiled = true → r'.flags.spoiled = true) ∧ (r.flags.offBand = true → r'.flags.offBand = true)
    ∧ (r.flags.dwellShort = true → r'.flags.dwellShort = true)
    ∧ (r.flags.barMissed = true → r'.flags.barMissed = true) ∧ r'.flags.pitchClamped = r.flags.pitchClamped
    ∧ (∀ k : Bar, r.printedBy[k] = true → r'.printedBy[k] = true)

end Sys2Proof.Machine
end

