-- ==== Sys2Proof/Certificates/Slice0/Obligations.lean ====
section
/-! DEFINITION. The statements for the provers. Commands that are control frames are stated in a state that executes
them at once (`CanExecute`); what happens to a frame that waits, is refused or finds no answer slot is stated for all
requests together. -/

open Sys2Proof Sys2Proof.Machine

/-! ### The machine as a whole -/

/-- A step takes the command at the front of the queue: it is `exec` of that command on the state with the queue's rest.
With an empty queue the part idles (the model's choice, notes/assumptions/9.md). -/
def Obligations.StepTakesFront : Prop :=
  (∀ (i : Instr) (rest : List Instr) (s : State), step (s.setPending (i :: rest)) = exec i (s.setPending rest))
    ∧ ∀ s : State, s.pending = [] → step s = .next s

/-- No command ends in a fault or a refusal: each is a whole event that leaves a next state. And it leaves the queue of
waiting commands alone, HARDWARE_RESET too: the queue is the model's own, and that it stays is the model's choice
(notes/assumptions/5.md and 19.md). -/
def Obligations.EveryCommandGoesOn : Prop :=
  ∀ (i : Instr) (s : State), ∃ t, exec i s = .next t ∧ t.pending = s.pending

/-- The state after hardware reset meets every invariant stated below. -/
def Obligations.InvariantsAtReset : Prop :=
  Quiet State.reset ∧ Bounded State.reset ∧ StackOrdered State.reset ∧ RunListOrdered State.reset
    ∧ SpeedFormed State.reset ∧ HeatFormed State.reset ∧ ModeOutputs State.reset ∧ RefCounts State.reset ∧ OutputsOk State.reset
    ∧ ColourOk State.reset ∧ BanksShaped State.reset ∧ TensionFollows State.reset ∧ AlertsServed State.reset
    ∧ ConditionsTrack State.reset ∧ CanExecute State.reset

/-- Every event is finished within its step: sources that have become pending are logged and evaluated, the reaction in
force is the stack's, and an idle LTX has nothing left to choose. -/
def Obligations.EventsLeaveNothingOver : Prop :=
  ∀ s t : State, Quiet s → step s = .next t → Quiet t

/-- Capacities hold over every step: at most four answers queued or held, eight notices, 16,384 line entries; P within
48 bits and at or below P_high; the execute buffer is FULL, and a slot held for it, exactly while a bank check runs;
the intake buffer is FULL only while the execute buffer is. -/
def Obligations.BoundsKept : Prop :=
  ∀ s t : State, Bounded s → step s = .next t → Bounded t

/-- The service stack holds at most four entries with strictly rising levels and no source twice, and the reaction in
force equals the highest grade on it. -/
def Obligations.StackKept : Prop :=
  (∀ s t : State, StackOrdered s → step s = .next t → StackOrdered t)
    ∧ ∀ s : State, StackOrdered s → s.alc.stack.length ≤ 4

/-- The run list holds at most 32 records, in strictly rising start position, no two with one tag. -/
def Obligations.RunListKept : Prop :=
  ∀ s t : State, RunListOrdered s → step s = .next t → RunListOrdered t

/-- While the line is in RUN, the speed reference never exceeds the requested speed, the creep speed when SLOW or
higher is in force, or the dwell cap of any live record in the arc or within the look-ahead; in STANDBY, WARMUP and
HALTED it is 0. The target formed of its terms is the invariant that holds it. In the same way the heat target, the heat
band and the target source are, after every step, those that the table of the heat target gives for the state. Both
hold of run lists without two records of one tag. -/
def Obligations.SpeedKept : Prop :=
  (∀ s t : State, SpeedFormed s → step s = .next t → SpeedFormed t)
    ∧ (∀ s : State, SpeedFormed s → SpeedSafe s)
    ∧ ∀ s t : State, HeatFormed s → step s = .next t → HeatFormed t

/-- The nip is closed exactly in RUN, the link timer runs in WARMUP and RUN only, and outside RUN the speed target is
0. -/
def Obligations.ModeOutputsKept : Prop :=
  ∀ s t : State, ModeOutputs s → step s = .next t → ModeOutputs t

/-- A bank's reference count and a fabric slot's segment count are the numbers of live records bound to them, and no
slot has two ACTIVE banks. -/
def Obligations.RefCountsKept : Prop :=
  ∀ s t : State, RefCounts s → step s = .next t → RefCounts t

/-- The shape of the profile store holds over every step: a FREE bank holds nothing; an ACTIVE, DRAINING or CHECKING one
holds the complete piece set; a slot without an ACTIVE bank has no DRAINING one and at most one that is not FREE, so
that the inactive bank is always one bank; and a bank is CHECKING exactly while it is the one under check. -/
def Obligations.BanksKept : Prop :=
  ∀ s t : State, BanksShaped s → step s = .next t → BanksShaped t

/-- Heater and trim outputs and integrators stay within their ranges, and a heater whose zone is too hot or whose
readings are missing is off. -/
def Obligations.OutputsKept : Prop :=
  ∀ s t : State, OutputsOk s → step s = .next t → OutputsOk t

/-- Stored table values stay clamped and every stored drop level lies in 0..3. -/
def Obligations.ColourKept : Prop :=
  ∀ s t : State, ColourOk s → step s = .next t → ColourOk t

/-- The tension fabric follows the tension source over every step: the source is a live record, whose bound fabric is the
tension fabric, or INTAKE, when it is the intake fabric; and a running taper leads to the tension fabric, with its
progress short of its end. -/
def Obligations.TensionFollowsKept : Prop :=
  ∀ s t : State, TensionFollows s → step s = .next t → TensionFollows t

/-- Every step carries its evaluation to the end: afterwards no pending source is eligible. -/
def Obligations.AlertsServedKept : Prop :=
  ∀ s t : State, AlertsServed s → step s = .next t → AlertsServed t

/-- Over every step, WEB_BREAK, OVER_TEMP, DRIVE_FAULT, HEAT_SENSOR, TENSION_WINDOW and BAR_FAULT hold exactly while the
zone flags, the drive fault input and the bar states say so. -/
def Obligations.ConditionsTrackKept : Prop :=
  ∀ s t : State, ConditionsTrack s → step s = .next t → ConditionsTrack t

/-- A record that is in the list before and after a step keeps every bound field, and its fill, print and calender
states, printed-by set and flags only advance. Its lost-line count does not fall. -/
def Obligations.RecordsOnlyAdvance : Prop :=
  ∀ s t : State, (s.rls.map Segment.tag).Nodup → step s = .next t →
    ∀ r ∈ s.rls, ∀ r' ∈ t.rls, r'.tag = r.tag →
      SameBound r r' ∧ Advanced r r' ∧ (r.lost ≤ 65535 → r.lost ≤ r'.lost)

/-! ### Frames -/

/-- Every request that a frame can carry is read back from the frame that carries it: no field of any layout is lost.
And a frame that passes the form step is the frame of the request read from it, up to its flags byte: kind, payload and
a zero reserved field; the flags are none or ANSWER_ALWAYS. -/
def Obligations.RequestRoundTrip : Prop :=
  (∀ (tag : Tag) (r : Request), requestFits r = true → readRequest (requestFrame tag r) = some r)
    ∧ ∀ (f : Frame) (r : Request), readRequest f = some r →
      requestFits r = true ∧ requestFrame f.tag r = { f with flags := 0 } ∧ (f.flags = 0x00 ∨ f.flags = 0x01)

/-- The frame of a control request sent symbol by symbol on a lane at rest arrives at the control buffers exactly as the
command of its row does, after the effects of a CRC-good frame on LINK_LOST and the link timer. -/
def Obligations.FrameBySymbols : Prop :=
  ∀ (s : State) (f : Frame), Quiet s → s.lrx.state = .hunt → 4 ≤ s.lrx.idle → f.kind ≠ kindLine →
    f.payload.length ≤ 3084 →
    execAll (frameSymbols f) s = .next (takeControl f (goodFrame (s.setLrx (s.lrx.without .hunt 0))))

/-! ### The symbols of the downstream lane -/

/-- START_MARK: after four idle symbols in HUNT it opens a frame, with the header, the CRC and the byte count clear;
before, it is a gap violation, in LINK_ERROR(FRAMING) and SKIP; in SKIP it is taken without effect. Inside a frame, the
frame is dropped with LINK_ERROR(FRAMING), an accepted LINE frame's lines with it, and LRX enters SKIP. -/
def Obligations.StartMark : Prop :=
  ∀ s : State, Quiet s →
    (s.lrx.state = .hunt → 4 ≤ s.lrx.idle → exec .startMark s = .next (s.setLrx { s.lrx with
        state := .header, idle := 0, header := [], payload := [], trailer := [], crc := 0xFFFF, line := .undecided }))
    ∧ (s.lrx.state = .hunt → s.lrx.idle < 4 → ∃ t, exec .startMark s = .next t ∧ t.lrx.state = .skip
        ∧ t = settle (raiseLinkError .framing 0 0 (s.setLrx { s.lrx with
            state := .skip, idle := 0, header := [], payload := [], trailer := [], crc := 0xFFFF, line := .undecided })))
    ∧ (s.lrx.state = .skip → exec .startMark s = .next s)
    ∧ (s.lrx.state = .header ∨ s.lrx.state = .payload ∨ s.lrx.state = .trailer →
        exec .startMark s = .next (frameDropped .framing .skip 0 s)
          ∧ FrameGone s (frameDropped .framing .skip 0 s) .skip 0)

/-- DATA_SYMBOL: taken without effect in HUNT and SKIP; in HEADER the first seven bytes are gathered and added to the
CRC; the eighth byte completes the payload length: 0 leads to TRAILER, for a control frame, one up to 3,084 to PAYLOAD,
and a greater one is a framing error that leads to SKIP; in PAYLOAD a byte is gathered up to the stated length, and
nothing else for a control frame, and for a LINE frame where it ends neither the line fields, nor a payload too short
for them, nor a pixel of an accepted frame; in TRAILER two bytes are gathered, and a third is a framing error that drops
the frame, an accepted LINE frame's lines with it, and leads to SKIP. -/
def Obligations.DataSymbol : Prop :=
  ∀ (s : State) (b : Byte), Quiet s →
    (s.lrx.state = .hunt ∨ s.lrx.state = .skip → exec (.dataSymbol b) s = .next s)
    ∧ (s.lrx.state = .header → s.lrx.header.length < 7 → exec (.dataSymbol b) s = .next (s.setLrx { s.lrx with
        header := s.lrx.header ++ [b], crc := crcByte s.lrx.crc b }))
    ∧ (∀ n, s.lrx.state = .header → s.lrx.header.length = 7 → n = beNat ((s.lrx.header.drop 4).take 2) →
      (n = 0 → rxKind s.lrx ≠ kindLine → exec (.dataSymbol b) s = .next (s.setLrx { s.lrx with
          header := s.lrx.header ++ [b], crc := crcByte s.lrx.crc b, state := .trailer }))
      ∧ (1 ≤ n → n ≤ 3084 → exec (.dataSymbol b) s = .next (s.setLrx { s.lrx with
          header := s.lrx.header ++ [b], crc := crcByte s.lrx.crc b, state := .payload }))
      ∧ (3084 < n → exec (.dataSymbol b) s = .next (frameDropped .framing .skip 0 s)
          ∧ FrameGone s (frameDropped .framing .skip 0 s) .skip 0))
    ∧ (∀ n, s.lrx.state = .payload → n = s.lrx.payload.length + 1 →
        (rxKind s.lrx ≠ kindLine ∨ n < 10 ∧ n ≠ rxLength s.lrx
          ∨ 10 < n ∧ ((n - 10) % 3 ≠ 0 ∨ ∀ seg line offset count slot, s.lrx.line ≠ .accepted seg line offset count slot)) →
        exec (.dataSymbol b) s = .next (s.setLrx { s.lrx with
          payload := s.lrx.payload ++ [b], crc := crcByte s.lrx.crc b,
          state := if n < rxLength s.lrx then .payload else .trailer }))
    ∧ (s.lrx.state = .trailer → s.lrx.trailer.length < 2 → exec (.dataSymbol b) s = .next (s.setLrx { s.lrx with
        trailer := s.lrx.trailer ++ [b] }))
    ∧ (s.lrx.state = .trailer → 2 ≤ s.lrx.trailer.length →
        exec (.dataSymbol b) s = .next (frameDropped .framing .skip 0 s)
          ∧ FrameGone s (frameDropped .framing .skip 0 s) .skip 0)

/-- DATA_SYMBOL as the tenth payload byte of a LINE frame, or as the last byte of a shorter payload. A well-formed frame is judged by the table of the cursor
check, whose first row that applies gives the code. An accepted frame with pixel offset 0 allocates a FILLING entry at
the tail, and one with ANSWER_ALWAYS holds an answer slot; a refused frame holds a slot for its answer; a frame that
needs a slot when none is free is dropped with LINK_ERROR(ANSWER_OVERRUN). A frame that fails the form check, by its
length, its pixel count, its reserved field or its flags, or whose payload ends before ten bytes, is refused
MALFORMED. -/
def Obligations.LineAcceptance : Prop :=
  (∀ (s : State) (seg : Tag) (line offset count : Nat),
    (findSeg seg s.rls = none → cursorCheck s seg line offset count = some .unknownSegment)
    ∧ ∀ r, findSeg seg s.rls = some r →
      (r.fill = .sealed → cursorCheck s seg line offset count = some .late)
      ∧ (r.fill = .filling → (∀ c ∈ s.cpa, c.tag ≠ seg) → cursorCheck s seg line offset count = some .outOfOrder)
      ∧ ∀ c, r.fill = .filling → s.cpa = some c → c.tag = seg →
        (line < c.line → cursorCheck s seg line offset count = some .late)
        ∧ (c.line < line → cursorCheck s seg line offset count = some .outOfOrder)
        ∧ (line = c.line → offset ≠ c.pixel → cursorCheck s seg line offset count = some .outOfOrder)
        ∧ (line = c.line → offset = c.pixel → r.width < offset + count →
            cursorCheck s seg line offset count = some .outOfRange)
        ∧ (line = c.line → offset = c.pixel → offset + count ≤ r.width → offset = 0 → freeCount s = 0 →
            cursorCheck s seg line offset count = some .storeFull)
        ∧ (line = c.line → offset = c.pixel → offset + count ≤ r.width → (offset ≠ 0 ∨ freeCount s ≠ 0) →
            cursorCheck s seg line offset count = none))
    ∧ (∀ (s : State) (b : Byte) (seg : Tag) (line offset count : Nat) (always : Bool), Quiet s →
      s.lrx.state = .payload → s.lrx.line = .undecided → line < 65536 → offset < 4294967296 → 1 ≤ count →
      count ≤ 1024 →
      s.lrx.header = [kindLine, if always then 1 else 0] ++ beBytes 2 (rxTag s.lrx).toNat ++ beBytes 2 (10 + 3 * count)
        ++ [0, 0] →
      s.lrx.payload ++ [b] = beBytes 2 seg.toNat ++ beBytes 2 line ++ beBytes 4 offset ++ beBytes 2 count →
      (cursorCheck s seg line offset count = none → (always = true → slotFree s = true) →
        exec (.dataSymbol b) s = .next (ltxChoose
          ((s.setLst (if offset = 0 then s.lst ++
              [{ tag := seg, line := line, state := .filling, written := [], provisional := [] }] else s.lst)).setLrx
            { s.lrx with
              payload := s.lrx.payload ++ [b], crc := crcByte s.lrx.crc b,
              line := .accepted seg line offset count always })))
      ∧ (∀ code, cursorCheck s seg line offset count = some code → slotFree s = true →
        exec (.dataSymbol b) s = .next (s.setLrx { s.lrx with
          payload := s.lrx.payload ++ [b], crc := crcByte s.lrx.crc b, line := .refused code }))
      ∧ (cursorCheck s seg line offset count ≠ none ∨ always = true → slotFree s = false →
        exec (.dataSymbol b) s = .next (settle (raiseLinkError .answerOverrun kindLine (rxTag s.lrx)
          (s.setLrx { s.lrx with
            payload := s.lrx.payload ++ [b], crc := crcByte s.lrx.crc b, line := .dropped })))))
    ∧ ∀ (s : State) (b : Byte) (count : Nat) (l : Lrx), Quiet s → rxKind s.lrx = kindLine →
      count = beNat ((s.lrx.payload ++ [b]).drop 8) →
      (s.lrx.state = .payload ∧ s.lrx.payload.length = 9
          ∧ (rxLength s.lrx ≠ 10 + 3 * count ∨ count = 0 ∨ 1024 < count
            ∨ beNat ((s.lrx.header.drop 6).take 2) ≠ 0 ∨ ((s.lrx.header.drop 1).headD 0 ≠ 0x00
              ∧ (s.lrx.header.drop 1).headD 0 ≠ 0x01))
          ∧ l = { s.lrx with
            payload := s.lrx.payload ++ [b], crc := crcByte s.lrx.crc b,
            state := if 10 < rxLength s.lrx then .payload else .trailer })
        ∨ (s.lrx.state = .payload ∧ s.lrx.payload.length < 9 ∧ s.lrx.payload.length + 1 = rxLength s.lrx
          ∧ l = { s.lrx with payload := s.lrx.payload ++ [b], crc := crcByte s.lrx.crc b, state := .trailer })
        ∨ (s.lrx.state = .header ∧ s.lrx.header.length = 7 ∧ rxLength s.lrx = 0
          ∧ l = { s.lrx with header := s.lrx.header ++ [b], crc := crcByte s.lrx.crc b, state := .trailer }) →
      (slotFree s = true → exec (.dataSymbol b) s = .next (s.setLrx { l with line := .refused .malformed }))
      ∧ (slotFree s = false → exec (.dataSymbol b) s = .next (settle (raiseLinkError .answerOverrun kindLine
          (rxTag s.lrx) (s.setLrx { l with line := .dropped }))))

/-- DATA_SYMBOL as the third byte of a pixel of an accepted LINE frame: the pixel is converted with the bound bank and
grade of its record, by its line number and position, and its six drop levels are written provisionally into the
line's FILLING entry; nothing else but the receiver's byte count changes. -/
def Obligations.LinePixel : Prop :=
  ∀ (s : State) (b a0 a1 : Byte) (seg : Tag) (line offset count k : Nat) (slot : Bool) (r : Segment), Quiet s →
    s.lrx.state = .payload → rxKind s.lrx = kindLine → s.lrx.line = .accepted seg line offset count slot →
    findSeg seg s.rls = some r → s.lrx.payload.length = 12 + 3 * k → s.lrx.payload.length < rxLength s.lrx →
    s.lrx.payload.drop (10 + 3 * k) = [a0, a1] →
    exec (.dataSymbol b) s = .next
      ((s.setLst (modFilling seg line (fun e => { e with provisional := e.provisional ++
          [convertPixel (bankOf s r.slot r.bank) r.grade line (offset + k) a0.toNat a1.toNat b.toNat] }) s.lst)).setLrx
        { s.lrx with
          payload := s.lrx.payload ++ [b], crc := crcByte s.lrx.crc b,
          state := if s.lrx.payload.length + 1 < rxLength s.lrx then .payload else .trailer })

/-- IDLE_FILL always goes on, and restarts a running link timer from the full timeout in every receive state. In HUNT it
adds to the idle count; in SKIP it does nothing else; a frame in reception is dropped with LINK_ERROR(FRAMING), its kind
and its tag, and leaves HUNT with idle count 1: an accepted LINE frame with pixel offset 0 gives its entry back, one with
another offset loses its provisional pixels only, the fill cursor stays, and nothing is answered. -/
def Obligations.IdleFill : Prop :=
  ∀ s u : State, Quiet s → u = s.setLrx { s.lrx with timer := s.lrx.timer.map fun _ => s.line.linkTimeout } →
    (s.lrx.state = .hunt → exec .idleFill s = .next (u.setLrx { u.lrx with idle := s.lrx.idle + 1 }))
    ∧ (s.lrx.state = .skip → exec .idleFill s = .next u)
    ∧ (s.lrx.state = .header ∨ s.lrx.state = .payload ∨ s.lrx.state = .trailer →
        exec .idleFill s = .next (frameDropped .framing .hunt 1 u) ∧ FrameGone s (frameDropped .framing .hunt 1 u) .hunt 1
          ∧ (∀ seg line offset count slot, s.lrx.line = .accepted seg line offset count slot →
            (frameDropped .framing .hunt 1 u).lst = (if offset = 0 then releaseFilling seg line s.lst
              else modFilling seg line (fun e => { e with provisional := [] }) s.lst))
          ∧ ((∀ seg line offset count slot, s.lrx.line ≠ .accepted seg line offset count slot) →
            (frameDropped .framing .hunt 1 u).lst = s.lst))

/-- END_MARK of a control frame: with a matching CRC the frame goes to the control buffers after the effects of a
CRC-good frame (an end of LINK_LOST, a restart of the link timer in WARMUP and RUN); with another CRC it is discarded
unanswered, with LINK_ERROR(CRC) carrying its kind and tag. In HUNT the mark is taken without effect; from SKIP LRX
returns to HUNT. A frame of any kind that ends with another CRC, or before its header, payload and CRC are complete, is
dropped with LINK_ERROR(CRC) or LINK_ERROR(FRAMING) and leaves HUNT; an accepted LINE frame loses its lines with it: the
entry that its offset 0 allocated, else its provisional pixels only. -/
def Obligations.EndMark : Prop :=
  ∀ s : State, Quiet s →
    (s.lrx.state = .trailer → rxKind s.lrx ≠ kindLine → s.lrx.trailer = crcBytes s.lrx.crc →
        exec .endMark s = .next (takeControl (rxFrame s.lrx) ((goodFrame s).modLrx fun l => l.without .hunt 0))
        ∧ (goodFrame s).alc.holds[AlertSource.linkLost.index] = false
        ∧ (goodFrame s).lrx.timer =
            (if s.mou.mode = .warmup ∨ s.mou.mode = .run then some s.line.linkTimeout else s.lrx.timer))
    ∧ (s.lrx.state = .trailer → 2 ≤ s.lrx.trailer.length → s.lrx.trailer ≠ crcBytes s.lrx.crc →
        exec .endMark s = .next (frameDropped .crc .hunt 0 s) ∧ FrameGone s (frameDropped .crc .hunt 0 s) .hunt 0)
    ∧ (s.lrx.state = .header ∨ s.lrx.state = .payload ∨ (s.lrx.state = .trailer ∧ s.lrx.trailer.length < 2) →
        exec .endMark s = .next (frameDropped .framing .hunt 0 s)
          ∧ FrameGone s (frameDropped .framing .hunt 0 s) .hunt 0)
    ∧ (s.lrx.state = .hunt → exec .endMark s = .next s)
    ∧ (s.lrx.state = .skip → exec .endMark s = .next (s.setLrx (s.lrx.without .hunt 0)))

/-- END_MARK of an accepted LINE frame with a matching CRC: its provisional pixels count as written; the fill pixel
advances by the pixel count, or, when that completes the line, the entry becomes READY and the cursor moves to the next
line, or, after the last line, the record is SEALED and the cursor passes to the oldest FILLING record. A frame with
ANSWER_ALWAYS is answered ACCEPTED, one without is not answered. A refused LINE frame is answered its code at its good
end mark, and a dropped one is not answered; neither touches the cursor, the run list or the line store. -/
def Obligations.LineFrameCompletes : Prop :=
  (∀ (s : State) (seg : Tag) (line offset count : Nat) (slot : Bool) (r : Segment) (c : FillCursor), Quiet s →
    s.lrx.state = .trailer → s.lrx.trailer = crcBytes s.lrx.crc → rxKind s.lrx = kindLine →
    s.lrx.line = .accepted seg line offset count slot → findSeg seg s.rls = some r → s.cpa = some c → c.tag = seg →
    ∃ t, exec .endMark s = .next t
      ∧ t.lrx.state = .hunt ∧ t.lrx.idle = 0 ∧ t.lrx.line = .undecided ∧ t.lrx.execute = s.lrx.execute
      ∧ t.lst = modFilling seg line (fun e => { e with
          written := e.written ++ e.provisional, provisional := [],
          state := if offset + count = r.width then .ready else .filling }) s.lst
      ∧ (offset + count ≠ r.width →
          t.cpa = some { tag := seg, line := line, pixel := offset + count } ∧ t.rls = s.rls)
      ∧ (offset + count = r.width → line + 1 < r.lines →
          t.cpa = some { tag := seg, line := line + 1, pixel := 0 } ∧ t.rls = s.rls)
      ∧ (offset + count = r.width → r.lines ≤ line + 1 →
          t.rls = modSeg seg (fun x => { x with fill := .sealed }) s.rls
            ∧ t.cpa = cursorAtOldestFilling (modSeg seg (fun x => { x with fill := .sealed }) s.rls))
      ∧ (slot = true → t.ltx = (deliver (lineAnswer (rxTag s.lrx) .accepted) s).ltx)
      ∧ (slot = false → t.ltx = s.ltx)
      ∧ t.pfs = s.pfs ∧ t.bars = s.bars ∧ t.tnc = s.tnc ∧ t.mou = s.mou ∧ t.htc = s.htc ∧ t.line = s.line)
    ∧ ∀ s : State, Quiet s → s.lrx.state = .trailer → s.lrx.trailer = crcBytes s.lrx.crc → rxKind s.lrx = kindLine →
      (∀ seg line offset count slot, s.lrx.line ≠ .accepted seg line offset count slot) →
      ∃ t, exec .endMark s = .next t
        ∧ t.lrx.state = .hunt ∧ t.lrx.idle = 0 ∧ t.lrx.line = .undecided ∧ t.lrx.execute = s.lrx.execute
        ∧ (∀ code, s.lrx.line = .refused code → t.ltx = (deliver
            { tag := rxTag s.lrx, kind := 0x01, cmd := 0, code := code, detail := 0, reply := [] } s).ltx)
        ∧ (s.lrx.line = .dropped → t.ltx = s.ltx)
        ∧ t.cpa = s.cpa ∧ t.rls = s.rls ∧ t.lst = s.lst ∧ t.pfs = s.pfs ∧ t.bars = s.bars ∧ t.tnc = s.tnc ∧ t.mou = s.mou
        ∧ t.htc = s.htc ∧ t.line = s.line ∧ t.cmuSlot = s.cmuSlot

/-- ABORT_MARK: the frame in reception and the frame in the intake buffer are discarded unanswered, LRX enters HUNT with
its idle count at zero, and no alert is raised; the execute buffer and the link timer are not touched. An accepted LINE
frame with offset 0 gives its entry back; one with another offset loses its provisional pixels only. -/
def Obligations.AbortMark : Prop :=
  ∀ s : State, Quiet s →
    ((∀ seg line offset count slot, s.lrx.line ≠ .accepted seg line offset count slot) →
      exec .abortMark s = .next (s.setLrx { s.lrx with
        state := .hunt, idle := 0, header := [], payload := [], trailer := [], crc := 0xFFFF, line := .undecided,
        intake := none }))
    ∧ ∀ seg line offset count slot, s.lrx.line = .accepted seg line offset count slot →
      ∃ t, exec .abortMark s = .next t ∧ t.lrx = { s.lrx with
          state := .hunt, idle := 0, header := [], payload := [], trailer := [], crc := 0xFFFF, line := .undecided,
          intake := none }
        ∧ t.lst = (if offset = 0 then releaseFilling seg line s.lst
            else modFilling seg line (fun e => { e with provisional := [] }) s.lst)
        ∧ t.ltx.answers = s.ltx.answers ∧ t.ltx.notices = s.ltx.notices ∧ t.cpa = s.cpa ∧ t.alc = s.alc ∧ t.rls = s.rls
        ∧ t.pfs = s.pfs ∧ t.bars = s.bars ∧ t.mou = s.mou ∧ t.htc = s.htc ∧ t.tnc = s.tnc ∧ t.line = s.line

/-! ### The transmitter and the link timer -/

/-- FRAME_SENT and GAP_END. At FRAME_SENT, LTX enters GAP; a TRACE whose record is still in the list, RETIRED with
trace-sent set, takes the record out of the list and releases nothing; every other frame, and a TRACE whose record has
left, changes nothing else. At GAP_END, LTX returns to IDLE and chooses in the fixed order: the oldest answer; a HOLD or
RESUME that is due; the oldest notice, with the overrun flag as it stands, which is then cleared; the oldest RETIRED
record whose trace is unsent, which is marked; or nothing. -/
def Obligations.TransmitterProgress : Prop :=
  (∀ s : State, Quiet s →
    (∀ item bytes, s.ltx.tx = .sending item bytes → (∀ tag, item = .trace tag → findSeg tag s.rls = none) →
      exec .frameSent s = .next (s.setLtx { s.ltx with tx := .gap }))
    ∧ ∀ tag bytes r, s.ltx.tx = .sending (.trace tag) bytes → findSeg tag s.rls = some r → r.calender = .retired →
      r.traceSent = true →
      ∃ t, exec .frameSent s = .next t ∧ t.ltx = { s.ltx with tx := .gap }
        ∧ t.rls = s.rls.filter (fun x => !decide (x.tag = tag)) ∧ t.pfs = s.pfs ∧ t.tnc = s.tnc ∧ t.lst = s.lst
        ∧ t.cpa = s.cpa ∧ t.mou = s.mou ∧ t.htc = s.htc ∧ t.alc = s.alc ∧ t.lrx = s.lrx ∧ t.line = s.line)
    ∧ ∀ s : State, s.alc.fresh = [] → s.alc.evalDue = false → s.alc.reaction = stackReaction s.alc.stack →
      s.ltx.tx = .gap →
      (∀ a rest, s.ltx.answers = a :: rest → exec .gapEnd s = .next (s.setLtx { s.ltx with
          answers := rest, tx := .sending .answer (upFrame 0x81 0 a.tag (answerPayload a)) }))
      ∧ (s.ltx.answers = [] →
        (s.ltx.flowHeld = false → freeCount s < s.line.holdMark → exec .gapEnd s = .next (s.setLtx { s.ltx with
            flowHeld := true, tx := .sending .hold (upFrame 0x82 0 0 (beBytes 2 (freeCount s))) }))
        ∧ (s.ltx.flowHeld = true → s.line.resumeMark ≤ freeCount s → exec .gapEnd s = .next (s.setLtx { s.ltx with
            flowHeld := false, tx := .sending .resume (upFrame 0x83 0 0 (beBytes 2 (freeCount s))) }))
        ∧ ((s.ltx.flowHeld = false → s.line.holdMark ≤ freeCount s) →
            (s.ltx.flowHeld = true → freeCount s < s.line.resumeMark) →
          (∀ n rest, s.ltx.notices = n :: rest → exec .gapEnd s = .next (s.setLtx { s.ltx with
              notices := rest, overrun := false,
              tx := .sending .notice (upFrame 0x84 (if s.ltx.overrun then 1 else 0) 0 (noticePayload n)) }))
          ∧ (∀ r, s.ltx.notices = [] → s.rls.find? (fun r => decide (r.calender = .retired) && !r.traceSent) = some r →
              exec .gapEnd s = .next ((s.setLtx { s.ltx with
                tx := .sending (.trace r.tag) (upFrame 0x85 0 0 (tracePayload r)) }).setRls
                  (modSeg r.tag (fun x => { x with traceSent := true }) s.rls)))
          ∧ (s.ltx.notices = [] → (∀ r ∈ s.rls, r.calender = .retired → r.traceSent = true) →
              exec .gapEnd s = .next (s.setLtx { s.ltx with tx := .idle }))))

/-- LINK_TIMEOUT: the expiry of a running timer begins LINK_LOST, with subcode TIMEOUT, kind 0 and tag 0 in its context,
and the timer stays stopped; a stopped timer does not expire. -/
def Obligations.LinkTimeout : Prop :=
  ∀ s : State, Quiet s →
    (∀ n, s.lrx.timer = some n → ∃ t, exec .linkTimeout s = .next t ∧ t.lrx = { s.lrx with timer := none }
      ∧ t.alc.holds[AlertSource.linkLost.index] = true
      ∧ t.alc.condCtx[AlertSource.linkLost.index] = some
          { seg := none, unit := none, link := some { subcode := .timeout, kind := 0, tag := 0 }, p := s.mou.p,
            measured := 0 }
      ∧ t.lst = s.lst ∧ t.cpa = s.cpa ∧ t.pfs = s.pfs ∧ t.bars = s.bars ∧ t.tnc = s.tnc ∧ t.line = s.line
      ∧ t.mou.p = s.mou.p)
    ∧ (s.lrx.timer = none → exec .linkTimeout s = .next s)

/-! ### Control frames in general -/

/-- The checks are made in the order form, range, mode, object, and the first that fails gives the answer code; a frame
refused in any of the four changes no state of the part: the only results are its answer, in its slot, and the execute
buffer being EMPTY again. The range step passes exactly the fields within the ranges and cross-field rules of the spec's
tables, and the mode step exactly the states they admit. The object checks of SEGMENT_OPEN stand in their order; CLEAR_LINE
is refused ALERT_ACTIVE under a stack entry, ALERT_CLEAR NOT_FOUND without one, and SEGMENT_ABORT and the SEGMENT query
NOT_FOUND without a record of the tag. -/
def Obligations.RefusedFrameChangesNothing : Prop :=
  (∀ s : State, CanExecute s →
    (∀ f : Frame, readRequest f = none →
      exec (.malformedControlFrame f) s = .next (deliver (controlAnswer f .malformed 0 []) s))
    ∧ ∀ (tag : Tag) (r : Request), requestFits r = true →
      (rangeOk r = false → exec (rowOf tag r) s = .next (deliver (answerTo tag r .outOfRange 0 []) s))
      ∧ (rangeOk r = true → modeOk s r = false →
          exec (rowOf tag r) s = .next (deliver (answerTo tag r .wrongMode 0 []) s))
      ∧ ∀ code detail, rangeOk r = true → modeOk s r = true → objectCheck s r = some (code, detail) →
          exec (rowOf tag r) s = .next (deliver (answerTo tag r code detail []) s))
    ∧ (∀ r : Request, rangeOk r = true ↔ RangeMet r)
    ∧ (∀ (s : State) (r : Request), modeOk s r = true ↔ ModeMet s r)
    ∧ ∀ s : State,
      (∀ (slot : Byte) (seg : Tag) (lines : W16) (gap : W32),
        OpenChecks s (slotOf slot) seg ((objectCheck s (.segmentOpen slot seg lines gap)).map Prod.fst)
        ∧ ∀ x ∈ objectCheck s (.segmentOpen slot seg lines gap), x.2 = 0)
      ∧ objectCheck s .clearLine = (if s.alc.stack = [] then none else some (.alertActive, 0))
      ∧ objectCheck s .alertClear = (if s.alc.stack = [] then some (.notFound, 0) else none)
      ∧ ∀ seg : Tag,
        objectCheck s (.segmentAbort seg) = (if ∃ r ∈ s.rls, r.tag = seg then none else some (.notFound, 0))
        ∧ objectCheck s (.querySegment seg) = (if ∃ r ∈ s.rls, r.tag = seg then none else some (.notFound, 0))

/-- A control frame that arrives while an execution takes time waits in the intake buffer; with both buffers FULL it is
answered BUSY; and one that finds the execute buffer EMPTY but no answer slot free is discarded without execution, with
LINK_ERROR(ANSWER_OVERRUN). -/
def Obligations.ControlBuffers : Prop :=
  ∀ (s : State) (tag : Tag) (r : Request), Quiet s →
    (∀ f, s.lrx.execute = some f → s.lrx.intake = none →
      exec (rowOf tag r) s = .next (s.setLrx { s.lrx with intake := some (requestFrame tag r) }))
    ∧ (∀ f g, s.lrx.execute = some f → s.lrx.intake = some g → slotFree s = true →
      exec (rowOf tag r) s = .next (deliver (answerTo tag r .busy 0 []) s))
    ∧ (s.pfs.check = none → s.lrx.execute = none → s.lrx.intake = none → slotFree s = false →
      exec (rowOf tag r) s = .next (settle (raiseLinkError .answerOverrun (requestKind r) tag s)))

/-- An accepted query changes nothing but the transmitter, which gets its answer: code ACCEPTED, detail 0 and the reply
record of the state in which it is executed. -/
def Obligations.QueryReplies : Prop :=
  ∀ (s : State) (tag : Tag), CanExecute s →
    exec (.queryCapability tag) s = .next (deliver (answerTo tag .queryCapability .accepted 0 capabilityRecord) s)
    ∧ (∀ seg r, findSeg seg s.rls = some r →
        exec (.querySegment tag seg) s
          = .next (deliver (answerTo tag (.querySegment seg) .accepted 0 (segmentRecord r)) s))
    ∧ exec (.queryRunlist tag) s = .next (deliver (answerTo tag .queryRunlist .accepted 0 (runlistRecord s)) s)
    ∧ (∀ slot : Byte, slot.toNat ≤ 7 →
        exec (.queryBank tag slot) s
          = .next (deliver (answerTo tag (.queryBank slot) .accepted 0 (bankRecord s (slotOf slot))) s))
    ∧ (∀ slot : Byte, slot.toNat ≤ 15 →
        exec (.queryFabric tag slot) s
          = .next (deliver (answerTo tag (.queryFabric slot) .accepted 0 (fabricRecord s (fabricSlotOf slot))) s))
    ∧ exec (.queryZones tag) s = .next (deliver (answerTo tag .queryZones .accepted 0 (zonesRecord s)) s)
    ∧ exec (.queryAlerts tag) s = .next (deliver (answerTo tag .queryAlerts .accepted 0 (alertsRecord s)) s)
    ∧ exec (.queryLine tag) s = .next (deliver (answerTo tag .queryLine .accepted 0 (lineRecord s)) s)

/-! ### Configuration -/

/-- LINE_CONFIG, TENSION_CONFIG and FABRIC_LOAD that pass their checks replace the whole line group, the whole tension
group or the whole record of the slot, and nothing else, and are answered ACCEPTED; a FABRIC_LOAD of a referenced slot
is refused SLOT_IN_USE. -/
def Obligations.GroupsReplaced : Prop :=
  (∀ (s : State) (tag : Tag) (c : LineFields), CanExecute s → lineRangeOk c = true → s.mou.mode = .standby →
      s.rls = [] →
      exec (.lineConfig tag c) s = .next (deliver (answerTo tag (.lineConfig c) .accepted 0 []) (s.setLine
        { width := c.width.toNat
          encNum := c.encNum.toNat
          encDen := c.encDen.toNat
          base := (c.encNum.toNat * 65536 + c.encDen.toNat / 2) / c.encDen.toNat
          offsets := #v[0, c.off2.toNat, c.off3.toNat, c.off4.toNat, c.off5.toNat, c.off6.toNat]
          channels := #v[channelOf c.ch1, channelOf c.ch2, channelOf c.ch3, channelOf c.ch4, channelOf c.ch5,
            channelOf c.ch6]
          nipDist := c.nipDist.toNat
          arcLen := c.arcLen.toNat
          countsPerM := c.countsPerM.toNat
          intakeLead := c.intakeLead.toNat
          linkTimeout := c.linkTimeout.toNat
          holdMark := c.holdMark.toNat
          resumeMark := c.resumeMark.toNat
          creep := c.creep.toNat
          accel := c.accel.toNat })))
    ∧ (∀ (s : State) (tag : Tag) (c : TensionFields), CanExecute s → tensionRangeOk c = true →
      exec (.tensionConfig tag c) s = .next (deliver (answerTo tag (.tensionConfig c) .accepted 0 [])
        (s.setTnc { s.tnc with group :=
          { paper := c.paper.toNat
            kp := #v[c.kp0.toNat, c.kp1.toNat, c.kp2.toNat]
            ki := #v[c.ki0.toNat, c.ki1.toNat, c.ki2.toNat]
            window := c.window.toNat
            windowCount := c.windowCount.toNat
            breakThreshold := c.breakThreshold.toNat
            standstill := c.standstill.toNat
            taperLen := c.taperLen.toNat } })))
    ∧ ∀ (s : State) (tag : Tag) (c : FabricFields), CanExecute s → fabricRangeOk c = true →
      (fabricReferenced s.tnc (fabricSlotOf c.slot) = false →
        exec (.fabricLoad tag c) s = .next (deliver (answerTo tag (.fabricLoad c) .accepted 0 []) (s.setTnc { s.tnc with
          fabrics := s.tnc.fabrics.set (fabricSlotOf c.slot) {
            record := some {
              code := c.code, unwind := c.unwind.toNat, rewind := c.rewind.toNat, compliance := c.compliance.toNat,
              maxTemp := c.maxTemp.toInt }
            segs := s.tnc.fabrics[fabricSlotOf c.slot].segs } })))
      ∧ (fabricReferenced s.tnc (fabricSlotOf c.slot) = true →
        exec (.fabricLoad tag c) s = .next (deliver (answerTo tag (.fabricLoad c) .slotInUse 0 []) s))

/-- HEAT_CONFIG that passes its checks replaces the heat group and forms the heat target again from it; zones, grade and
P_high are kept. With D_heat unchanged nothing else changes; with a changed D_heat the speed target is formed again. -/
def Obligations.HeatConfig : Prop :=
  ∀ (s : State) (tag : Tag) (c : HeatFields), CanExecute s → heatRangeOk c = true →
    ∃ u : State, exec (.heatConfig tag c) s = .next (deliver (answerTo tag (.heatConfig c) .accepted 0 []) u)
      ∧ u.htc.group = {
          idle := c.idle.toInt, idleBand := c.idleBand.toNat, standby := c.standby.toInt, dHeat := c.dHeat.toNat,
          ramp := c.ramp.toNat,
          kp := #v[c.kp0.toNat, c.kp1.toNat, c.kp2.toNat, c.kp3.toNat],
          ki := #v[c.ki0.toNat, c.ki1.toNat, c.ki2.toNat, c.ki3.toNat],
          trim := #v[c.trim0.toInt, c.trim1.toInt, c.trim2.toInt, c.trim3.toInt],
          overLimit := c.overLimit.toInt, derateCount := c.derateCount.toNat,
          recoverLimit := c.recoverLimit.toNat, recoverCount := c.recoverCount.toNat }
      ∧ (u.htc.target, u.htc.band, u.htc.source) = heatAim (s.setHtc { s.htc with group := u.htc.group })
      ∧ u.htc.zones = s.htc.zones ∧ u.htc.grade = s.htc.grade ∧ u.htc.pHigh = s.htc.pHigh
      ∧ (c.dHeat.toNat = s.htc.group.dHeat → u.mou = s.mou)
      ∧ (c.dHeat.toNat ≠ s.htc.group.dHeat → u.mou.target = speedTarget u
          ∧ (s.mou.mode ≠ .run → u.mou.reference = s.mou.reference)
          ∧ (s.mou.mode = .run → u.mou.reference = min s.mou.reference (speedTarget u)))
      ∧ u.mou.p = s.mou.p ∧ u.mou.mode = s.mou.mode ∧ u.lrx = s.lrx ∧ u.ltx = s.ltx ∧ u.line = s.line
      ∧ u.pfs = s.pfs ∧ u.cpa = s.cpa ∧ u.lst = s.lst ∧ u.bars = s.bars ∧ u.rls = s.rls ∧ u.tnc = s.tnc
      ∧ u.alc = s.alc

/-- BAR_CONFIG in STANDBY or HALTED with a set that contains bar 1: each bar in the set is ACTIVE if it was ACTIVE or its
fault input is clear, else FAULTED, and keeps its cursor unless it was OFF, when it takes the first line due above P;
each bar outside the set is OFF without a cursor. BAR_FAULT holds exactly if some bar is FAULTED afterwards, provided it
did so before. -/
def Obligations.BarConfig : Prop :=
  ∀ (s : State) (tag : Tag) (bars : Byte), CanExecute s → bars.toNat % 2 = 1 → bars.toNat < 64 →
    (s.mou.mode = .standby ∨ s.mou.mode = .halted) →
    ∃ t, exec (.barConfig tag bars) s = .next t
      ∧ t.ltx.tx = (deliver (answerTo tag (.barConfig bars) .accepted 0 []) s).ltx.tx
      ∧ t.ltx.answers = (deliver (answerTo tag (.barConfig bars) .accepted 0 []) s).ltx.answers
      ∧ (∀ k : Bar, t.bars[k].fault = s.bars[k].fault ∧ t.bars[k].port = s.bars[k].port)
      ∧ (∀ k : Bar, bars.getLsbD k.val = false → t.bars[k].state = .off ∧ t.bars[k].cursor = none)
      ∧ (∀ k : Bar, bars.getLsbD k.val = true →
          t.bars[k].state =
            (if s.bars[k].state = .active ∨ s.bars[k].fault = false then .active else .faulted)
          ∧ t.bars[k].cursor =
            (if s.bars[k].state = .off then firstLineAbove s.line s.mou.p k s.rls else s.bars[k].cursor))
      ∧ (s.alc.holds[AlertSource.barFault.index] = barFaultHolds s.bars →
          t.alc.holds[AlertSource.barFault.index] = barFaultHolds t.bars)
      ∧ t.mou.p = s.mou.p ∧ t.mou.mode = s.mou.mode ∧ t.cpa = s.cpa ∧ t.pfs = s.pfs ∧ t.tnc = s.tnc ∧ t.line = s.line

/-- ALERT_CONFIG that passes its checks replaces the named source's level, grade and serving mode together and leaves
the other twelve sources' configuration, the holds flags and the threshold as they were; set to OFF, an occurrence that
was pending is discarded. -/
def Obligations.AlertConfig : Prop :=
  ∀ (s : State) (tag : Tag) (source level grade mode : Byte) (src : AlertSource), CanExecute s →
    alertRangeOk source.toNat level.toNat grade.toNat mode.toNat = true → src.index.val = source.toNat →
    ∃ t, exec (.alertConfig tag source level grade mode) s = .next t
      ∧ t.ltx.tx = (deliver (answerTo tag (.alertConfig source level grade mode) .accepted 0 []) s).ltx.tx
      ∧ t.ltx.answers = (deliver (answerTo tag (.alertConfig source level grade mode) .accepted 0 []) s).ltx.answers
      ∧ (t.alc.config[src.index].level = if level.toNat = 0xFF then none else some (Fin.ofNat 4 level.toNat))
      ∧ t.alc.config[src.index].grade.rank = grade.toNat
      ∧ (t.alc.config[src.index].mode = if mode.toNat = 1 then .fast else .latched)
      ∧ (∀ other : AlertSource, other ≠ src → t.alc.config[other.index] = s.alc.config[other.index])
      ∧ (level.toNat = 0xFF → t.alc.occ[src.index] = none)
      ∧ t.alc.holds = s.alc.holds ∧ t.alc.condCtx = s.alc.condCtx ∧ t.alc.threshold = s.alc.threshold
      ∧ t.lst = s.lst ∧ t.cpa = s.cpa ∧ t.pfs = s.pfs ∧ t.bars = s.bars ∧ t.tnc = s.tnc ∧ t.line = s.line
      ∧ t.mou.p = s.mou.p

/-- ALERT_HOLD with a threshold of 0..3 sets it; when no pending source is eligible under the new threshold, nothing
else changes but the transmitter, which gets the answer. ALERT_LOG_RESET makes the first-alert record absent and empties
the later-alert set, and touches nothing else. What enters the log and what the threshold holds back: an occurrence at
OFF has no effect; one that is pending merges, up to 255, unlogged; else it is pending and logged, in an absent
first-alert record or the later-alert set, and, where it may be served, served: FAST with a notice alone, LATCHED with an
entry of the stack and its grade in force too. A condition that begins stores its context; without an entry of its own,
and not OFF, it is pending, logged and, where it may be, served LATCHED. -/
def Obligations.AlertHoldAndLogReset : Prop :=
  (∀ (s : State) (tag : Tag) (threshold : Byte), CanExecute s → threshold.toNat ≤ 3 →
      (∃ t, exec (.alertHold tag threshold) s = .next t ∧ t.alc.threshold.val = threshold.toNat
        ∧ t.alc.config = s.alc.config ∧ t.alc.holds = s.alc.holds ∧ t.alc.firstAlert = s.alc.firstAlert
        ∧ t.alc.later = s.alc.later ∧ t.lst = s.lst ∧ t.cpa = s.cpa ∧ t.pfs = s.pfs ∧ t.bars = s.bars ∧ t.tnc = s.tnc)
      ∧ ((∀ src, eligible { s.alc with threshold := Fin.ofNat 4 threshold.toNat } src = false) →
        exec (.alertHold tag threshold) s = .next (deliver (answerTo tag (.alertHold threshold) .accepted 0 [])
          (s.setAlc { s.alc with threshold := Fin.ofNat 4 threshold.toNat }))))
    ∧ (∀ (s : State) (tag : Tag), CanExecute s →
      exec (.alertLogReset tag) s = .next (deliver (answerTo tag .alertLogReset .accepted 0 [])
        (s.setAlc { s.alc with firstAlert := none, later := Vector.replicate 13 false })))
    ∧ (∀ (s t : State) (src : AlertSource) (ctx : Context), Quiet s → AlertsServed s → src.isCondition = false →
      t = settle (raiseOcc src ctx s) →
      (s.alc.config[src.index].level = none → t = s)
      ∧ ∀ level grade mode, s.alc.config[src.index] = { level := some level, grade := grade, mode := mode } →
        (∀ o, s.alc.occ[src.index] = some o → t = s.setAlc { s.alc with
            occ := s.alc.occ.set src.index (some { o with merge := min 255 (o.merge + 1) }) })
        ∧ (s.alc.occ[src.index] = none →
          (¬Servable s.alc src level → t = s.setAlc { logged src ctx s.alc with
              occ := s.alc.occ.set src.index (some { merge := 1, ctx := ctx }) })
          ∧ (Servable s.alc src level → mode = .fast →
              t = (s.setAlc (logged src ctx s.alc)).setLtx (deliverNotice {
                source := src, level := level, grade := grade, mode := .fast, merge := 1,
                depth := s.alc.stack.length, ctx := ctx } s.ltx))
          ∧ (Servable s.alc src level → mode = .latched →
              t.alc = { logged src ctx s.alc with
                stack := { source := src, level := level, grade := grade, merge := 1, ctx := ctx } :: s.alc.stack
                reaction := s.alc.reaction.max grade }
              ∧ t.ltx = deliverNotice {
                source := src, level := level, grade := grade, mode := .latched, merge := 1,
                depth := s.alc.stack.length + 1, ctx := ctx } s.ltx)))
    ∧ ∀ (s t : State) (a : Alc) (src : AlertSource) (ctx : Context), Quiet s → AlertsServed s → src.isCondition = true →
      t = settle (beginCond src ctx s) →
      a = { s.alc with holds := s.alc.holds.set src.index true, condCtx := s.alc.condCtx.set src.index (some ctx) } →
      (s.alc.config[src.index].level = none ∨ (∃ e ∈ s.alc.stack, e.source = src) → t = s.setAlc a)
      ∧ ∀ level grade mode, s.alc.config[src.index] = { level := some level, grade := grade, mode := mode } →
        (∀ e ∈ s.alc.stack, e.source ≠ src) →
        (¬Servable s.alc src level → t = s.setAlc (logged src ctx a))
        ∧ (Servable s.alc src level →
            t.alc = { logged src ctx a with
              stack := { source := src, level := level, grade := grade, merge := 1, ctx := ctx } :: s.alc.stack
              reaction := s.alc.reaction.max grade }
            ∧ t.ltx = deliverNotice {
              source := src, level := level, grade := grade, mode := .latched, merge := 1,
              depth := s.alc.stack.length + 1, ctx := ctx } s.ltx)

/-- ALERT_CLEAR pops the top entry and is answered with its source's number; when nothing is pending afterwards, the
stack is what lay below, and the reaction in force falls to the highest grade left. A web break that still holds cannot
be cleared away: its entry is pushed again in the same event, with the context of its latest beginning, and the
reaction, the line mode and the stop cause stay as they were. -/
def Obligations.AlertClear : Prop :=
  (∀ (s : State) (tag : Tag) (e : StackEntry) (rest : List StackEntry), CanExecute s → StackOrdered s →
      s.alc.stack = e :: rest → (∀ src, sourcePending { s.alc with stack := rest } src = false) →
      ∃ t, exec (.alertClear tag) s = .next t
        ∧ t.ltx = (deliver (answerTo tag .alertClear .accepted e.source.index.val []) s).ltx
        ∧ t.alc = { s.alc with stack := rest, reaction := stackReaction rest }
        ∧ t.mou.mode = s.mou.mode
        ∧ t.mou.p = s.mou.p ∧ t.lst = s.lst ∧ t.cpa = s.cpa ∧ t.pfs = s.pfs ∧ t.bars = s.bars ∧ t.tnc = s.tnc)
    ∧ ∀ (s : State) (tag : Tag) (e : StackEntry) (rest : List StackEntry) (ctx : Context), CanExecute s → StackOrdered s →
      s.alc.stack = e :: rest → e.source = .webBreak → e.level = 3 → e.grade = .stop →
      s.alc.config[AlertSource.webBreak.index] = { level := some 3, grade := .stop, mode := .latched } →
      s.alc.holds[AlertSource.webBreak.index] = true → s.alc.condCtx[AlertSource.webBreak.index] = some ctx →
      ∃ t, exec (.alertClear tag) s = .next t
        ∧ t.alc.stack = { source := .webBreak, level := 3, grade := .stop, merge := 1, ctx := ctx } :: rest
        ∧ t.alc.reaction = s.alc.reaction ∧ t.mou = s.mou

/-! ### Fabric and profiles -/

/-- SPLICE to a valid slot makes it the intake fabric. While a record is the tension source nothing else changes. While
the source is INTAKE the tension fabric follows: from none with no taper, to the same slot with none, and from another
slot with a taper from the old targets, starting at P with the whole taper length. A slot that is not valid is refused
NO_FABRIC. -/
def Obligations.Splice : Prop :=
  ∀ (s : State) (tag : Tag) (slot : Byte) (n : Fin 16), CanExecute s → slot.toNat ≤ 15 → n = fabricSlotOf slot →
    (s.tnc.fabrics[n].record = none →
      exec (.splice tag slot) s = .next (deliver (answerTo tag (.splice slot) .noFabric 0 []) s))
    ∧ (s.tnc.fabrics[n].record.isSome →
      (s.tnc.source ≠ none ∨ s.tnc.tension = some n →
        exec (.splice tag slot) s = .next (deliver (answerTo tag (.splice slot) .accepted 0 [])
          (s.setTnc { s.tnc with intake := some n })))
      ∧ (s.tnc.source = none → s.tnc.tension = none →
        exec (.splice tag slot) s = .next (deliver (answerTo tag (.splice slot) .accepted 0 [])
          (s.setTnc { s.tnc with intake := some n, tension := some n })))
      ∧ ∀ o, s.tnc.source = none → s.tnc.tension = some o → o ≠ n → 1 ≤ s.tnc.group.taperLen →
        exec (.splice tag slot) s = .next (deliver (answerTo tag (.splice slot) .accepted 0 [])
          (s.setTnc { s.tnc with
            intake := some n
            tension := some n
            taper := some {
              fromUnwind := match s.tnc.taper with
                | some x => x.fromUnwind + ((unwindOf s.tnc x.newFabric - x.fromUnwind) * (x.q - x.t0)).tdiv x.length
                | none => unwindOf s.tnc o
              fromRewind := match s.tnc.taper with
                | some x => x.fromRewind + ((rewindOf s.tnc x.newFabric - x.fromRewind) * (x.q - x.t0)).tdiv x.length
                | none => rewindOf s.tnc o
              newFabric := n
              prevFabric := o
              t0 := s.mou.p
              length := s.tnc.group.taperLen
              q := s.mou.p } })))

/-- TABLE acts on the inactive bank of its slot. A FREE or STAGING bank is STAGING afterwards and reads the piece back
clamped, and every other piece, every other bank and the rest of the part are as before; a CHECKING or DRAINING bank is
answered BANK_BUSY and nothing changes. -/
def Obligations.TablePiece : Prop :=
  ∀ (s : State) (tag : Tag) (slot piece : Byte) (body : TableBody) (n : Fin 8) (id : BankId), CanExecute s →
    tableBodyFits piece body = true → tableRangeOk slot.toNat piece.toNat body = true → n = slotOf slot →
    id = inactiveBank s.pfs.slots[n] →
    ((bankOf s n id).state = .free ∨ (bankOf s n id).state = .staging →
      ∃ u : State, exec (.table tag slot piece body) s
          = .next (deliver (answerTo tag (.table slot piece body) .accepted 0 []) (s.setPfs u.pfs))
        ∧ (bankOf u n id).state = .staging ∧ (bankOf u n id).count = (bankOf s n id).count
        ∧ (∀ vs, body = .values vs → pieceAt (bankOf u n id) piece.toNat
            = some (.values (vs.map fun v => min v.toNat (if piece.toNat ≤ 104 then 4096 else 4094))))
        ∧ (∀ h, body = .header h → pieceAt (bankOf u n id) piece.toNat = some (.header {
            nominal := h.nominal.toNat, tolerance := h.tolerance.toNat, minDwell := h.minDwell.toNat,
            inkLimit := max 4096 (min h.inkLimit.toNat 24576), name := h.name, check := h.check.toNat }))
        ∧ (∀ j, j ≠ piece.toNat → pieceAt (bankOf u n id) j = pieceAt (bankOf s n id) j)
        ∧ (∀ (m : Fin 8) (x : BankId), ¬(m = n ∧ x = id) → bankOf u m x = bankOf s m x)
        ∧ u.pfs.check = none)
    ∧ ((bankOf s n id).state = .checking ∨ (bankOf s n id).state = .draining →
      exec (.table tag slot piece body) s
        = .next (deliver (answerTo tag (.table slot piece body) .bankBusy 0 []) s))

/-- PROFILE_COMMIT of a STAGING inactive bank with the complete piece set starts the bank check: the bank is CHECKING,
the frame stays in the execute buffer and its answer slot stays held, and nothing else changes. Of an incomplete one it
is refused INCOMPLETE with the number of missing pieces, and of a bank in another state NOT_FOUND; both change
nothing. -/
def Obligations.ProfileCommit : Prop :=
  ∀ (s : State) (tag : Tag) (slot : Byte) (n : Fin 8) (id : BankId), CanExecute s → slot.toNat ≤ 7 → n = slotOf slot →
    id = inactiveBank s.pfs.slots[n] →
    ((bankOf s n id).state = .staging → (∀ i < 122, hasPiece (bankOf s n id) i = true) →
      ∃ u : State, exec (.profileCommit tag slot) s = .next (((s.setLrx { s.lrx with
            execute := some (requestFrame tag (.profileCommit slot)) }).setCmuSlot true).setPfs u.pfs)
        ∧ u.pfs.check = some (n, id)
        ∧ bankOf u n id = { bankOf s n id with state := .checking }
        ∧ ∀ (m : Fin 8) (x : BankId), ¬(m = n ∧ x = id) → bankOf u m x = bankOf s m x)
    ∧ ((bankOf s n id).state = .staging → (∃ i < 122, hasPiece (bankOf s n id) i = false) →
      exec (.profileCommit tag slot) s = .next (deliver (answerTo tag (.profileCommit slot) .incomplete
        (122 - (bankOf s n id).pieces.length) []) s))
    ∧ ((bankOf s n id).state ≠ .staging →
      exec (.profileCommit tag slot) s = .next (deliver (answerTo tag (.profileCommit slot) .notFound 0 []) s))

/-- BANK_CHECK_END. With a matching check word the checked bank becomes ACTIVE with count 0, the slot's other bank, if it
was ACTIVE, becomes DRAINING with its count or, at count 0, FREE, and PROFILE_COMMIT is answered ACCEPTED. With another
word the bank returns to STAGING with its pieces, PROFILE_COMMIT is answered CHECK_FAIL, and PROFILE_CHECK is raised with
the slot, the bank, P and the computed word. Either way no check is left, the answer slot is given back and the execute
buffer empties; a frame waiting in the intake buffer is then executed exactly as if it arrived in the state left. -/
def Obligations.BankCheckEnd : Prop :=
  ∀ (s : State) (n : Fin 8) (id : BankId) (f : Frame), Quiet s → s.pfs.check = some (n, id) →
    s.lrx.execute = some f →
    (s.lrx.intake = none → checkWord (bankOf s n id) = expectedWord (bankOf s n id) →
      ∃ u : State, exec .bankCheckEnd s = .next (deliver (controlAnswer f .accepted 0 [])
          (((s.setLrx { s.lrx with execute := none }).setCmuSlot false).setPfs u.pfs))
        ∧ u.pfs.check = none
        ∧ bankOf u n id = { bankOf s n id with state := .active, count := 0 }
        ∧ bankOf u n id.other =
            (if (bankOf s n id.other).state = .active then
              (if 0 < (bankOf s n id.other).count then { bankOf s n id.other with state := .draining }
              else { state := .free, count := 0, pieces := [] })
            else bankOf s n id.other)
        ∧ ∀ (m : Fin 8) (x : BankId), m ≠ n → bankOf u m x = bankOf s m x)
    ∧ (s.lrx.intake = none → checkWord (bankOf s n id) ≠ expectedWord (bankOf s n id) →
      ∃ u : State, exec .bankCheckEnd s = .next (settle (raiseOcc .profileCheck
            { seg := none, unit := some (.profileSlot n id), link := none, p := s.mou.p,
              measured := checkWord (bankOf s n id) }
            ((((s.setLrx { s.lrx with execute := none }).setCmuSlot false).setPfs u.pfs).setLtx { s.ltx with
              answers := s.ltx.answers ++ [controlAnswer f .checkFail 0 []] })))
        ∧ u.pfs.check = none
        ∧ bankOf u n id = { bankOf s n id with state := .staging }
        ∧ ∀ (m : Fin 8) (x : BankId), ¬(m = n ∧ x = id) → bankOf u m x = bankOf s m x)
    ∧ ∀ tag r, s.lrx.intake = some (requestFrame tag r) →
      ∃ u : State, exec .bankCheckEnd (s.setLrx { s.lrx with intake := none }) = .next u
        ∧ exec .bankCheckEnd s = exec (rowOf tag r) u

/-- PROFILE_DISCARD of a STAGING inactive bank makes it FREE with an empty piece set, in every line mode and whether the
set was complete or not; of a bank in any other state it is refused NOT_FOUND. No other bank is touched. -/
def Obligations.ProfileDiscard : Prop :=
  ∀ (s : State) (tag : Tag) (slot : Byte) (n : Fin 8) (id : BankId), CanExecute s → slot.toNat ≤ 7 → n = slotOf slot →
    id = inactiveBank s.pfs.slots[n] →
    ((bankOf s n id).state = .staging →
      ∃ u : State, exec (.profileDiscard tag slot) s
          = .next (deliver (answerTo tag (.profileDiscard slot) .accepted 0 []) (s.setPfs u.pfs))
        ∧ bankOf u n id = { state := .free, count := 0, pieces := [] }
        ∧ (∀ (m : Fin 8) (x : BankId), ¬(m = n ∧ x = id) → bankOf u m x = bankOf s m x)
        ∧ u.pfs.check = none)
    ∧ ((bankOf s n id).state ≠ .staging →
      exec (.profileDiscard tag slot) s = .next (deliver (answerTo tag (.profileDiscard slot) .notFound 0 []) s))
    ∧ (activeBank s.pfs.slots[n] ≠ some id)

/-! ### The run list and the line -/

/-- SEGMENT_OPEN that passes every check, in the order of the table: it makes a record at the tail with everything bound
as the bank's header, the heat grade, the intake fabric and the line group stand, placed behind its predecessor and at
least the intake lead ahead of P; both counts rise by one, a missing fill cursor and every enabled bar's cursor at END
start at it, a record within the taper distance becomes the tension source, and both targets are formed again. -/
def Obligations.SegmentOpen : Prop :=
  ∀ (s : State) (tag : Tag) (slot : Byte) (seg : Tag) (lines : W16) (gap : W32) (n : Fin 8) (id : BankId) (h : Header)
    (k : Fin 16) (f : Fabric), CanExecute s → slot.toNat ≤ 7 → n = slotOf slot → 1 ≤ lines.toNat → s.line.width ≠ 0 →
    s.mou.mode ≠ .stopping → s.alc.reaction = .note → s.rls.length < 32 → (∀ r ∈ s.rls, r.tag ≠ seg) →
    activeBank s.pfs.slots[n] = some id → headerOf (bankOf s n id) = some h → s.tnc.intake = some k →
    s.tnc.fabrics[k].record = some f → (h.nominal : Int) - 40 * s.htc.grade ≤ f.maxTemp →
    ∃ (r : Segment) (u : State),
      exec (.segmentOpen tag slot seg lines gap) s
        = .next (deliver (answerTo tag (.segmentOpen slot seg lines gap) .accepted 0 []) u)
      ∧ u.rls = s.rls ++ [r]
      ∧ r.tag = seg ∧ r.width = s.line.width ∧ r.lines = lines.toNat ∧ r.gap = gap.toNat
      ∧ r.start = (match s.rls.getLast? with
          | some x => max (x.start + x.length + gap.toNat) (s.mou.p + s.line.intakeLead)
          | none => s.mou.p + s.line.intakeLead)
      ∧ r.stretch = min (f.compliance * f.unwind / 10) 200000
      ∧ r.pitch = min (s.line.base + (s.line.base * r.stretch + 500000) / 1000000) 16777215
      ∧ r.length = lines.toNat * r.pitch / 65536
      ∧ r.slot = n ∧ r.bank = id ∧ r.grade = s.htc.grade ∧ r.needed = (h.nominal : Int) - 40 * s.htc.grade
      ∧ r.tolerance = h.tolerance ∧ r.minDwell = h.minDwell ∧ r.fabric = k
      ∧ r.fill = .filling ∧ r.print = .waiting ∧ r.calender = .approach ∧ (∀ b : Bar, r.printedBy[b] = false)
      ∧ r.lost = 0 ∧ r.traceSent = false ∧ r.dwell = none
      ∧ r.flags = {
          lostLines := false, aborted := false, spoiled := false, offBand := false, dwellShort := false,
          barMissed := false,
          pitchClamped := decide (16777215 < s.line.base + (s.line.base * r.stretch + 500000) / 1000000) }
      ∧ bankOf u n id = { bankOf s n id with count := (bankOf s n id).count + 1 }
      ∧ (∀ (m : Fin 8) (x : BankId), ¬(m = n ∧ x = id) → bankOf u m x = bankOf s m x)
      ∧ u.tnc.fabrics = s.tnc.fabrics.set k { s.tnc.fabrics[k] with segs := s.tnc.fabrics[k].segs + 1 }
      ∧ u.cpa = (if s.cpa = none then some { tag := seg, line := 0, pixel := 0 } else s.cpa)
      ∧ (∀ b : Bar, u.bars[b] =
          (if s.bars[b].state ≠ .off ∧ s.bars[b].cursor = none then { s.bars[b] with cursor := some (seg, 0) }
          else s.bars[b]))
      ∧ ((∀ x, s.tnc.source = some x → ∃ y ∈ s.rls, y.tag = x) →
          r.start + s.line.nipDist ≤ s.mou.p + s.tnc.group.taperLen →
          u.tnc.source = some seg ∧ u.tnc.tension = some k)
      ∧ u.mou.target = speedTarget u ∧ (u.htc.target, u.htc.band, u.htc.source) = heatAim u
      ∧ u.mou.p = s.mou.p ∧ u.mou.mode = s.mou.mode ∧ u.mou.requested = s.mou.requested ∧ u.htc.zones = s.htc.zones
      ∧ u.htc.grade = s.htc.grade ∧ u.htc.pHigh = s.htc.pHigh ∧ u.tnc.intake = s.tnc.intake
      ∧ u.tnc.zones = s.tnc.zones ∧ u.pfs.check = none ∧ u.lrx = s.lrx ∧ u.ltx = s.ltx ∧ u.line = s.line
      ∧ u.lst = s.lst ∧ u.alc = s.alc

/-- SEGMENT_ABORT of a record in the list, decided by its print state. WAITING: the record is removed, its references are
released and its entries void, cursors at it move on, and both targets are formed again. PRINTING: it is flagged ABORTED
and SPOILED, and if it is the filling segment it is sealed, its FILLING entry is released and the cursor passes on.
PRINTED: it is flagged and nothing else changes. An accepted LINE frame of the filling segment that still arrives
becomes refused, UNKNOWN_SEGMENT where the record is removed and LATE where it is sealed, in the slot it holds or in one
taken now, and dropped with LINK_ERROR(ANSWER_OVERRUN) where none is free. -/
def Obligations.SegmentAbort : Prop :=
  (∀ (s : State) (tag seg : Tag) (r : Segment), CanExecute s → findSeg seg s.rls = some r →
    (∀ line offset count slot, s.lrx.line ≠ .accepted seg line offset count slot) →
    (r.print = .waiting →
      ∃ u : State, exec (.segmentAbort tag seg) s = .next (deliver (answerTo tag (.segmentAbort seg) .accepted 0 []) u)
        ∧ WaitingRemoved s u seg r)
    ∧ (r.print = .printing → ∀ c, s.cpa = some c → c.tag = seg → r.fill = .filling →
      exec (.segmentAbort tag seg) s = .next (deliver (answerTo tag (.segmentAbort seg) .accepted 0 [])
        (((s.setRls (modSeg seg (fun x => { x with
              fill := .sealed, flags := { x.flags with aborted := true, spoiled := true } }) s.rls)).setLst
            (releaseFilling seg c.line s.lst)).setCpa
          (cursorAtOldestFilling (modSeg seg (fun x => { x with fill := .sealed }) s.rls)))))
    ∧ (r.print = .printing ∧ ((∀ c, s.cpa = some c → c.tag ≠ seg) ∨ r.fill = .sealed) ∨ r.print = .printed →
      exec (.segmentAbort tag seg) s = .next (deliver (answerTo tag (.segmentAbort seg) .accepted 0 [])
        (s.setRls (modSeg seg (fun x => { x with
          flags := { x.flags with aborted := true, spoiled := true } }) s.rls)))))
    ∧ ∀ (s : State) (tag seg : Tag) (r : Segment) (line offset count : Nat) (slot : Bool) (c : FillCursor) (l : LineRx),
      CanExecute s → findSeg seg s.rls = some r → s.lrx.line = .accepted seg line offset count slot →
      s.cpa = some c → c.tag = seg → r.fill = .filling →
      (r.print = .waiting → l = overtaken slot (slotsInUse s + 1) .unknownSegment →
        ∃ u : State, WaitingRemoved s u seg r
          ∧ (l ≠ .dropped → exec (.segmentAbort tag seg) s = .next (deliver
              (answerTo tag (.segmentAbort seg) .accepted 0 []) (u.setLrx { s.lrx with line := l })))
          ∧ (l = .dropped → exec (.segmentAbort tag seg) s = .next (settle (queueAnswer
              (answerTo tag (.segmentAbort seg) .accepted 0 [])
              (raiseLinkError .answerOverrun (rxKind s.lrx) (rxTag s.lrx) (u.setLrx { s.lrx with line := l }))))))
      ∧ (r.print = .printing → l = overtaken slot (slotsInUse s + 1) .late →
        ∃ u : State, u = ((s.setRls (modSeg seg (fun x => { x with
                fill := .sealed, flags := { x.flags with aborted := true, spoiled := true } }) s.rls)).setLst
              (releaseFilling seg c.line s.lst)).setCpa
            (cursorAtOldestFilling (modSeg seg (fun x => { x with fill := .sealed }) s.rls))
          ∧ (l ≠ .dropped → exec (.segmentAbort tag seg) s = .next (deliver
              (answerTo tag (.segmentAbort seg) .accepted 0 []) (u.setLrx { s.lrx with line := l })))
          ∧ (l = .dropped → exec (.segmentAbort tag seg) s = .next (settle (queueAnswer
              (answerTo tag (.segmentAbort seg) .accepted 0 [])
              (raiseLinkError .answerOverrun (rxKind s.lrx) (rxTag s.lrx) (u.setLrx { s.lrx with line := l }))))))

/-- RUN with a speed of 1..500. In STANDBY and HALTED the speed is stored and the line enters WARMUP, with the reference
at 0, the nip open, the link timer started and the heat target formed again; in WARMUP the speed is stored; in RUN it is
stored and the target formed at once, with a reference above it lowered to it. Under STOP it is refused ALERT_ACTIVE,
and in STOPPING WRONG_MODE. -/
def Obligations.RunDirective : Prop :=
  ∀ (s : State) (tag : Tag) (speed : W16), CanExecute s → 1 ≤ speed.toNat → speed.toNat ≤ 500 →
    (s.mou.mode = .stopping →
      exec (.run tag speed) s = .next (deliver (answerTo tag (.run speed) .wrongMode 0 []) s))
    ∧ (s.mou.mode ≠ .stopping → s.alc.reaction = .stop →
      exec (.run tag speed) s = .next (deliver (answerTo tag (.run speed) .alertActive 0 []) s))
    ∧ (s.alc.reaction ≠ .stop → s.mou.mode = .standby ∨ s.mou.mode = .halted →
      ∃ u : State, exec (.run tag speed) s = .next (deliver (answerTo tag (.run speed) .accepted 0 [])
          (((s.setLrx { s.lrx with timer := some s.line.linkTimeout }).setMou { s.mou with
            requested := speed.toNat, mode := .warmup, nipClosed := false, reference := 0, target := 0 }).setHtc u.htc))
        ∧ (u.htc.target, u.htc.band, u.htc.source) =
            (match s.rls.find? (fun r => decide (r.calender ≠ .retired)) with
              | some r => (r.needed, r.tolerance, .segment r.tag)
              | none => (s.htc.group.idle, s.htc.group.idleBand, .idle))
        ∧ u.htc.group = s.htc.group ∧ u.htc.zones = s.htc.zones ∧ u.htc.grade = s.htc.grade ∧ u.htc.pHigh = s.htc.pHigh)
    ∧ (s.alc.reaction ≠ .stop → s.mou.mode = .warmup →
      exec (.run tag speed) s = .next (deliver (answerTo tag (.run speed) .accepted 0 [])
        (s.setMou { s.mou with requested := speed.toNat })))
    ∧ (s.alc.reaction ≠ .stop → s.mou.mode = .run →
      exec (.run tag speed) s = .next (deliver (answerTo tag (.run speed) .accepted 0 [])
        (s.setMou { s.mou with
          requested := speed.toNat
          target := speedTarget (s.setMou { s.mou with requested := speed.toNat })
          reference := min s.mou.reference (speedTarget (s.setMou { s.mou with requested := speed.toNat })) })))

/-- STOP. In WARMUP the line enters STANDBY at once; in RUN it enters STOPPING with stop cause DIRECTIVE, the nip opens,
every record in the arc is flagged SPOILED and the link timer stops; in STOPPING it is answered ACCEPTED and has no
effect; in STANDBY and HALTED it is refused WRONG_MODE. The requested speed is kept. -/
def Obligations.StopDirective : Prop :=
  ∀ (s : State) (tag : Tag), CanExecute s →
    (s.mou.mode = .warmup →
      ∃ u : State, exec (.stop tag) s = .next (deliver (answerTo tag .stop .accepted 0 [])
          (((s.setLrx { s.lrx with timer := none }).setMou { s.mou with
            mode := .standby, nipClosed := false, reference := 0, target := 0 }).setHtc u.htc))
        ∧ (u.htc.target, u.htc.band, u.htc.source) = heatAim (s.setMou { s.mou with mode := .standby })
        ∧ u.htc.group = s.htc.group ∧ u.htc.zones = s.htc.zones ∧ u.htc.grade = s.htc.grade ∧ u.htc.pHigh = s.htc.pHigh)
    ∧ (s.mou.mode = .run →
      ∃ u : State, exec (.stop tag) s = .next (deliver (answerTo tag .stop .accepted 0 [])
          ((((s.setLrx { s.lrx with timer := none }).setMou { s.mou with
            mode := .stopping, cause := .directive, nipClosed := false, target := 0 }).setRls
              (s.rls.map fun r => if r.calender = .inArc then { r with flags := { r.flags with spoiled := true } }
                else r)).setHtc u.htc))
        ∧ (u.htc.target, u.htc.band, u.htc.source) = heatAim (s.setMou { s.mou with mode := .stopping })
        ∧ u.htc.group = s.htc.group ∧ u.htc.zones = s.htc.zones ∧ u.htc.grade = s.htc.grade ∧ u.htc.pHigh = s.htc.pHigh)
    ∧ (s.mou.mode = .stopping → exec (.stop tag) s = .next (deliver (answerTo tag .stop .accepted 0 []) s))
    ∧ (s.mou.mode = .standby ∨ s.mou.mode = .halted →
      exec (.stop tag) s = .next (deliver (answerTo tag .stop .wrongMode 0 []) s))

/-- CLEAR_LINE in STANDBY or HALTED with an empty stack is answered with the number of records removed, and each block
takes it as its chapter states: list, line store and cursors empty, P and P_last 0, counts and taper gone, DRAINING banks
FREE, heat grade and heat counters 0, pending occurrences cleared; a LINE frame in reception is refused UNKNOWN_SEGMENT,
or dropped where no slot is free for that. -/
def Obligations.ClearLine : Prop :=
  ∀ (s : State) (tag : Tag), CanExecute s → s.mou.mode = .standby ∨ s.mou.mode = .halted → s.alc.stack = [] →
    ∃ u : State, exec (.clearLine tag) s = .next (deliver (answerTo tag .clearLine .accepted s.rls.length []) u)
      ∧ u.rls = [] ∧ u.lst = [] ∧ u.cpa = none
      ∧ (∀ b : Bar, u.bars[b] = { s.bars[b] with cursor := none })
      ∧ u.mou = { s.mou with p := 0, pLast := 0, target := 0 }
      ∧ (∀ n : Fin 16, u.tnc.fabrics[n] = { s.tnc.fabrics[n] with segs := 0 })
      ∧ u.tnc.source = none ∧ u.tnc.tension = s.tnc.intake ∧ u.tnc.taper = none ∧ u.tnc.intake = s.tnc.intake
      ∧ u.tnc.zones = s.tnc.zones ∧ u.tnc.group = s.tnc.group
      ∧ (∀ (n : Fin 8) (id : BankId), bankOf u n id =
          (if (bankOf s n id).state = .draining then { state := .free, count := 0, pieces := [] }
          else { bankOf s n id with count := 0 }))
      ∧ u.htc.grade = 0 ∧ u.htc.pHigh = 0 ∧ u.htc.group = s.htc.group
      ∧ (∀ i : Fin 4, u.htc.zones[i] = { s.htc.zones[i] with sat := 0, recov := 0 })
      ∧ u.htc.target = s.htc.group.idle ∧ u.htc.band = s.htc.group.idleBand ∧ u.htc.source = .idle
      ∧ u.alc = { s.alc with occ := Vector.replicate 13 none }
      ∧ u.lrx = { s.lrx with line := match s.lrx.line with
          | .accepted _ _ _ _ slot =>
            if slot = true ∨ slotsInUse s + 1 < 4 then .refused .unknownSegment else .dropped
          | x => x }
      ∧ u.ltx = s.ltx ∧ u.line = s.line ∧ u.pfs.check = none

/-! ### The paper path -/

/-- ENCODER_EDGE. A change of both levels, and no change, moves nothing but the levels. An edge in the reverse order
lowers P by one, but not below 0, and moves nothing else; one in the forward order raises P by one, but not above
2^48 − 1, and P_high with it. The forward order 00, 10, 11, 01 is read from "A leads B" (notes/assumptions/3.md). At a
forward edge the newest live record newer than the tension source that has come to qualify is the source, and while
none has and the source does not retire, a running taper's progress goes up to P, clamped into the taper's span, and
never down; at the span's end the taper is over. What the edge does to the heat target is in SpeedKept. -/
def Obligations.EncoderEdge : Prop :=
  ∀ (s : State) (a b : Bool), Quiet s →
    ((a = s.mou.encA ↔ b = s.mou.encB) →
      exec (.encoderEdge a b) s = .next (s.setMou { s.mou with encA := a, encB := b }))
    ∧ ((s.mou.encA, s.mou.encB, a, b) ∈ [(false, false, false, true), (false, true, true, true),
          (true, true, true, false), (true, false, false, false)] →
        exec (.encoderEdge a b) s = .next (s.setMou { s.mou with p := s.mou.p - 1, encA := a, encB := b }))
    ∧ ((s.mou.encA, s.mou.encB, a, b) ∈ [(false, false, true, false), (true, false, true, true),
          (true, true, false, true), (false, true, false, false)] →
      (s.mou.p < 281474976710655 → ∃ t, exec (.encoderEdge a b) s = .next t ∧ t.mou.p = s.mou.p + 1
          ∧ t.mou.encA = a ∧ t.mou.encB = b ∧ t.mou.pLast = s.mou.pLast ∧ t.mou.speed = s.mou.speed
          ∧ t.mou.requested = s.mou.requested ∧ t.htc.pHigh = max s.htc.pHigh (s.mou.p + 1)
          ∧ t.htc.zones = s.htc.zones ∧ t.htc.grade = s.htc.grade ∧ t.tnc.zones = s.tnc.zones ∧ t.line = s.line
          ∧ t.alc.config = s.alc.config ∧ t.alc.threshold = s.alc.threshold
          ∧ t.tnc.intake = s.tnc.intake ∧ t.tnc.group = s.tnc.group
          ∧ ∀ newer : List Segment,
            newer = (match s.tnc.source with
              | some x => segsAfter x s.rls
              | none => s.rls) →
            (∀ pre r post, newer = pre ++ r :: post → r.live = true →
              r.start + s.line.nipDist ≤ s.mou.p + 1 + s.tnc.group.taperLen → (∀ x ∈ s.rls, x.tag = r.tag → x = r) →
              s.mou.p + 1 < retirePosition s.line r →
              (∀ x ∈ post, x.live = true → s.mou.p + 1 + s.tnc.group.taperLen < x.start + s.line.nipDist) →
              t.tnc.source = some r.tag ∧ t.tnc.tension = some r.fabric)
            ∧ ((∀ x ∈ newer, x.live = true → s.mou.p + 1 + s.tnc.group.taperLen < x.start + s.line.nipDist) →
              (∀ x ∈ s.rls, s.tnc.source = some x.tag → s.mou.p + 1 < retirePosition s.line x) →
              t.tnc.source = s.tnc.source ∧ t.tnc.tension = s.tnc.tension
                ∧ (s.tnc.taper = none → t.tnc.taper = none)
                ∧ ∀ (x : Taper) (q : Int), s.tnc.taper = some x →
                  q = max x.q (max x.t0 (min ((s.mou.p : Int) + 1) (x.t0 + x.length))) →
                  t.tnc.taper = (if q = x.t0 + x.length then none else some { x with q := q })))
      ∧ (281474976710655 ≤ s.mou.p →
          exec (.encoderEdge a b) s = .next (s.setMou { s.mou with encA := a, encB := b })))

/-- At a forward edge every enabled bar handles every line that has become due: afterwards the line at its cursor, if it
has one, is due above P. A bar that was not due keeps its cursor, and its port is empty. Where one bar handles one line:
ACTIVE, its port receives the line of the READY entry at its read point, through its channel, or a blank of the record's
width; FAULTED, none, and the record is BAR_MISSED; its cursor moves on. The record goes to PRINTING at bar 1's line 0, to
PRINTED when the last enabled bar joins its printed-by set. Bar 1 at an incomplete line of the filling segment declares
it lost: entry released, cursor past it or record SEALED, count and flag, LINE_LOST, and a LINE frame arriving for it
refused LATE. Head entries that are VOID, or READY and passed by every enabled bar, are freed. -/
def Obligations.BarsHandleAllDue : Prop :=
  (∀ (s t : State) (a b : Bool), Quiet s → RunListOrdered s → (∀ r ∈ s.rls, 1 ≤ r.lines) →
    exec (.encoderEdge a b) s = .next t → t.mou.p = s.mou.p + 1 →
    ∀ k : Bar, (∀ tag n r, t.bars[k].state ≠ .off → t.bars[k].cursor = some (tag, n) → findSeg tag t.rls = some r →
        t.mou.p < duePosition t.line r k n)
      ∧ (∀ tag n r, s.bars[k].cursor = some (tag, n) → findSeg tag s.rls = some r →
          t.mou.p < duePosition s.line r k n → t.bars[k].cursor = s.bars[k].cursor ∧ t.bars[k].port = [])
      ∧ t.bars[k].state = s.bars[k].state ∧ t.bars[k].fault = s.bars[k].fault)
    ∧ ∀ (s t : State) (a b : Bool) (k : Bar) (r : Segment) (n : Nat) (l : List Entry) (began : PrintState)
      (printedBy : Vector Bool 6), Quiet s → RunListOrdered s → OneLineDue s k r n (s.mou.p + 1) →
      s.mou.p + 1 < retirePosition s.line r → exec (.encoderEdge a b) s = .next t → t.mou.p = s.mou.p + 1 →
      l = (if LineLost s k r n then releaseFilling r.tag n s.lst else s.lst) →
      began = (if k = 0 ∧ n = 0 ∧ r.print = .waiting then .printing else r.print) →
      printedBy = (if n + 1 = r.lines then r.printedBy.set k true else r.printedBy) →
      (∀ j : Bar, j ≠ k → t.bars[j] = { s.bars[j] with port := [] })
      ∧ t.bars[k] = { s.bars[k] with cursor := cursorAfter s.rls r n, port := t.bars[k].port }
      ∧ (s.bars[k].state = .faulted → t.bars[k].port = [])
      ∧ (s.bars[k].state = .active →
        (∀ pre e post, l = pre ++ e :: post →
          (∀ x ∈ pre, x.state = .void ∨ linePassed s.rls (some (r.tag, n)) x.tag x.line = true) →
          e.state ≠ .void → linePassed s.rls (some (r.tag, n)) e.tag e.line = false →
          t.bars[k].port = [if e.state = .ready ∧ e.tag = r.tag ∧ e.line = n then
              e.written.map (fun d => d[s.line.channels[k]]) else List.replicate r.width 0])
        ∧ ((∀ x ∈ l, x.state = .void ∨ linePassed s.rls (some (r.tag, n)) x.tag x.line = true) →
          t.bars[k].port = [List.replicate r.width 0]))
      ∧ t.lst = l.dropWhile (fun e => decide (e.state = .void ∨ e.state = .ready
          ∧ ∀ j : Bar, t.bars[j].state = .off ∨ linePassed s.rls t.bars[j].cursor e.tag e.line = true))
      ∧ (∃ r' ∈ t.rls, r'.tag = r.tag ∧ r'.printedBy = printedBy
        ∧ r'.print = (if n + 1 = r.lines ∧ began = .printing
            ∧ (∀ j : Bar, s.bars[j].state = .off ∨ printedBy[j] = true) then .printed else began)
        ∧ r'.flags.barMissed = (r.flags.barMissed || decide (s.bars[k].state = .faulted))
        ∧ r'.flags.lostLines = (r.flags.lostLines || decide (LineLost s k r n))
        ∧ r'.lost = (if LineLost s k r n then min 65535 (r.lost + 1) else r.lost)
        ∧ r'.fill = (if LineLost s k r n ∧ r.lines ≤ n + 1 then .sealed else r.fill))
      ∧ (∀ x ∈ s.rls, x.tag ≠ r.tag → ∃ x' ∈ t.rls, x'.tag = x.tag ∧ x'.printedBy = x.printedBy ∧ x'.lost = x.lost
          ∧ x'.fill = x.fill ∧ x'.flags.lostLines = x.flags.lostLines)
      ∧ (¬LineLost s k r n → t.cpa = s.cpa ∧ t.lrx.line = s.lrx.line ∧ t.alc = s.alc)
      ∧ (LineLost s k r n →
        t.cpa = (if n + 1 < r.lines then some { tag := r.tag, line := n + 1, pixel := 0 }
          else cursorAtOldestFilling (modSeg r.tag (fun x => { x with fill := .sealed }) s.rls))
        ∧ ∀ ctx : Context,
          ctx = { seg := some r.tag, unit := some (.bar 0), link := none, p := s.mou.p + 1, measured := n } →
          ((∀ line offset count slot, s.lrx.line ≠ .accepted r.tag line offset count slot) →
            t.lrx.line = s.lrx.line ∧ t.alc = (settle (raiseOcc .lineLost ctx s)).alc)
          ∧ ∀ line offset count slot, s.lrx.line = .accepted r.tag line offset count slot →
            t.lrx.line = overtaken slot (slotsInUse s) .late
            ∧ (t.lrx.line ≠ .dropped → t.alc = (settle (raiseOcc .lineLost ctx s)).alc)
            ∧ (t.lrx.line = .dropped → t.alc = (settle (raiseOcc .lineLost ctx (raiseOcc .linkError
                { seg := none, unit := none,
                  link := some { subcode := .answerOverrun, kind := rxKind s.lrx, tag := rxTag s.lrx },
                  p := s.mou.p + 1, measured := 0 } s))).alc))

/-- At a forward edge every record takes its calender transitions at the new P: from APPROACH to IN_ARC at its lead, with
a dwell counter of 0 unless DWELL_SHORT is set, and from IN_ARC to RETIRED at its retire position, PRINTED and without a
dwell counter. -/
def Obligations.CalenderTransitions : Prop :=
  ∀ (s t : State) (a b : Bool), Quiet s → (s.rls.map Segment.tag).Nodup → exec (.encoderEdge a b) s = .next t →
    t.mou.p = s.mou.p + 1 →
    ∀ r ∈ s.rls, ∃ r' ∈ t.rls, r'.tag = r.tag
      ∧ (r.calender = .approach → t.mou.p < leadPosition s.line r → r'.calender = .approach ∧ r'.dwell = r.dwell)
      ∧ (r.calender = .approach → leadPosition s.line r ≤ t.mou.p → t.mou.p < retirePosition s.line r →
          r'.calender = .inArc ∧ r'.dwell = (if r.flags.dwellShort then none else some 0))
      ∧ (r.calender = .inArc → t.mou.p < retirePosition s.line r → r'.calender = .inArc ∧ r'.dwell = r.dwell)
      ∧ (r.calender = .inArc ∨ r.calender = .approach ∧ leadPosition s.line r ≤ t.mou.p →
          retirePosition s.line r ≤ t.mou.p → r'.calender = .retired ∧ r'.print = .printed ∧ r'.dwell = none)
      ∧ (r.calender = .retired → r'.calender = .retired)

/-- LINE_SAMPLE: the measured speed is the net motion since the last sample, and P_last takes P. Without dwell counters,
in RUN the reference goes up by at most accel toward the target, or down to it; in STOPPING it goes down by at most
accel, and at reference 0 and speed 0 the stop is complete: STANDBY or HALTED by the stop cause. A dwell counter rises
while the speed exceeds the record's cap, falls to 0 otherwise, and at 3 is discarded with DWELL_SHORT set. -/
def Obligations.LineSample : Prop :=
  ∀ (s : State) (v : Nat), Quiet s →
    v = min 65535 (((s.mou.p - s.mou.pLast) + (s.mou.pLast - s.mou.p)) * 20000 / s.line.countsPerM) →
    (∃ t, exec .lineSample s = .next t ∧ t.mou.speed = v ∧ t.mou.pLast = s.mou.p ∧ t.mou.p = s.mou.p
      ∧ t.mou.requested = s.mou.requested ∧ t.lst = s.lst ∧ t.cpa = s.cpa ∧ t.bars = s.bars ∧ t.pfs = s.pfs
      ∧ t.tnc = s.tnc ∧ t.line = s.line ∧ t.htc.zones = s.htc.zones ∧ t.htc.grade = s.htc.grade
      ∧ ((s.rls.map Segment.tag).Nodup → ∀ r ∈ s.rls, ∃ r' ∈ t.rls, r'.tag = r.tag ∧ r'.calender = r.calender
          ∧ (r.dwell = none → r'.dwell = none ∧ r'.flags.dwellShort = r.flags.dwellShort)
          ∧ (∀ c, r.dwell = some c → v ≤ dwellCap s.line r →
              r'.dwell = some 0 ∧ r'.flags.dwellShort = r.flags.dwellShort)
          ∧ (∀ c, r.dwell = some c → dwellCap s.line r < v → c < 2 →
              r'.dwell = some (c + 1) ∧ r'.flags.dwellShort = r.flags.dwellShort)
          ∧ (∀ c, r.dwell = some c → dwellCap s.line r < v → 2 ≤ c →
              r'.dwell = none ∧ r'.flags.dwellShort = true)))
    ∧ ((∀ r ∈ s.rls, r.dwell = none) →
      (s.mou.mode = .run → exec .lineSample s = .next (s.setMou { s.mou with
          speed := v, pLast := s.mou.p, target := speedTarget s,
          reference := min (s.mou.reference + s.line.accel) (speedTarget s) }))
      ∧ (s.mou.mode = .stopping → s.line.accel < s.mou.reference ∨ v ≠ 0 →
        exec .lineSample s = .next (s.setMou { s.mou with
          speed := v, pLast := s.mou.p, target := 0, reference := s.mou.reference - s.line.accel }))
      ∧ (s.mou.mode = .stopping → s.mou.reference ≤ s.line.accel → v = 0 →
        ∃ t, exec .lineSample s = .next t
          ∧ t.mou = { s.mou with
              speed := 0, pLast := s.mou.p, target := 0, reference := 0, nipClosed := false,
              mode := if s.mou.cause = .directive then .standby else .halted }
          ∧ t.lrx = { s.lrx with timer := none } ∧ t.alc = s.alc ∧ t.rls = s.rls))

/-- DRIVE_FAULT_INPUT and BAR_FAULT_INPUT. A level that is no change has no effect. On assertion of the drive fault,
DRIVE_FAULT begins with P and the measured speed, and with nothing pending and no level-3 entry it is pushed and STOP is
in force: RUN and WARMUP go to STOPPING with stop cause REACTION. On release it ends. An ACTIVE bar whose fault input is
asserted is FAULTED, and BAR_FAULT begins with that bar and P if no bar was FAULTED; no other change of a bar's input
changes its state. -/
def Obligations.FaultInputs : Prop :=
  (∀ s : State, Quiet s →
    (∀ x, s.mou.driveFault = x → exec (.driveFaultInput x) s = .next s)
    ∧ (s.mou.driveFault = true → exec (.driveFaultInput false) s
        = .next ((s.setMou { s.mou with driveFault := false }).setAlc { s.alc with
            holds := s.alc.holds.set AlertSource.driveFault.index false }))
    ∧ (s.mou.driveFault = false → ∃ t, exec (.driveFaultInput true) s = .next t ∧ t.mou.driveFault = true
        ∧ t.alc.holds[AlertSource.driveFault.index] = true
        ∧ t.alc.condCtx[AlertSource.driveFault.index] = some
            { seg := none, unit := none, link := none, p := s.mou.p, measured := s.mou.speed }
        ∧ t.mou.p = s.mou.p ∧ t.lst = s.lst ∧ t.cpa = s.cpa ∧ t.pfs = s.pfs ∧ t.bars = s.bars ∧ t.tnc = s.tnc
        ∧ t.line = s.line
        ∧ ((∀ src, sourcePending s.alc src = false) → (∀ e ∈ s.alc.stack, e.level < 3 ∧ e.source ≠ .driveFault) →
            s.alc.config[AlertSource.driveFault.index] = { level := some 3, grade := .stop, mode := .latched } →
            s.alc.reaction ≠ .stop →
            t.alc.stack = {
                source := .driveFault, level := 3, grade := .stop, merge := 1,
                ctx := { seg := none, unit := none, link := none, p := s.mou.p, measured := s.mou.speed } }
              :: s.alc.stack
            ∧ t.alc.reaction = .stop
            ∧ t.mou.mode = (if s.mou.mode = .run ∨ s.mou.mode = .warmup then .stopping else s.mou.mode)
            ∧ (s.mou.mode = .run ∨ s.mou.mode = .warmup ∨ s.mou.mode = .stopping → t.mou.cause = .reaction)
            ∧ t.htc.target = s.htc.group.standby)))
    ∧ ∀ (s : State) (k : Bar), Quiet s →
      (∀ x, (s.bars[k].state ≠ .active ∨ x = false) → exec (.barFaultInput k x) s
        = .next (s.setBars (s.bars.set k { s.bars[k] with fault := x })))
      ∧ (s.bars[k].state = .active → (∃ j : Bar, s.bars[j].state = .faulted) → exec (.barFaultInput k true) s
        = .next (s.setBars (s.bars.set k { s.bars[k] with fault := true, state := .faulted })))
      ∧ (s.bars[k].state = .active → (∀ j : Bar, s.bars[j].state ≠ .faulted) →
        ∃ t, exec (.barFaultInput k true) s = .next t
          ∧ t.bars = s.bars.set k { s.bars[k] with fault := true, state := .faulted }
          ∧ t.alc.holds[AlertSource.barFault.index] = true
          ∧ t.alc.condCtx[AlertSource.barFault.index] = some
              { seg := none, unit := some (.bar k), link := none, p := s.mou.p, measured := 0 }
          ∧ t.mou.p = s.mou.p ∧ t.lst = s.lst ∧ t.cpa = s.cpa ∧ t.pfs = s.pfs ∧ t.tnc = s.tnc ∧ t.line = s.line)

/-- TENSION_READING and TENSION_MISSING_TIMEOUT. A reading of a zone that is not idle forms the target, integrates the
error unless the last output stood at that limit, and drives the output; a reading of an idle zone is only recorded;
either restarts the missing timer and clears the missing flag. The window and break counters count readings in a row on
one side and turn their flags over. An expiry sets the missing flag, clears both counters and holds the rest; a timer
that has expired does not expire again. No other zone is touched. -/
def Obligations.TensionReadings : Prop :=
  ∀ (s : State) (z : TensionZone) (i : Fin 3), Quiet s → i = tensionIndex z →
    (∀ reading : Nat, ∃ t, exec (.tensionReading z reading) s = .next t
      ∧ t.tnc = { s.tnc with zones := t.tnc.zones }
      ∧ (∀ j : Fin 3, j ≠ i → t.tnc.zones[j] = s.tnc.zones[j])
      ∧ t.tnc.zones[i].last = reading ∧ t.tnc.zones[i].timer = some 50 ∧ t.tnc.zones[i].missing = false
      ∧ (zoneIdle s.tnc z = true →
          t.tnc.zones[i] = { s.tnc.zones[i] with last := reading, timer := some 50, missing := false })
      ∧ (∀ (x y : TensionRec) (target e : Int), x = s.tnc.zones[i] → y = t.tnc.zones[i] → zoneIdle s.tnc z = false →
          target = (if s.mou.mode = .run ∨ s.mou.mode = .stopping then baseTarget s.tnc z
            else baseTarget s.tnc z * s.tnc.group.standstill / 100) → e = target - reading →
          y.target = target
          ∧ y.integ = max (-256000) (min 256000
              (if (x.output = 1000 ∧ 0 < e) ∨ (x.output = -1000 ∧ e < 0) then x.integ
              else x.integ + s.tnc.group.ki[i] * e))
          ∧ y.output = max (-1000) (min 1000 ((s.tnc.group.kp[i] * e).tdiv 16 + y.integ.tdiv 256))
          ∧ (y.windowFlag, y.windowCounter) =
              (if (s.tnc.group.window < |e|) ↔ x.windowFlag = true then (x.windowFlag, 0)
              else if s.tnc.group.windowCount ≤ x.windowCounter + 1 then (!x.windowFlag, 0)
              else (x.windowFlag, x.windowCounter + 1))
          ∧ (y.breakFlag, y.breakCounter) =
              (if (reading < s.tnc.group.breakThreshold ∧ (x.breakFlag = true ∨ 0 < s.mou.speed)) ↔
                  x.breakFlag = true then (x.breakFlag, 0)
              else if 2 ≤ x.breakCounter then (!x.breakFlag, 0)
              else (x.breakFlag, x.breakCounter + 1)))
      ∧ t.mou.p = s.mou.p ∧ t.lst = s.lst ∧ t.cpa = s.cpa ∧ t.pfs = s.pfs ∧ t.bars = s.bars ∧ t.line = s.line
      ∧ t.htc.zones = s.htc.zones ∧ t.alc.config = s.alc.config)
    ∧ (s.tnc.zones[i].timer ≠ none → ∃ t, exec (.tensionMissingTimeout z) s = .next t
      ∧ t.tnc = { s.tnc with zones := s.tnc.zones.set i { s.tnc.zones[i] with
          timer := none, missing := true, windowCounter := 0, breakCounter := 0 } }
      ∧ t.mou.p = s.mou.p ∧ t.lst = s.lst ∧ t.cpa = s.cpa ∧ t.pfs = s.pfs ∧ t.bars = s.bars ∧ t.line = s.line
      ∧ t.htc.zones = s.htc.zones ∧ t.alc.config = s.alc.config)
    ∧ (s.tnc.zones[i].timer = none → exec (.tensionMissingTimeout z) s = .next s)

/-- HEAT_SAMPLE and HEAT_SAMPLE_TIMEOUT. A zone with a reading records it, starts or moves its setpoint, judges its
over-temperature flag, and runs its loop, or drives 0 with the integrator held while the flag is set; a zone with an
absent entry counts it, and at the fourth in a row is missing with output 0. An expiry of the sample timer is a set with
every entry absent. A reading counts saturation, at full output below the band, and recovery, at or below the limit, or
clears the count; an absent entry keeps both, and clears them as the zone becomes missing; so the counts stand at the
grade test. Each record in the arc with a zone missing or out of its tolerance is flagged OFF_BAND, and HEAT_OFF_BAND
holds exactly while there is one, beginning with the oldest such record and its lowest such zone. -/
def Obligations.HeatSample : Prop :=
  (∀ s : State, exec .heatSampleTimeout s = exec (.heatSample none none none none) s)
    ∧ (∀ (g h : Htc) (z0 z1 z2 z3 : Option Int), h = heatZoneSteps #v[z0, z1, z2, z3] g →
      h = { g with zones := h.zones }
      ∧ ∀ (i : Fin 4) (x y : HeatZone), x = g.zones[i] → y = h.zones[i] →
        (∀ m, #v[z0, z1, z2, z3][i] = some m →
          y.sat = (if y.output = 1000 ∧ m < y.setpoint - g.band then min 240 (x.sat + 1) else 0)
          ∧ y.recov = (if y.output ≤ g.group.recoverLimit then
              (if x.recov < g.group.recoverCount then x.recov + 1 else x.recov) else 0))
        ∧ (#v[z0, z1, z2, z3][i] = none →
          (x.missCount < 3 ∨ x.missing = true → y.sat = x.sat ∧ y.recov = x.recov)
          ∧ (3 ≤ x.missCount → x.missing = false → y.sat = 0 ∧ y.recov = 0)))
    ∧ ∀ (s : State) (z0 z1 z2 z3 : Option Int), Quiet s →
    ∃ t, exec (.heatSample z0 z1 z2 z3) s = .next t
      ∧ (∀ i : Fin 4, t.htc.zones[i] = { (heatZoneSteps #v[z0, z1, z2, z3] s.htc).zones[i] with
          sat := t.htc.zones[i].sat, recov := t.htc.zones[i].recov })
      ∧ t.rls.map (fun r => (r.tag, r.calender, r.flags.offBand))
          = s.rls.map (fun r => (r.tag, r.calender, r.flags.offBand || decide (OffBand t.htc r)))
      ∧ (t.alc.holds[AlertSource.heatOffBand.index] = true ↔ ∃ r ∈ s.rls, OffBand t.htc r)
      ∧ (∀ (pre post : List Segment) (r : Segment) (i : Fin 4), s.alc.holds[AlertSource.heatOffBand.index] = false →
          s.rls = pre ++ r :: post → (∀ x ∈ pre, ¬OffBand t.htc x) → r.calender = .inArc → ZoneOut t.htc r i →
          (∀ j : Fin 4, j < i → ¬ZoneOut t.htc r j) →
          t.alc.condCtx[AlertSource.heatOffBand.index] = some
            { seg := some r.tag, unit := some (.heatZone i), link := none, p := s.mou.p,
              measured := t.htc.zones[i].measured })
      ∧ t.htc.group = s.htc.group ∧ t.htc.pHigh = s.htc.pHigh ∧ t.mou.p = s.mou.p ∧ t.lst = s.lst ∧ t.cpa = s.cpa
      ∧ t.pfs = s.pfs ∧ t.bars = s.bars ∧ t.tnc = s.tnc ∧ t.line = s.line
      ∧ ∀ (i : Fin 4) (x y : HeatZone), x = s.htc.zones[i] → y = t.htc.zones[i] →
        (∀ m, #v[z0, z1, z2, z3][i] = some m →
          y.measured = m ∧ y.missCount = 0 ∧ y.missing = false ∧ y.first = true
          ∧ y.setpoint = (if x.first = true then
              moveToward x.setpoint (s.htc.target + s.htc.group.trim[i]) s.htc.group.ramp else m)
          ∧ y.overTemp = (if x.overTemp = true then decide (s.htc.group.overLimit - 50 < m)
              else decide (s.htc.group.overLimit < m))
          ∧ (y.overTemp = true → y.output = 0 ∧ y.integ = x.integ)
          ∧ (y.overTemp = false →
              y.integ = max 0 (min 256000
                (if (x.output = 1000 ∧ 0 < y.setpoint - m) ∨ (x.output = 0 ∧ y.setpoint - m < 0) then x.integ
                else x.integ + s.htc.group.ki[i] * (y.setpoint - m)))
              ∧ y.output = max 0 (min 1000 ((s.htc.group.kp[i] * (y.setpoint - m)).tdiv 16 + y.integ / 256))))
        ∧ (#v[z0, z1, z2, z3][i] = none →
          y.measured = x.measured ∧ y.setpoint = x.setpoint ∧ y.integ = x.integ ∧ y.overTemp = x.overTemp
          ∧ y.first = x.first
          ∧ (x.missCount < 3 → y.missCount = x.missCount + 1 ∧ y.missing = x.missing ∧ y.output = x.output)
          ∧ (3 ≤ x.missCount → y.missCount = 4 ∧ y.missing = true
              ∧ y.output = (if x.missing = true then x.output else 0)))

/-- A heat sample ends with the warm-up test and the grade test, on the zones as the zone steps leave them. In WARMUP the
line enters RUN when all four zones are in band, unless STOP has come into force in the event. A saturation counter at
the derate count raises the grade by one, to 3 at most, and all recover counters at the recover count lower it by one,
to 0 at least; the counters are cleared as the grade changes. -/
def Obligations.WarmupAndGrade : Prop :=
  ∀ (s : State) (z0 z1 z2 z3 : Option Int) (h : Htc), Quiet s → h = heatZoneSteps #v[z0, z1, z2, z3] s.htc →
    ∃ t, exec (.heatSample z0 z1 z2 z3) s = .next t
      ∧ (s.mou.mode = .warmup → (∀ i : Fin 4, h.zones[i].missing = false
            ∧ |h.zones[i].measured - (h.target + h.group.trim[i])| ≤ h.band) →
          t.mou.mode = .run ∨ (t.mou.mode = .stopping ∧ t.alc.reaction = .stop))
      ∧ (s.mou.mode = .warmup → (∃ i : Fin 4, h.zones[i].missing = true
            ∨ (h.band : Int) < |h.zones[i].measured - (h.target + h.group.trim[i])|) →
          t.mou.mode = .warmup ∨ (t.mou.mode = .stopping ∧ t.alc.reaction = .stop))
      ∧ (s.mou.mode ≠ .warmup → s.mou.mode ≠ .run → t.mou.mode = s.mou.mode)
      ∧ ((∃ i : Fin 4, h.group.derateCount ≤ h.zones[i].sat) →
          t.htc.grade = (if h.grade < 3 then h.grade + 1 else h.grade)
          ∧ ∀ i : Fin 4, t.htc.zones[i].sat = 0
            ∧ t.htc.zones[i].recov = (if h.grade < 3 then 0 else h.zones[i].recov))
      ∧ ((∀ i : Fin 4, h.zones[i].sat < h.group.derateCount) →
          (∀ i : Fin 4, h.group.recoverCount ≤ h.zones[i].recov) →
          t.htc.grade = h.grade - 1 ∧ ∀ i : Fin 4, t.htc.zones[i].sat = h.zones[i].sat
            ∧ t.htc.zones[i].recov = (if 0 < h.grade then 0 else h.zones[i].recov))
      ∧ ((∀ i : Fin 4, h.zones[i].sat < h.group.derateCount) →
          (∃ i : Fin 4, h.zones[i].recov < h.group.recoverCount) →
          t.htc.grade = h.grade ∧ ∀ i : Fin 4, t.htc.zones[i] = h.zones[i])

/-- HARDWARE_RESET. With no fault input asserted it leaves the reset state, with the encoder levels as they stand. A drive
fault asserted at the reset puts STOP in force from the start: its entry is on the stack, the first alert names it, its
notice is being sent, and the line is in STANDBY. A bar whose fault input is asserted starts FAULTED. -/
def Obligations.HardwareReset : Prop :=
  ∀ s : State,
    (s.mou.driveFault = false → (∀ k : Bar, s.bars[k].fault = false) →
      exec .hardwareReset s = .next { State.reset with
        mou := { State.reset.mou with encA := s.mou.encA, encB := s.mou.encB }
        choices := s.choices
        pending := s.pending })
    ∧ (s.mou.driveFault = true → (∀ k : Bar, s.bars[k].fault = false) →
      ∃ t, exec .hardwareReset s = .next t
        ∧ t.alc.stack = [{
            source := .driveFault, level := 3, grade := .stop, merge := 1,
            ctx := { seg := none, unit := none, link := none, p := 0, measured := 0 } }]
        ∧ t.alc.firstAlert = some (.driveFault, { seg := none, unit := none, link := none, p := 0, measured := 0 })
        ∧ t.alc.reaction = .stop ∧ t.mou.mode = .standby ∧ t.htc.target = 800 ∧ t.htc.source = .standby
        ∧ ∃ bytes, t.ltx.tx = .sending .notice bytes)
    ∧ ∃ t, exec .hardwareReset s = .next t
      ∧ (∀ k : Bar, t.bars[k] =
          { state := if s.bars[k].fault = true then .faulted else .active, cursor := none, fault := s.bars[k].fault,
            port := [] })
      ∧ (t.alc.holds[AlertSource.driveFault.index] = true ↔ s.mou.driveFault = true)
      ∧ (t.alc.holds[AlertSource.barFault.index] = true ↔ ∃ k : Bar, s.bars[k].fault = true)
      ∧ t.rls = [] ∧ t.lst = [] ∧ t.cpa = none ∧ t.line = State.reset.line ∧ t.pfs = State.reset.pfs
      ∧ t.tnc = State.reset.tnc ∧ t.lrx = State.reset.lrx ∧ t.mou.p = 0 ∧ t.mou.mode = .standby
      ∧ t.alc.config = State.reset.alc.config ∧ t.alc.threshold = 0

/-! ### The colour path and the arbiter -/

/-- The ink limit: a sum S above the limit L scales each amount to the truncation of its exact share; a sum at or below
it changes nothing. The amounts then sum to at most L, and after scaling to more than L − 6, and no amount has grown. A
limit of 24,576 scales nothing. The limit that a pixel's conversion reads, between stages 2 and 4, is the bank's, and a
stored one lies in 4,096..24,576. -/
def Obligations.InkLimit : Prop :=
  (∀ (limit : Nat) (v : Vector Nat 6), 4096 ≤ limit → limit ≤ 24576 → (∀ c : Fin 6, v[c] ≤ 4096) →
    (v.toList.sum ≤ limit → limitInk limit v = v)
    ∧ (limit < v.toList.sum → (∀ c : Fin 6, (limitInk limit v)[c] = v[c] * limit / v.toList.sum)
        ∧ limit < (limitInk limit v).toList.sum + 6)
    ∧ (limitInk limit v).toList.sum ≤ limit
    ∧ (∀ c : Fin 6, (limitInk limit v)[c] ≤ v[c] ∧ v[c] * limit ≤ 100663296)
    ∧ (limit = 24576 → limitInk limit v = v))
    ∧ ∀ b : Bank, BankClamped b →
      (∀ h, headerOf b = some h → inkLimitOf b = h.inkLimit ∧ 4096 ≤ h.inkLimit ∧ h.inkLimit ≤ 24576)
      ∧ ∀ (grade n x : Nat) (a0 a1 a2 : Byte) (c : Fin 6),
        (convertPixel b grade n x a0.toNat a1.toNat a2.toNat)[c] = dropLevel
          (yieldCurve b grade c (limitInk (inkLimitOf b) (interpolate b a0.toNat a1.toNat a2.toNat))[c])
          (threshold b n x c)

/-- Every ink amount after stages 2, 3 and 4 lies in 0..4096 and every drop level of stage 5 in 0..3, for every bank whose
stored values are clamped and every job colour. -/
def Obligations.ColourBounds : Prop :=
  ∀ b : Bank, BankClamped b →
    (∀ a0 a1 a2 : Byte, ∀ c : Fin 6, (interpolate b a0.toNat a1.toNat a2.toNat)[c] ≤ 4096
      ∧ (limitInk (inkLimitOf b) (interpolate b a0.toNat a1.toNat a2.toNat))[c] ≤ 4096)
    ∧ (∀ (grade : Nat) (c : Fin 6) (v : Nat), v ≤ 4096 → yieldCurve b grade c v ≤ 4096)
    ∧ (∀ (n x : Nat) (c : Fin 6), threshold b n x c ≤ 4094)
    ∧ (∀ y t : Nat, y ≤ 4096 → t ≤ 4094 → dropLevel y t ≤ 3 ∧ (y = 4096 → dropLevel y t = 3)
        ∧ (∀ y', y' ≤ y → dropLevel y' t ≤ dropLevel y t))
    ∧ ∀ (grade n x : Nat) (a0 a1 a2 : Byte), DropsOk (convertPixel b grade n x a0.toNat a1.toNat a2.toNat)

/-- A pending source is eligible when its level is 3 or at or above H, it is above the level of the top entry or the
stack is empty, and it has no entry of its own on the stack. A pending condition source has none. A level-3 source
without one is blocked only by a level-3 entry at the top, and a level-0 source is eligible only on an empty stack with
H at 0. -/
def Obligations.EligibleSource : Prop :=
  ∀ (a : Alc) (src : AlertSource), sourcePending a src = true →
    (eligible a src = true ↔ ∃ l : Fin 4, a.config[src.index].level = some l ∧ (l = 3 ∨ a.threshold ≤ l)
      ∧ (a.stack = [] ∨ ∃ e rest, a.stack = e :: rest ∧ e.level < l) ∧ ∀ e ∈ a.stack, e.source ≠ src)
    ∧ (src.isCondition = true → ∀ e ∈ a.stack, e.source ≠ src)
    ∧ (a.config[src.index].level = some 3 → (∀ e ∈ a.stack, e.source ≠ src) →
        (eligible a src = false ↔ ∃ e rest, a.stack = e :: rest ∧ e.level = 3))
    ∧ (a.config[src.index].level = some 0 → eligible a src = true → a.stack = [] ∧ a.threshold = 0)
end

