-- ==== Sys2Proof/Laws/State.lean ====
section
/-! SUPPORT. What each update of one block leaves in each block: one lemma for each field and each update, and for the
named changes of one block over them. -/

namespace Sys2Proof.Machine

/-! ### setLrx -/

@[simp] theorem State.setLrx_lrx (s : State) (x : Lrx) : (s.setLrx x).lrx = x := rfl
@[simp] theorem State.setLrx_cmuSlot (s : State) (x : Lrx) : (s.setLrx x).cmuSlot = s.cmuSlot := rfl
@[simp] theorem State.setLrx_ltx (s : State) (x : Lrx) : (s.setLrx x).ltx = s.ltx := rfl
@[simp] theorem State.setLrx_line (s : State) (x : Lrx) : (s.setLrx x).line = s.line := rfl
@[simp] theorem State.setLrx_pfs (s : State) (x : Lrx) : (s.setLrx x).pfs = s.pfs := rfl
@[simp] theorem State.setLrx_cpa (s : State) (x : Lrx) : (s.setLrx x).cpa = s.cpa := rfl
@[simp] theorem State.setLrx_lst (s : State) (x : Lrx) : (s.setLrx x).lst = s.lst := rfl
@[simp] theorem State.setLrx_bars (s : State) (x : Lrx) : (s.setLrx x).bars = s.bars := rfl
@[simp] theorem State.setLrx_rls (s : State) (x : Lrx) : (s.setLrx x).rls = s.rls := rfl
@[simp] theorem State.setLrx_mou (s : State) (x : Lrx) : (s.setLrx x).mou = s.mou := rfl
@[simp] theorem State.setLrx_htc (s : State) (x : Lrx) : (s.setLrx x).htc = s.htc := rfl
@[simp] theorem State.setLrx_tnc (s : State) (x : Lrx) : (s.setLrx x).tnc = s.tnc := rfl
@[simp] theorem State.setLrx_alc (s : State) (x : Lrx) : (s.setLrx x).alc = s.alc := rfl
@[simp] theorem State.setLrx_choices (s : State) (x : Lrx) : (s.setLrx x).choices = s.choices := rfl
@[simp] theorem State.setLrx_pending (s : State) (x : Lrx) : (s.setLrx x).pending = s.pending := rfl

/-! ### setCmuSlot -/

@[simp] theorem State.setCmuSlot_lrx (s : State) (x : Bool) : (s.setCmuSlot x).lrx = s.lrx := rfl
@[simp] theorem State.setCmuSlot_cmuSlot (s : State) (x : Bool) : (s.setCmuSlot x).cmuSlot = x := rfl
@[simp] theorem State.setCmuSlot_ltx (s : State) (x : Bool) : (s.setCmuSlot x).ltx = s.ltx := rfl
@[simp] theorem State.setCmuSlot_line (s : State) (x : Bool) : (s.setCmuSlot x).line = s.line := rfl
@[simp] theorem State.setCmuSlot_pfs (s : State) (x : Bool) : (s.setCmuSlot x).pfs = s.pfs := rfl
@[simp] theorem State.setCmuSlot_cpa (s : State) (x : Bool) : (s.setCmuSlot x).cpa = s.cpa := rfl
@[simp] theorem State.setCmuSlot_lst (s : State) (x : Bool) : (s.setCmuSlot x).lst = s.lst := rfl
@[simp] theorem State.setCmuSlot_bars (s : State) (x : Bool) : (s.setCmuSlot x).bars = s.bars := rfl
@[simp] theorem State.setCmuSlot_rls (s : State) (x : Bool) : (s.setCmuSlot x).rls = s.rls := rfl
@[simp] theorem State.setCmuSlot_mou (s : State) (x : Bool) : (s.setCmuSlot x).mou = s.mou := rfl
@[simp] theorem State.setCmuSlot_htc (s : State) (x : Bool) : (s.setCmuSlot x).htc = s.htc := rfl
@[simp] theorem State.setCmuSlot_tnc (s : State) (x : Bool) : (s.setCmuSlot x).tnc = s.tnc := rfl
@[simp] theorem State.setCmuSlot_alc (s : State) (x : Bool) : (s.setCmuSlot x).alc = s.alc := rfl
@[simp] theorem State.setCmuSlot_choices (s : State) (x : Bool) : (s.setCmuSlot x).choices = s.choices := rfl
@[simp] theorem State.setCmuSlot_pending (s : State) (x : Bool) : (s.setCmuSlot x).pending = s.pending := rfl

/-! ### setLtx -/

@[simp] theorem State.setLtx_lrx (s : State) (x : Ltx) : (s.setLtx x).lrx = s.lrx := rfl
@[simp] theorem State.setLtx_cmuSlot (s : State) (x : Ltx) : (s.setLtx x).cmuSlot = s.cmuSlot := rfl
@[simp] theorem State.setLtx_ltx (s : State) (x : Ltx) : (s.setLtx x).ltx = x := rfl
@[simp] theorem State.setLtx_line (s : State) (x : Ltx) : (s.setLtx x).line = s.line := rfl
@[simp] theorem State.setLtx_pfs (s : State) (x : Ltx) : (s.setLtx x).pfs = s.pfs := rfl
@[simp] theorem State.setLtx_cpa (s : State) (x : Ltx) : (s.setLtx x).cpa = s.cpa := rfl
@[simp] theorem State.setLtx_lst (s : State) (x : Ltx) : (s.setLtx x).lst = s.lst := rfl
@[simp] theorem State.setLtx_bars (s : State) (x : Ltx) : (s.setLtx x).bars = s.bars := rfl
@[simp] theorem State.setLtx_rls (s : State) (x : Ltx) : (s.setLtx x).rls = s.rls := rfl
@[simp] theorem State.setLtx_mou (s : State) (x : Ltx) : (s.setLtx x).mou = s.mou := rfl
@[simp] theorem State.setLtx_htc (s : State) (x : Ltx) : (s.setLtx x).htc = s.htc := rfl
@[simp] theorem State.setLtx_tnc (s : State) (x : Ltx) : (s.setLtx x).tnc = s.tnc := rfl
@[simp] theorem State.setLtx_alc (s : State) (x : Ltx) : (s.setLtx x).alc = s.alc := rfl
@[simp] theorem State.setLtx_choices (s : State) (x : Ltx) : (s.setLtx x).choices = s.choices := rfl
@[simp] theorem State.setLtx_pending (s : State) (x : Ltx) : (s.setLtx x).pending = s.pending := rfl

/-! ### setLine -/

@[simp] theorem State.setLine_lrx (s : State) (x : LineGroup) : (s.setLine x).lrx = s.lrx := rfl
@[simp] theorem State.setLine_cmuSlot (s : State) (x : LineGroup) : (s.setLine x).cmuSlot = s.cmuSlot := rfl
@[simp] theorem State.setLine_ltx (s : State) (x : LineGroup) : (s.setLine x).ltx = s.ltx := rfl
@[simp] theorem State.setLine_line (s : State) (x : LineGroup) : (s.setLine x).line = x := rfl
@[simp] theorem State.setLine_pfs (s : State) (x : LineGroup) : (s.setLine x).pfs = s.pfs := rfl
@[simp] theorem State.setLine_cpa (s : State) (x : LineGroup) : (s.setLine x).cpa = s.cpa := rfl
@[simp] theorem State.setLine_lst (s : State) (x : LineGroup) : (s.setLine x).lst = s.lst := rfl
@[simp] theorem State.setLine_bars (s : State) (x : LineGroup) : (s.setLine x).bars = s.bars := rfl
@[simp] theorem State.setLine_rls (s : State) (x : LineGroup) : (s.setLine x).rls = s.rls := rfl
@[simp] theorem State.setLine_mou (s : State) (x : LineGroup) : (s.setLine x).mou = s.mou := rfl
@[simp] theorem State.setLine_htc (s : State) (x : LineGroup) : (s.setLine x).htc = s.htc := rfl
@[simp] theorem State.setLine_tnc (s : State) (x : LineGroup) : (s.setLine x).tnc = s.tnc := rfl
@[simp] theorem State.setLine_alc (s : State) (x : LineGroup) : (s.setLine x).alc = s.alc := rfl
@[simp] theorem State.setLine_choices (s : State) (x : LineGroup) : (s.setLine x).choices = s.choices := rfl
@[simp] theorem State.setLine_pending (s : State) (x : LineGroup) : (s.setLine x).pending = s.pending := rfl

/-! ### setPfs -/

@[simp] theorem State.setPfs_lrx (s : State) (x : Pfs) : (s.setPfs x).lrx = s.lrx := rfl
@[simp] theorem State.setPfs_cmuSlot (s : State) (x : Pfs) : (s.setPfs x).cmuSlot = s.cmuSlot := rfl
@[simp] theorem State.setPfs_ltx (s : State) (x : Pfs) : (s.setPfs x).ltx = s.ltx := rfl
@[simp] theorem State.setPfs_line (s : State) (x : Pfs) : (s.setPfs x).line = s.line := rfl
@[simp] theorem State.setPfs_pfs (s : State) (x : Pfs) : (s.setPfs x).pfs = x := rfl
@[simp] theorem State.setPfs_cpa (s : State) (x : Pfs) : (s.setPfs x).cpa = s.cpa := rfl
@[simp] theorem State.setPfs_lst (s : State) (x : Pfs) : (s.setPfs x).lst = s.lst := rfl
@[simp] theorem State.setPfs_bars (s : State) (x : Pfs) : (s.setPfs x).bars = s.bars := rfl
@[simp] theorem State.setPfs_rls (s : State) (x : Pfs) : (s.setPfs x).rls = s.rls := rfl
@[simp] theorem State.setPfs_mou (s : State) (x : Pfs) : (s.setPfs x).mou = s.mou := rfl
@[simp] theorem State.setPfs_htc (s : State) (x : Pfs) : (s.setPfs x).htc = s.htc := rfl
@[simp] theorem State.setPfs_tnc (s : State) (x : Pfs) : (s.setPfs x).tnc = s.tnc := rfl
@[simp] theorem State.setPfs_alc (s : State) (x : Pfs) : (s.setPfs x).alc = s.alc := rfl
@[simp] theorem State.setPfs_choices (s : State) (x : Pfs) : (s.setPfs x).choices = s.choices := rfl
@[simp] theorem State.setPfs_pending (s : State) (x : Pfs) : (s.setPfs x).pending = s.pending := rfl

/-! ### setCpa -/

@[simp] theorem State.setCpa_lrx (s : State) (x : Option FillCursor) : (s.setCpa x).lrx = s.lrx := rfl
@[simp] theorem State.setCpa_cmuSlot (s : State) (x : Option FillCursor) : (s.setCpa x).cmuSlot = s.cmuSlot := rfl
@[simp] theorem State.setCpa_ltx (s : State) (x : Option FillCursor) : (s.setCpa x).ltx = s.ltx := rfl
@[simp] theorem State.setCpa_line (s : State) (x : Option FillCursor) : (s.setCpa x).line = s.line := rfl
@[simp] theorem State.setCpa_pfs (s : State) (x : Option FillCursor) : (s.setCpa x).pfs = s.pfs := rfl
@[simp] theorem State.setCpa_cpa (s : State) (x : Option FillCursor) : (s.setCpa x).cpa = x := rfl
@[simp] theorem State.setCpa_lst (s : State) (x : Option FillCursor) : (s.setCpa x).lst = s.lst := rfl
@[simp] theorem State.setCpa_bars (s : State) (x : Option FillCursor) : (s.setCpa x).bars = s.bars := rfl
@[simp] theorem State.setCpa_rls (s : State) (x : Option FillCursor) : (s.setCpa x).rls = s.rls := rfl
@[simp] theorem State.setCpa_mou (s : State) (x : Option FillCursor) : (s.setCpa x).mou = s.mou := rfl
@[simp] theorem State.setCpa_htc (s : State) (x : Option FillCursor) : (s.setCpa x).htc = s.htc := rfl
@[simp] theorem State.setCpa_tnc (s : State) (x : Option FillCursor) : (s.setCpa x).tnc = s.tnc := rfl
@[simp] theorem State.setCpa_alc (s : State) (x : Option FillCursor) : (s.setCpa x).alc = s.alc := rfl
@[simp] theorem State.setCpa_choices (s : State) (x : Option FillCursor) : (s.setCpa x).choices = s.choices := rfl
@[simp] theorem State.setCpa_pending (s : State) (x : Option FillCursor) : (s.setCpa x).pending = s.pending := rfl

/-! ### setLst -/

@[simp] theorem State.setLst_lrx (s : State) (x : List Entry) : (s.setLst x).lrx = s.lrx := rfl
@[simp] theorem State.setLst_cmuSlot (s : State) (x : List Entry) : (s.setLst x).cmuSlot = s.cmuSlot := rfl
@[simp] theorem State.setLst_ltx (s : State) (x : List Entry) : (s.setLst x).ltx = s.ltx := rfl
@[simp] theorem State.setLst_line (s : State) (x : List Entry) : (s.setLst x).line = s.line := rfl
@[simp] theorem State.setLst_pfs (s : State) (x : List Entry) : (s.setLst x).pfs = s.pfs := rfl
@[simp] theorem State.setLst_cpa (s : State) (x : List Entry) : (s.setLst x).cpa = s.cpa := rfl
@[simp] theorem State.setLst_lst (s : State) (x : List Entry) : (s.setLst x).lst = x := rfl
@[simp] theorem State.setLst_bars (s : State) (x : List Entry) : (s.setLst x).bars = s.bars := rfl
@[simp] theorem State.setLst_rls (s : State) (x : List Entry) : (s.setLst x).rls = s.rls := rfl
@[simp] theorem State.setLst_mou (s : State) (x : List Entry) : (s.setLst x).mou = s.mou := rfl
@[simp] theorem State.setLst_htc (s : State) (x : List Entry) : (s.setLst x).htc = s.htc := rfl
@[simp] theorem State.setLst_tnc (s : State) (x : List Entry) : (s.setLst x).tnc = s.tnc := rfl
@[simp] theorem State.setLst_alc (s : State) (x : List Entry) : (s.setLst x).alc = s.alc := rfl
@[simp] theorem State.setLst_choices (s : State) (x : List Entry) : (s.setLst x).choices = s.choices := rfl
@[simp] theorem State.setLst_pending (s : State) (x : List Entry) : (s.setLst x).pending = s.pending := rfl

/-! ### setBars -/

@[simp] theorem State.setBars_lrx (s : State) (x : Vector BarUnit 6) : (s.setBars x).lrx = s.lrx := rfl
@[simp] theorem State.setBars_cmuSlot (s : State) (x : Vector BarUnit 6) : (s.setBars x).cmuSlot = s.cmuSlot := rfl
@[simp] theorem State.setBars_ltx (s : State) (x : Vector BarUnit 6) : (s.setBars x).ltx = s.ltx := rfl
@[simp] theorem State.setBars_line (s : State) (x : Vector BarUnit 6) : (s.setBars x).line = s.line := rfl
@[simp] theorem State.setBars_pfs (s : State) (x : Vector BarUnit 6) : (s.setBars x).pfs = s.pfs := rfl
@[simp] theorem State.setBars_cpa (s : State) (x : Vector BarUnit 6) : (s.setBars x).cpa = s.cpa := rfl
@[simp] theorem State.setBars_lst (s : State) (x : Vector BarUnit 6) : (s.setBars x).lst = s.lst := rfl
@[simp] theorem State.setBars_bars (s : State) (x : Vector BarUnit 6) : (s.setBars x).bars = x := rfl
@[simp] theorem State.setBars_rls (s : State) (x : Vector BarUnit 6) : (s.setBars x).rls = s.rls := rfl
@[simp] theorem State.setBars_mou (s : State) (x : Vector BarUnit 6) : (s.setBars x).mou = s.mou := rfl
@[simp] theorem State.setBars_htc (s : State) (x : Vector BarUnit 6) : (s.setBars x).htc = s.htc := rfl
@[simp] theorem State.setBars_tnc (s : State) (x : Vector BarUnit 6) : (s.setBars x).tnc = s.tnc := rfl
@[simp] theorem State.setBars_alc (s : State) (x : Vector BarUnit 6) : (s.setBars x).alc = s.alc := rfl
@[simp] theorem State.setBars_choices (s : State) (x : Vector BarUnit 6) : (s.setBars x).choices = s.choices := rfl
@[simp] theorem State.setBars_pending (s : State) (x : Vector BarUnit 6) : (s.setBars x).pending = s.pending := rfl

/-! ### setRls -/

@[simp] theorem State.setRls_lrx (s : State) (x : List Segment) : (s.setRls x).lrx = s.lrx := rfl
@[simp] theorem State.setRls_cmuSlot (s : State) (x : List Segment) : (s.setRls x).cmuSlot = s.cmuSlot := rfl
@[simp] theorem State.setRls_ltx (s : State) (x : List Segment) : (s.setRls x).ltx = s.ltx := rfl
@[simp] theorem State.setRls_line (s : State) (x : List Segment) : (s.setRls x).line = s.line := rfl
@[simp] theorem State.setRls_pfs (s : State) (x : List Segment) : (s.setRls x).pfs = s.pfs := rfl
@[simp] theorem State.setRls_cpa (s : State) (x : List Segment) : (s.setRls x).cpa = s.cpa := rfl
@[simp] theorem State.setRls_lst (s : State) (x : List Segment) : (s.setRls x).lst = s.lst := rfl
@[simp] theorem State.setRls_bars (s : State) (x : List Segment) : (s.setRls x).bars = s.bars := rfl
@[simp] theorem State.setRls_rls (s : State) (x : List Segment) : (s.setRls x).rls = x := rfl
@[simp] theorem State.setRls_mou (s : State) (x : List Segment) : (s.setRls x).mou = s.mou := rfl
@[simp] theorem State.setRls_htc (s : State) (x : List Segment) : (s.setRls x).htc = s.htc := rfl
@[simp] theorem State.setRls_tnc (s : State) (x : List Segment) : (s.setRls x).tnc = s.tnc := rfl
@[simp] theorem State.setRls_alc (s : State) (x : List Segment) : (s.setRls x).alc = s.alc := rfl
@[simp] theorem State.setRls_choices (s : State) (x : List Segment) : (s.setRls x).choices = s.choices := rfl
@[simp] theorem State.setRls_pending (s : State) (x : List Segment) : (s.setRls x).pending = s.pending := rfl

/-! ### setMou -/

@[simp] theorem State.setMou_lrx (s : State) (x : Mou) : (s.setMou x).lrx = s.lrx := rfl
@[simp] theorem State.setMou_cmuSlot (s : State) (x : Mou) : (s.setMou x).cmuSlot = s.cmuSlot := rfl
@[simp] theorem State.setMou_ltx (s : State) (x : Mou) : (s.setMou x).ltx = s.ltx := rfl
@[simp] theorem State.setMou_line (s : State) (x : Mou) : (s.setMou x).line = s.line := rfl
@[simp] theorem State.setMou_pfs (s : State) (x : Mou) : (s.setMou x).pfs = s.pfs := rfl
@[simp] theorem State.setMou_cpa (s : State) (x : Mou) : (s.setMou x).cpa = s.cpa := rfl
@[simp] theorem State.setMou_lst (s : State) (x : Mou) : (s.setMou x).lst = s.lst := rfl
@[simp] theorem State.setMou_bars (s : State) (x : Mou) : (s.setMou x).bars = s.bars := rfl
@[simp] theorem State.setMou_rls (s : State) (x : Mou) : (s.setMou x).rls = s.rls := rfl
@[simp] theorem State.setMou_mou (s : State) (x : Mou) : (s.setMou x).mou = x := rfl
@[simp] theorem State.setMou_htc (s : State) (x : Mou) : (s.setMou x).htc = s.htc := rfl
@[simp] theorem State.setMou_tnc (s : State) (x : Mou) : (s.setMou x).tnc = s.tnc := rfl
@[simp] theorem State.setMou_alc (s : State) (x : Mou) : (s.setMou x).alc = s.alc := rfl
@[simp] theorem State.setMou_choices (s : State) (x : Mou) : (s.setMou x).choices = s.choices := rfl
@[simp] theorem State.setMou_pending (s : State) (x : Mou) : (s.setMou x).pending = s.pending := rfl

/-! ### setHtc -/

@[simp] theorem State.setHtc_lrx (s : State) (x : Htc) : (s.setHtc x).lrx = s.lrx := rfl
@[simp] theorem State.setHtc_cmuSlot (s : State) (x : Htc) : (s.setHtc x).cmuSlot = s.cmuSlot := rfl
@[simp] theorem State.setHtc_ltx (s : State) (x : Htc) : (s.setHtc x).ltx = s.ltx := rfl
@[simp] theorem State.setHtc_line (s : State) (x : Htc) : (s.setHtc x).line = s.line := rfl
@[simp] theorem State.setHtc_pfs (s : State) (x : Htc) : (s.setHtc x).pfs = s.pfs := rfl
@[simp] theorem State.setHtc_cpa (s : State) (x : Htc) : (s.setHtc x).cpa = s.cpa := rfl
@[simp] theorem State.setHtc_lst (s : State) (x : Htc) : (s.setHtc x).lst = s.lst := rfl
@[simp] theorem State.setHtc_bars (s : State) (x : Htc) : (s.setHtc x).bars = s.bars := rfl
@[simp] theorem State.setHtc_rls (s : State) (x : Htc) : (s.setHtc x).rls = s.rls := rfl
@[simp] theorem State.setHtc_mou (s : State) (x : Htc) : (s.setHtc x).mou = s.mou := rfl
@[simp] theorem State.setHtc_htc (s : State) (x : Htc) : (s.setHtc x).htc = x := rfl
@[simp] theorem State.setHtc_tnc (s : State) (x : Htc) : (s.setHtc x).tnc = s.tnc := rfl
@[simp] theorem State.setHtc_alc (s : State) (x : Htc) : (s.setHtc x).alc = s.alc := rfl
@[simp] theorem State.setHtc_choices (s : State) (x : Htc) : (s.setHtc x).choices = s.choices := rfl
@[simp] theorem State.setHtc_pending (s : State) (x : Htc) : (s.setHtc x).pending = s.pending := rfl

/-! ### setTnc -/

@[simp] theorem State.setTnc_lrx (s : State) (x : Tnc) : (s.setTnc x).lrx = s.lrx := rfl
@[simp] theorem State.setTnc_cmuSlot (s : State) (x : Tnc) : (s.setTnc x).cmuSlot = s.cmuSlot := rfl
@[simp] theorem State.setTnc_ltx (s : State) (x : Tnc) : (s.setTnc x).ltx = s.ltx := rfl
@[simp] theorem State.setTnc_line (s : State) (x : Tnc) : (s.setTnc x).line = s.line := rfl
@[simp] theorem State.setTnc_pfs (s : State) (x : Tnc) : (s.setTnc x).pfs = s.pfs := rfl
@[simp] theorem State.setTnc_cpa (s : State) (x : Tnc) : (s.setTnc x).cpa = s.cpa := rfl
@[simp] theorem State.setTnc_lst (s : State) (x : Tnc) : (s.setTnc x).lst = s.lst := rfl
@[simp] theorem State.setTnc_bars (s : State) (x : Tnc) : (s.setTnc x).bars = s.bars := rfl
@[simp] theorem State.setTnc_rls (s : State) (x : Tnc) : (s.setTnc x).rls = s.rls := rfl
@[simp] theorem State.setTnc_mou (s : State) (x : Tnc) : (s.setTnc x).mou = s.mou := rfl
@[simp] theorem State.setTnc_htc (s : State) (x : Tnc) : (s.setTnc x).htc = s.htc := rfl
@[simp] theorem State.setTnc_tnc (s : State) (x : Tnc) : (s.setTnc x).tnc = x := rfl
@[simp] theorem State.setTnc_alc (s : State) (x : Tnc) : (s.setTnc x).alc = s.alc := rfl
@[simp] theorem State.setTnc_choices (s : State) (x : Tnc) : (s.setTnc x).choices = s.choices := rfl
@[simp] theorem State.setTnc_pending (s : State) (x : Tnc) : (s.setTnc x).pending = s.pending := rfl

/-! ### setAlc -/

@[simp] theorem State.setAlc_lrx (s : State) (x : Alc) : (s.setAlc x).lrx = s.lrx := rfl
@[simp] theorem State.setAlc_cmuSlot (s : State) (x : Alc) : (s.setAlc x).cmuSlot = s.cmuSlot := rfl
@[simp] theorem State.setAlc_ltx (s : State) (x : Alc) : (s.setAlc x).ltx = s.ltx := rfl
@[simp] theorem State.setAlc_line (s : State) (x : Alc) : (s.setAlc x).line = s.line := rfl
@[simp] theorem State.setAlc_pfs (s : State) (x : Alc) : (s.setAlc x).pfs = s.pfs := rfl
@[simp] theorem State.setAlc_cpa (s : State) (x : Alc) : (s.setAlc x).cpa = s.cpa := rfl
@[simp] theorem State.setAlc_lst (s : State) (x : Alc) : (s.setAlc x).lst = s.lst := rfl
@[simp] theorem State.setAlc_bars (s : State) (x : Alc) : (s.setAlc x).bars = s.bars := rfl
@[simp] theorem State.setAlc_rls (s : State) (x : Alc) : (s.setAlc x).rls = s.rls := rfl
@[simp] theorem State.setAlc_mou (s : State) (x : Alc) : (s.setAlc x).mou = s.mou := rfl
@[simp] theorem State.setAlc_htc (s : State) (x : Alc) : (s.setAlc x).htc = s.htc := rfl
@[simp] theorem State.setAlc_tnc (s : State) (x : Alc) : (s.setAlc x).tnc = s.tnc := rfl
@[simp] theorem State.setAlc_alc (s : State) (x : Alc) : (s.setAlc x).alc = x := rfl
@[simp] theorem State.setAlc_choices (s : State) (x : Alc) : (s.setAlc x).choices = s.choices := rfl
@[simp] theorem State.setAlc_pending (s : State) (x : Alc) : (s.setAlc x).pending = s.pending := rfl

/-! ### setChoices -/

@[simp] theorem State.setChoices_lrx (s : State) (x : Nat) : (s.setChoices x).lrx = s.lrx := rfl
@[simp] theorem State.setChoices_cmuSlot (s : State) (x : Nat) : (s.setChoices x).cmuSlot = s.cmuSlot := rfl
@[simp] theorem State.setChoices_ltx (s : State) (x : Nat) : (s.setChoices x).ltx = s.ltx := rfl
@[simp] theorem State.setChoices_line (s : State) (x : Nat) : (s.setChoices x).line = s.line := rfl
@[simp] theorem State.setChoices_pfs (s : State) (x : Nat) : (s.setChoices x).pfs = s.pfs := rfl
@[simp] theorem State.setChoices_cpa (s : State) (x : Nat) : (s.setChoices x).cpa = s.cpa := rfl
@[simp] theorem State.setChoices_lst (s : State) (x : Nat) : (s.setChoices x).lst = s.lst := rfl
@[simp] theorem State.setChoices_bars (s : State) (x : Nat) : (s.setChoices x).bars = s.bars := rfl
@[simp] theorem State.setChoices_rls (s : State) (x : Nat) : (s.setChoices x).rls = s.rls := rfl
@[simp] theorem State.setChoices_mou (s : State) (x : Nat) : (s.setChoices x).mou = s.mou := rfl
@[simp] theorem State.setChoices_htc (s : State) (x : Nat) : (s.setChoices x).htc = s.htc := rfl
@[simp] theorem State.setChoices_tnc (s : State) (x : Nat) : (s.setChoices x).tnc = s.tnc := rfl
@[simp] theorem State.setChoices_alc (s : State) (x : Nat) : (s.setChoices x).alc = s.alc := rfl
@[simp] theorem State.setChoices_choices (s : State) (x : Nat) : (s.setChoices x).choices = x := rfl
@[simp] theorem State.setChoices_pending (s : State) (x : Nat) : (s.setChoices x).pending = s.pending := rfl

/-! ### setPending -/

@[simp] theorem State.setPending_lrx (s : State) (x : List Instr) : (s.setPending x).lrx = s.lrx := rfl
@[simp] theorem State.setPending_cmuSlot (s : State) (x : List Instr) : (s.setPending x).cmuSlot = s.cmuSlot := rfl
@[simp] theorem State.setPending_ltx (s : State) (x : List Instr) : (s.setPending x).ltx = s.ltx := rfl
@[simp] theorem State.setPending_line (s : State) (x : List Instr) : (s.setPending x).line = s.line := rfl
@[simp] theorem State.setPending_pfs (s : State) (x : List Instr) : (s.setPending x).pfs = s.pfs := rfl
@[simp] theorem State.setPending_cpa (s : State) (x : List Instr) : (s.setPending x).cpa = s.cpa := rfl
@[simp] theorem State.setPending_lst (s : State) (x : List Instr) : (s.setPending x).lst = s.lst := rfl
@[simp] theorem State.setPending_bars (s : State) (x : List Instr) : (s.setPending x).bars = s.bars := rfl
@[simp] theorem State.setPending_rls (s : State) (x : List Instr) : (s.setPending x).rls = s.rls := rfl
@[simp] theorem State.setPending_mou (s : State) (x : List Instr) : (s.setPending x).mou = s.mou := rfl
@[simp] theorem State.setPending_htc (s : State) (x : List Instr) : (s.setPending x).htc = s.htc := rfl
@[simp] theorem State.setPending_tnc (s : State) (x : List Instr) : (s.setPending x).tnc = s.tnc := rfl
@[simp] theorem State.setPending_alc (s : State) (x : List Instr) : (s.setPending x).alc = s.alc := rfl
@[simp] theorem State.setPending_choices (s : State) (x : List Instr) : (s.setPending x).choices = s.choices := rfl
@[simp] theorem State.setPending_pending (s : State) (x : List Instr) : (s.setPending x).pending = x := rfl

/-! ### modAlc -/

@[simp] theorem State.modAlc_lrx (s : State) (f : Alc → Alc) : (s.modAlc f).lrx = s.lrx := rfl
@[simp] theorem State.modAlc_cmuSlot (s : State) (f : Alc → Alc) : (s.modAlc f).cmuSlot = s.cmuSlot := rfl
@[simp] theorem State.modAlc_ltx (s : State) (f : Alc → Alc) : (s.modAlc f).ltx = s.ltx := rfl
@[simp] theorem State.modAlc_line (s : State) (f : Alc → Alc) : (s.modAlc f).line = s.line := rfl
@[simp] theorem State.modAlc_pfs (s : State) (f : Alc → Alc) : (s.modAlc f).pfs = s.pfs := rfl
@[simp] theorem State.modAlc_cpa (s : State) (f : Alc → Alc) : (s.modAlc f).cpa = s.cpa := rfl
@[simp] theorem State.modAlc_lst (s : State) (f : Alc → Alc) : (s.modAlc f).lst = s.lst := rfl
@[simp] theorem State.modAlc_bars (s : State) (f : Alc → Alc) : (s.modAlc f).bars = s.bars := rfl
@[simp] theorem State.modAlc_rls (s : State) (f : Alc → Alc) : (s.modAlc f).rls = s.rls := rfl
@[simp] theorem State.modAlc_mou (s : State) (f : Alc → Alc) : (s.modAlc f).mou = s.mou := rfl
@[simp] theorem State.modAlc_htc (s : State) (f : Alc → Alc) : (s.modAlc f).htc = s.htc := rfl
@[simp] theorem State.modAlc_tnc (s : State) (f : Alc → Alc) : (s.modAlc f).tnc = s.tnc := rfl
@[simp] theorem State.modAlc_alc (s : State) (f : Alc → Alc) : (s.modAlc f).alc = f s.alc := rfl
@[simp] theorem State.modAlc_choices (s : State) (f : Alc → Alc) : (s.modAlc f).choices = s.choices := rfl
@[simp] theorem State.modAlc_pending (s : State) (f : Alc → Alc) : (s.modAlc f).pending = s.pending := rfl

/-! ### modLrx -/

@[simp] theorem State.modLrx_lrx (s : State) (f : Lrx → Lrx) : (s.modLrx f).lrx = f s.lrx := rfl
@[simp] theorem State.modLrx_cmuSlot (s : State) (f : Lrx → Lrx) : (s.modLrx f).cmuSlot = s.cmuSlot := rfl
@[simp] theorem State.modLrx_ltx (s : State) (f : Lrx → Lrx) : (s.modLrx f).ltx = s.ltx := rfl
@[simp] theorem State.modLrx_line (s : State) (f : Lrx → Lrx) : (s.modLrx f).line = s.line := rfl
@[simp] theorem State.modLrx_pfs (s : State) (f : Lrx → Lrx) : (s.modLrx f).pfs = s.pfs := rfl
@[simp] theorem State.modLrx_cpa (s : State) (f : Lrx → Lrx) : (s.modLrx f).cpa = s.cpa := rfl
@[simp] theorem State.modLrx_lst (s : State) (f : Lrx → Lrx) : (s.modLrx f).lst = s.lst := rfl
@[simp] theorem State.modLrx_bars (s : State) (f : Lrx → Lrx) : (s.modLrx f).bars = s.bars := rfl
@[simp] theorem State.modLrx_rls (s : State) (f : Lrx → Lrx) : (s.modLrx f).rls = s.rls := rfl
@[simp] theorem State.modLrx_mou (s : State) (f : Lrx → Lrx) : (s.modLrx f).mou = s.mou := rfl
@[simp] theorem State.modLrx_htc (s : State) (f : Lrx → Lrx) : (s.modLrx f).htc = s.htc := rfl
@[simp] theorem State.modLrx_tnc (s : State) (f : Lrx → Lrx) : (s.modLrx f).tnc = s.tnc := rfl
@[simp] theorem State.modLrx_alc (s : State) (f : Lrx → Lrx) : (s.modLrx f).alc = s.alc := rfl
@[simp] theorem State.modLrx_choices (s : State) (f : Lrx → Lrx) : (s.modLrx f).choices = s.choices := rfl
@[simp] theorem State.modLrx_pending (s : State) (f : Lrx → Lrx) : (s.modLrx f).pending = s.pending := rfl

/-! ### modTnc -/

@[simp] theorem State.modTnc_lrx (s : State) (f : Tnc → Tnc) : (s.modTnc f).lrx = s.lrx := rfl
@[simp] theorem State.modTnc_cmuSlot (s : State) (f : Tnc → Tnc) : (s.modTnc f).cmuSlot = s.cmuSlot := rfl
@[simp] theorem State.modTnc_ltx (s : State) (f : Tnc → Tnc) : (s.modTnc f).ltx = s.ltx := rfl
@[simp] theorem State.modTnc_line (s : State) (f : Tnc → Tnc) : (s.modTnc f).line = s.line := rfl
@[simp] theorem State.modTnc_pfs (s : State) (f : Tnc → Tnc) : (s.modTnc f).pfs = s.pfs := rfl
@[simp] theorem State.modTnc_cpa (s : State) (f : Tnc → Tnc) : (s.modTnc f).cpa = s.cpa := rfl
@[simp] theorem State.modTnc_lst (s : State) (f : Tnc → Tnc) : (s.modTnc f).lst = s.lst := rfl
@[simp] theorem State.modTnc_bars (s : State) (f : Tnc → Tnc) : (s.modTnc f).bars = s.bars := rfl
@[simp] theorem State.modTnc_rls (s : State) (f : Tnc → Tnc) : (s.modTnc f).rls = s.rls := rfl
@[simp] theorem State.modTnc_mou (s : State) (f : Tnc → Tnc) : (s.modTnc f).mou = s.mou := rfl
@[simp] theorem State.modTnc_htc (s : State) (f : Tnc → Tnc) : (s.modTnc f).htc = s.htc := rfl
@[simp] theorem State.modTnc_tnc (s : State) (f : Tnc → Tnc) : (s.modTnc f).tnc = f s.tnc := rfl
@[simp] theorem State.modTnc_alc (s : State) (f : Tnc → Tnc) : (s.modTnc f).alc = s.alc := rfl
@[simp] theorem State.modTnc_choices (s : State) (f : Tnc → Tnc) : (s.modTnc f).choices = s.choices := rfl
@[simp] theorem State.modTnc_pending (s : State) (f : Tnc → Tnc) : (s.modTnc f).pending = s.pending := rfl

/-! ### modHtc -/

@[simp] theorem State.modHtc_lrx (s : State) (f : Htc → Htc) : (s.modHtc f).lrx = s.lrx := rfl
@[simp] theorem State.modHtc_cmuSlot (s : State) (f : Htc → Htc) : (s.modHtc f).cmuSlot = s.cmuSlot := rfl
@[simp] theorem State.modHtc_ltx (s : State) (f : Htc → Htc) : (s.modHtc f).ltx = s.ltx := rfl
@[simp] theorem State.modHtc_line (s : State) (f : Htc → Htc) : (s.modHtc f).line = s.line := rfl
@[simp] theorem State.modHtc_pfs (s : State) (f : Htc → Htc) : (s.modHtc f).pfs = s.pfs := rfl
@[simp] theorem State.modHtc_cpa (s : State) (f : Htc → Htc) : (s.modHtc f).cpa = s.cpa := rfl
@[simp] theorem State.modHtc_lst (s : State) (f : Htc → Htc) : (s.modHtc f).lst = s.lst := rfl
@[simp] theorem State.modHtc_bars (s : State) (f : Htc → Htc) : (s.modHtc f).bars = s.bars := rfl
@[simp] theorem State.modHtc_rls (s : State) (f : Htc → Htc) : (s.modHtc f).rls = s.rls := rfl
@[simp] theorem State.modHtc_mou (s : State) (f : Htc → Htc) : (s.modHtc f).mou = s.mou := rfl
@[simp] theorem State.modHtc_htc (s : State) (f : Htc → Htc) : (s.modHtc f).htc = f s.htc := rfl
@[simp] theorem State.modHtc_tnc (s : State) (f : Htc → Htc) : (s.modHtc f).tnc = s.tnc := rfl
@[simp] theorem State.modHtc_alc (s : State) (f : Htc → Htc) : (s.modHtc f).alc = s.alc := rfl
@[simp] theorem State.modHtc_choices (s : State) (f : Htc → Htc) : (s.modHtc f).choices = s.choices := rfl
@[simp] theorem State.modHtc_pending (s : State) (f : Htc → Htc) : (s.modHtc f).pending = s.pending := rfl

/-! ### modSegment -/

@[simp] theorem State.modSegment_lrx (s : State) (t : Tag) (f : Segment → Segment) : (s.modSegment t f).lrx = s.lrx :=
  rfl
@[simp] theorem State.modSegment_cmuSlot (s : State) (t : Tag) (f : Segment → Segment) : (s.modSegment t f).cmuSlot = s.cmuSlot :=
  rfl
@[simp] theorem State.modSegment_ltx (s : State) (t : Tag) (f : Segment → Segment) : (s.modSegment t f).ltx = s.ltx :=
  rfl
@[simp] theorem State.modSegment_line (s : State) (t : Tag) (f : Segment → Segment) : (s.modSegment t f).line = s.line :=
  rfl
@[simp] theorem State.modSegment_pfs (s : State) (t : Tag) (f : Segment → Segment) : (s.modSegment t f).pfs = s.pfs :=
  rfl
@[simp] theorem State.modSegment_cpa (s : State) (t : Tag) (f : Segment → Segment) : (s.modSegment t f).cpa = s.cpa :=
  rfl
@[simp] theorem State.modSegment_lst (s : State) (t : Tag) (f : Segment → Segment) : (s.modSegment t f).lst = s.lst :=
  rfl
@[simp] theorem State.modSegment_bars (s : State) (t : Tag) (f : Segment → Segment) : (s.modSegment t f).bars = s.bars :=
  rfl
@[simp] theorem State.modSegment_rls (s : State) (t : Tag) (f : Segment → Segment) : (s.modSegment t f).rls = modSeg t f s.rls :=
  rfl
@[simp] theorem State.modSegment_mou (s : State) (t : Tag) (f : Segment → Segment) : (s.modSegment t f).mou = s.mou :=
  rfl
@[simp] theorem State.modSegment_htc (s : State) (t : Tag) (f : Segment → Segment) : (s.modSegment t f).htc = s.htc :=
  rfl
@[simp] theorem State.modSegment_tnc (s : State) (t : Tag) (f : Segment → Segment) : (s.modSegment t f).tnc = s.tnc :=
  rfl
@[simp] theorem State.modSegment_alc (s : State) (t : Tag) (f : Segment → Segment) : (s.modSegment t f).alc = s.alc :=
  rfl
@[simp] theorem State.modSegment_choices (s : State) (t : Tag) (f : Segment → Segment) : (s.modSegment t f).choices = s.choices :=
  rfl
@[simp] theorem State.modSegment_pending (s : State) (t : Tag) (f : Segment → Segment) : (s.modSegment t f).pending = s.pending :=
  rfl

/-! ### modBar -/

@[simp] theorem State.modBar_lrx (s : State) (k : Bar) (f : BarUnit → BarUnit) : (s.modBar k f).lrx = s.lrx := rfl
@[simp] theorem State.modBar_cmuSlot (s : State) (k : Bar) (f : BarUnit → BarUnit) : (s.modBar k f).cmuSlot = s.cmuSlot := rfl
@[simp] theorem State.modBar_ltx (s : State) (k : Bar) (f : BarUnit → BarUnit) : (s.modBar k f).ltx = s.ltx := rfl
@[simp] theorem State.modBar_line (s : State) (k : Bar) (f : BarUnit → BarUnit) : (s.modBar k f).line = s.line := rfl
@[simp] theorem State.modBar_pfs (s : State) (k : Bar) (f : BarUnit → BarUnit) : (s.modBar k f).pfs = s.pfs := rfl
@[simp] theorem State.modBar_cpa (s : State) (k : Bar) (f : BarUnit → BarUnit) : (s.modBar k f).cpa = s.cpa := rfl
@[simp] theorem State.modBar_lst (s : State) (k : Bar) (f : BarUnit → BarUnit) : (s.modBar k f).lst = s.lst := rfl
@[simp] theorem State.modBar_bars (s : State) (k : Bar) (f : BarUnit → BarUnit) : (s.modBar k f).bars = vmod s.bars k f := rfl
@[simp] theorem State.modBar_rls (s : State) (k : Bar) (f : BarUnit → BarUnit) : (s.modBar k f).rls = s.rls := rfl
@[simp] theorem State.modBar_mou (s : State) (k : Bar) (f : BarUnit → BarUnit) : (s.modBar k f).mou = s.mou := rfl
@[simp] theorem State.modBar_htc (s : State) (k : Bar) (f : BarUnit → BarUnit) : (s.modBar k f).htc = s.htc := rfl
@[simp] theorem State.modBar_tnc (s : State) (k : Bar) (f : BarUnit → BarUnit) : (s.modBar k f).tnc = s.tnc := rfl
@[simp] theorem State.modBar_alc (s : State) (k : Bar) (f : BarUnit → BarUnit) : (s.modBar k f).alc = s.alc := rfl
@[simp] theorem State.modBar_choices (s : State) (k : Bar) (f : BarUnit → BarUnit) : (s.modBar k f).choices = s.choices := rfl
@[simp] theorem State.modBar_pending (s : State) (k : Bar) (f : BarUnit → BarUnit) : (s.modBar k f).pending = s.pending := rfl

/-! ### modBank -/

@[simp] theorem State.modBank_lrx (s : State) (slot : Fin 8) (id : BankId) (f : Bank → Bank) :
    (s.modBank slot id f).lrx = s.lrx := rfl
@[simp] theorem State.modBank_cmuSlot (s : State) (slot : Fin 8) (id : BankId) (f : Bank → Bank) :
    (s.modBank slot id f).cmuSlot = s.cmuSlot := rfl
@[simp] theorem State.modBank_ltx (s : State) (slot : Fin 8) (id : BankId) (f : Bank → Bank) :
    (s.modBank slot id f).ltx = s.ltx := rfl
@[simp] theorem State.modBank_line (s : State) (slot : Fin 8) (id : BankId) (f : Bank → Bank) :
    (s.modBank slot id f).line = s.line := rfl
@[simp] theorem State.modBank_pfs (s : State) (slot : Fin 8) (id : BankId) (f : Bank → Bank) :
    (s.modBank slot id f).pfs = { s.pfs with slots := vmod s.pfs.slots slot fun x => x.put id (f (x.get id)) } := rfl
@[simp] theorem State.modBank_cpa (s : State) (slot : Fin 8) (id : BankId) (f : Bank → Bank) :
    (s.modBank slot id f).cpa = s.cpa := rfl
@[simp] theorem State.modBank_lst (s : State) (slot : Fin 8) (id : BankId) (f : Bank → Bank) :
    (s.modBank slot id f).lst = s.lst := rfl
@[simp] theorem State.modBank_bars (s : State) (slot : Fin 8) (id : BankId) (f : Bank → Bank) :
    (s.modBank slot id f).bars = s.bars := rfl
@[simp] theorem State.modBank_rls (s : State) (slot : Fin 8) (id : BankId) (f : Bank → Bank) :
    (s.modBank slot id f).rls = s.rls := rfl
@[simp] theorem State.modBank_mou (s : State) (slot : Fin 8) (id : BankId) (f : Bank → Bank) :
    (s.modBank slot id f).mou = s.mou := rfl
@[simp] theorem State.modBank_htc (s : State) (slot : Fin 8) (id : BankId) (f : Bank → Bank) :
    (s.modBank slot id f).htc = s.htc := rfl
@[simp] theorem State.modBank_tnc (s : State) (slot : Fin 8) (id : BankId) (f : Bank → Bank) :
    (s.modBank slot id f).tnc = s.tnc := rfl
@[simp] theorem State.modBank_alc (s : State) (slot : Fin 8) (id : BankId) (f : Bank → Bank) :
    (s.modBank slot id f).alc = s.alc := rfl
@[simp] theorem State.modBank_choices (s : State) (slot : Fin 8) (id : BankId) (f : Bank → Bank) :
    (s.modBank slot id f).choices = s.choices := rfl
@[simp] theorem State.modBank_pending (s : State) (slot : Fin 8) (id : BankId) (f : Bank → Bank) :
    (s.modBank slot id f).pending = s.pending := rfl

end Sys2Proof.Machine
end

