-- ==== Sys2Proof/Laws/Banks.lean ====
section
/-! SUPPORT. What the operations on the profile store do: one bank changed, a piece inserted and read back, and which
bank is the inactive one (R35 to R39, R47). -/

namespace Sys2Proof.Machine

/-- A change at one place of a vector, read at that place. -/
@[simp] theorem vmod_same {α : Type} {n : Nat} (v : Vector α n) (i : Fin n) (f : α → α) : (vmod v i f)[i] = f v[i] := by
  simp [vmod]

/-- A change at one place of a vector, read at another. -/
theorem vmod_other {α : Type} {n : Nat} (v : Vector α n) (i j : Fin n) (f : α → α) (h : j ≠ i) :
    (vmod v i f)[j] = v[j] := by
  have : (i : Nat) ≠ (j : Nat) := fun e => h (Fin.ext e.symm)
  simp [vmod, this]

/-- A bank that is put is the bank that is got. -/
@[simp] theorem Slot.get_put_same (x : Slot) (id : BankId) (b : Bank) : (x.put id b).get id = b := by
  cases id <;> rfl

/-- Putting one bank leaves the other. -/
@[simp] theorem Slot.get_put_other (x : Slot) (id : BankId) (b : Bank) : (x.put id b).get id.other = x.get id.other := by
  cases id <;> rfl

/-- A bank is never its slot's other bank. -/
theorem BankId.other_ne (id : BankId) : id.other ≠ id := by
  cases id <;> decide

/-- A changed bank reads as its change. -/
@[simp] theorem bankOf_modBank_same (s : State) (n : Fin 8) (id : BankId) (f : Bank → Bank) :
    bankOf (s.modBank n id f) n id = f (bankOf s n id) := by
  unfold bankOf State.modBank
  rw [State.setPfs_pfs, vmod_same, Slot.get_put_same]

/-- Every other bank reads as before. -/
theorem bankOf_modBank_other (s : State) (n m : Fin 8) (id x : BankId) (f : Bank → Bank) (h : ¬(m = n ∧ x = id)) :
    bankOf (s.modBank n id f) m x = bankOf s m x := by
  unfold bankOf State.modBank
  simp only [State.setPfs_pfs]
  by_cases hm : m = n
  · subst hm
    rw [vmod_same]
    cases id <;> cases x <;> simp_all [Slot.put, Slot.get]
  · rw [vmod_other _ _ _ _ hm]

/-- A change of a bank leaves the check in progress. -/
@[simp] theorem modBank_check (s : State) (n : Fin 8) (id : BankId) (f : Bank → Bank) :
    (s.modBank n id f).pfs.check = s.pfs.check := rfl

/-- An inserted piece is found at its index. -/
theorem find_insertPiece_same (i : Nat) (p : Piece) (l : List (Nat × Piece)) :
    (insertPiece i p l).find? (fun x => x.1 == i) = some (i, p) := by
  induction l with
  | nil => simp [insertPiece]
  | cons x xs ih =>
    obtain ⟨j, q⟩ := x
    unfold insertPiece
    split
    · simp
    · split
      · simp
      · rename_i hne
        have : ¬ j = i := fun e => hne e.symm
        simpa [List.find?_cons, this] using ih

/-- An inserted piece leaves what is found at every other index. -/
theorem find_insertPiece_other (i j : Nat) (p : Piece) (l : List (Nat × Piece)) (h : j ≠ i) :
    (insertPiece i p l).find? (fun x => x.1 == j) = l.find? (fun x => x.1 == j) := by
  have hij : ¬ i = j := fun e => h e.symm
  induction l with
  | nil => simp [insertPiece, hij]
  | cons x xs ih =>
    obtain ⟨k, q⟩ := x
    unfold insertPiece
    split
    · simp [hij]
    · split
      · rename_i _ e
        subst e
        simp [hij]
      · by_cases hk : k = j
        · simp [hk]
        · simpa [List.find?_cons, hk] using ih

/-- A written piece reads back, and every other piece reads as before (R39). -/
theorem pieceAt_writePiece (i j : Nat) (p : Piece) (b : Bank) :
    pieceAt (writePiece i p b) j = if j = i then some p else pieceAt b j := by
  by_cases h : j = i
  · subst h
    simp [pieceAt, writePiece, find_insertPiece_same]
  · simp [pieceAt, writePiece, find_insertPiece_other i j p b.pieces h, h]

/-- The inactive bank is not the ACTIVE one (R36). -/
theorem inactiveBank_ne_active (x : Slot) : activeBank x ≠ some (inactiveBank x) := by
  unfold inactiveBank
  cases h : activeBank x with
  | none => simp
  | some id =>
    simp only [ne_eq, Option.some.injEq]
    exact fun e => BankId.other_ne id e.symm

end Sys2Proof.Machine
end

