-- ==== Sys2Proof/Laws/Bytes.lean ====
section
/-! SUPPORT. Big-endian numbers and field lists: lengths, and reading what was written (section Conventions). -/

namespace Sys2Proof.Machine

@[simp] theorem beBytes_length (n x : Nat) : (beBytes n x).length = n := by
  induction n with
  | zero => rfl
  | succ n ih => simp [beBytes, ih]

/-- A big-endian number read from a digit and a rest. -/
theorem foldl_beNat (bs : List Byte) (acc : Nat) :
    bs.foldl (fun a b => a * 256 + b.toNat) acc = acc * 256 ^ bs.length + beNat bs := by
  induction bs generalizing acc with
  | nil => simp [beNat]
  | cons b bs ih =>
    simp only [List.foldl_cons, List.length_cons, beNat]
    rw [ih, ih (0 * 256 + b.toNat)]
    ring

@[simp] theorem beNat_nil : beNat [] = 0 := rfl

/-- The most significant byte comes first. -/
theorem beNat_cons (b : Byte) (bs : List Byte) : beNat (b :: bs) = b.toNat * 256 ^ bs.length + beNat bs := by
  simp only [beNat, List.foldl_cons]
  rw [foldl_beNat]
  simp [beNat]

/-- Reading the bytes of a number gives its low bytes. -/
theorem beNat_beBytes (n x : Nat) : beNat (beBytes n x) = x % 256 ^ n := by
  induction n with
  | zero => simp [beBytes, Nat.mod_one]
  | succ n ih =>
    rw [beBytes, beNat_cons, ih, beBytes_length, BitVec.toNat_ofNat]
    have h : x % 256 ^ (n + 1) = x % (256 ^ n * 256) := by rw [pow_succ]
    rw [h, Nat.mod_mul]
    norm_num
    ring

/-- A number that fits its field is read as it was written. -/
theorem beNat_beBytes_of_lt (n x : Nat) (h : x < 256 ^ n) : beNat (beBytes n x) = x := by
  rw [beNat_beBytes, Nat.mod_eq_of_lt h]

/-- A run of bytes is a number below 256 to its length. -/
theorem beNat_lt (bs : List Byte) : beNat bs < 256 ^ bs.length := by
  induction bs with
  | nil => simp
  | cons b bs ih =>
    rw [beNat_cons, List.length_cons, pow_succ]
    have hb : b.toNat < 256 := b.isLt
    nlinarith [Nat.pos_of_ne_zero (pow_ne_zero bs.length (by norm_num : (256 : Nat) ≠ 0))]

/-- The bytes of the number read from a run of bytes are that run. -/
theorem beBytes_beNat (bs : List Byte) : beBytes bs.length (beNat bs) = bs := by
  induction bs with
  | nil => rfl
  | cons b bs ih =>
    have key : ∀ (n q m : Nat), m < 256 ^ n → beBytes n (q * 256 ^ n + m) = beBytes n m := by
      intro n
      induction n with
      | zero => intros; rfl
      | succ n ihn =>
        intro q m hm
        have hp : 0 < 256 ^ n := by positivity
        have e : q * 256 ^ (n + 1) + m = (q * 256) * 256 ^ n + m := by ring
        have hd : (q * 256 * 256 ^ n + m) / 256 ^ n = q * 256 + m / 256 ^ n := by
          rw [Nat.add_comm, Nat.add_mul_div_right _ _ hp, Nat.add_comm]
        have hr : q * 256 * 256 ^ n + m = (q * 256 + m / 256 ^ n) * 256 ^ n + m % 256 ^ n := by
          have := Nat.div_add_mod m (256 ^ n)
          nlinarith
        have hm' : beBytes n m = beBytes n (m % 256 ^ n) := by
          conv_lhs => rw [← Nat.div_add_mod' m (256 ^ n)]
          exact ihn _ _ (Nat.mod_lt _ hp)
        rw [beBytes, beBytes, e, hd]
        congr 1
        · apply BitVec.eq_of_toNat_eq
          simp only [BitVec.toNat_ofNat]
          omega
        · rw [hr, ihn _ _ (Nat.mod_lt _ hp), hm']
    rw [List.length_cons, beBytes, beNat_cons]
    have hlt := beNat_lt bs
    have hp : 0 < 256 ^ bs.length := by positivity
    congr 1
    · have : (b.toNat * 256 ^ bs.length + beNat bs) / 256 ^ bs.length = b.toNat := by
        rw [Nat.add_comm, Nat.add_mul_div_right _ _ hp, Nat.div_eq_of_lt hlt, Nat.zero_add]
      rw [this]
      apply BitVec.eq_of_toNat_eq
      simp only [BitVec.toNat_ofNat]
      exact Nat.mod_eq_of_lt b.isLt
    · rw [key _ _ _ hlt, ih]

@[simp] theorem writeFields_length (l : List (Nat × Nat)) : (writeFields l).length = (l.map Prod.fst).sum := by
  induction l with
  | nil => rfl
  | cons x l ih => simp [writeFields, ih]

/-- Fields that fit their widths are read as they were written. -/
theorem readFields_writeFields (l : List (Nat × Nat)) (h : ∀ x ∈ l, x.2 < 256 ^ x.1) :
    readFields (l.map Prod.fst) (writeFields l) = some (l.map Prod.snd) := by
  induction l with
  | nil => rfl
  | cons x l ih =>
    have hx := h x (by simp)
    have hl := ih fun y hy => h y (by simp [hy])
    simp [readFields, writeFields, hl, beNat_beBytes_of_lt x.1 x.2 hx]

/-- Reading fields succeeds exactly when the widths use the bytes up. -/
theorem readFields_isSome (ws : List Nat) (bs : List Byte) : (readFields ws bs).isSome ↔ bs.length = ws.sum := by
  induction ws generalizing bs with
  | nil => cases bs <;> simp [readFields]
  | cons w ws ih =>
    simp only [readFields, List.sum_cons]
    split
    · simp; omega
    · have := ih (bs.drop w)
      rw [List.length_drop] at this
      split <;> simp_all <;> omega

end Sys2Proof.Machine
end

