-- ==== Sys2Proof/Laws/Settle.lean ====
section
/-! SUPPORT. What the operations that end every event leave alone (R14, R15, R95, R100, R152, R170 to R183), block by
block, and what they do when nothing is left over: `settle_quiet` and `settle_eq_choose`. -/

namespace Sys2Proof.Machine

/-! ### Raising changes ALC alone -/

@[simp] theorem raiseOcc_lrx (src : AlertSource) (ctx : Context) (s : State) :
    (raiseOcc src ctx s).lrx = s.lrx := by
  rfl
@[simp] theorem raiseOcc_cmuSlot (src : AlertSource) (ctx : Context) (s : State) :
    (raiseOcc src ctx s).cmuSlot = s.cmuSlot := by
  rfl
@[simp] theorem raiseOcc_ltx (src : AlertSource) (ctx : Context) (s : State) :
    (raiseOcc src ctx s).ltx = s.ltx := by
  rfl
@[simp] theorem raiseOcc_line (src : AlertSource) (ctx : Context) (s : State) :
    (raiseOcc src ctx s).line = s.line := by
  rfl
@[simp] theorem raiseOcc_pfs (src : AlertSource) (ctx : Context) (s : State) :
    (raiseOcc src ctx s).pfs = s.pfs := by
  rfl
@[simp] theorem raiseOcc_cpa (src : AlertSource) (ctx : Context) (s : State) :
    (raiseOcc src ctx s).cpa = s.cpa := by
  rfl
@[simp] theorem raiseOcc_lst (src : AlertSource) (ctx : Context) (s : State) :
    (raiseOcc src ctx s).lst = s.lst := by
  rfl
@[simp] theorem raiseOcc_bars (src : AlertSource) (ctx : Context) (s : State) :
    (raiseOcc src ctx s).bars = s.bars := by
  rfl
@[simp] theorem raiseOcc_rls (src : AlertSource) (ctx : Context) (s : State) :
    (raiseOcc src ctx s).rls = s.rls := by
  rfl
@[simp] theorem raiseOcc_mou (src : AlertSource) (ctx : Context) (s : State) :
    (raiseOcc src ctx s).mou = s.mou := by
  rfl
@[simp] theorem raiseOcc_htc (src : AlertSource) (ctx : Context) (s : State) :
    (raiseOcc src ctx s).htc = s.htc := by
  rfl
@[simp] theorem raiseOcc_tnc (src : AlertSource) (ctx : Context) (s : State) :
    (raiseOcc src ctx s).tnc = s.tnc := by
  rfl
@[simp] theorem raiseOcc_choices (src : AlertSource) (ctx : Context) (s : State) :
    (raiseOcc src ctx s).choices = s.choices := by
  rfl
@[simp] theorem raiseOcc_pending (src : AlertSource) (ctx : Context) (s : State) :
    (raiseOcc src ctx s).pending = s.pending := by
  rfl

@[simp] theorem raiseLinkError_lrx (sub : LinkSubcode) (kind : Byte) (tag : Tag) (s : State) :
    (raiseLinkError sub kind tag s).lrx = s.lrx := by
  rfl
@[simp] theorem raiseLinkError_cmuSlot (sub : LinkSubcode) (kind : Byte) (tag : Tag) (s : State) :
    (raiseLinkError sub kind tag s).cmuSlot = s.cmuSlot := by
  rfl
@[simp] theorem raiseLinkError_ltx (sub : LinkSubcode) (kind : Byte) (tag : Tag) (s : State) :
    (raiseLinkError sub kind tag s).ltx = s.ltx := by
  rfl
@[simp] theorem raiseLinkError_line (sub : LinkSubcode) (kind : Byte) (tag : Tag) (s : State) :
    (raiseLinkError sub kind tag s).line = s.line := by
  rfl
@[simp] theorem raiseLinkError_pfs (sub : LinkSubcode) (kind : Byte) (tag : Tag) (s : State) :
    (raiseLinkError sub kind tag s).pfs = s.pfs := by
  rfl
@[simp] theorem raiseLinkError_cpa (sub : LinkSubcode) (kind : Byte) (tag : Tag) (s : State) :
    (raiseLinkError sub kind tag s).cpa = s.cpa := by
  rfl
@[simp] theorem raiseLinkError_lst (sub : LinkSubcode) (kind : Byte) (tag : Tag) (s : State) :
    (raiseLinkError sub kind tag s).lst = s.lst := by
  rfl
@[simp] theorem raiseLinkError_bars (sub : LinkSubcode) (kind : Byte) (tag : Tag) (s : State) :
    (raiseLinkError sub kind tag s).bars = s.bars := by
  rfl
@[simp] theorem raiseLinkError_rls (sub : LinkSubcode) (kind : Byte) (tag : Tag) (s : State) :
    (raiseLinkError sub kind tag s).rls = s.rls := by
  rfl
@[simp] theorem raiseLinkError_mou (sub : LinkSubcode) (kind : Byte) (tag : Tag) (s : State) :
    (raiseLinkError sub kind tag s).mou = s.mou := by
  rfl
@[simp] theorem raiseLinkError_htc (sub : LinkSubcode) (kind : Byte) (tag : Tag) (s : State) :
    (raiseLinkError sub kind tag s).htc = s.htc := by
  rfl
@[simp] theorem raiseLinkError_tnc (sub : LinkSubcode) (kind : Byte) (tag : Tag) (s : State) :
    (raiseLinkError sub kind tag s).tnc = s.tnc := by
  rfl
@[simp] theorem raiseLinkError_choices (sub : LinkSubcode) (kind : Byte) (tag : Tag) (s : State) :
    (raiseLinkError sub kind tag s).choices = s.choices := by
  rfl
@[simp] theorem raiseLinkError_pending (sub : LinkSubcode) (kind : Byte) (tag : Tag) (s : State) :
    (raiseLinkError sub kind tag s).pending = s.pending := by
  rfl

@[simp] theorem beginCond_lrx (src : AlertSource) (ctx : Context) (s : State) :
    (beginCond src ctx s).lrx = s.lrx := by
  rfl
@[simp] theorem beginCond_cmuSlot (src : AlertSource) (ctx : Context) (s : State) :
    (beginCond src ctx s).cmuSlot = s.cmuSlot := by
  rfl
@[simp] theorem beginCond_ltx (src : AlertSource) (ctx : Context) (s : State) :
    (beginCond src ctx s).ltx = s.ltx := by
  rfl
@[simp] theorem beginCond_line (src : AlertSource) (ctx : Context) (s : State) :
    (beginCond src ctx s).line = s.line := by
  rfl
@[simp] theorem beginCond_pfs (src : AlertSource) (ctx : Context) (s : State) :
    (beginCond src ctx s).pfs = s.pfs := by
  rfl
@[simp] theorem beginCond_cpa (src : AlertSource) (ctx : Context) (s : State) :
    (beginCond src ctx s).cpa = s.cpa := by
  rfl
@[simp] theorem beginCond_lst (src : AlertSource) (ctx : Context) (s : State) :
    (beginCond src ctx s).lst = s.lst := by
  rfl
@[simp] theorem beginCond_bars (src : AlertSource) (ctx : Context) (s : State) :
    (beginCond src ctx s).bars = s.bars := by
  rfl
@[simp] theorem beginCond_rls (src : AlertSource) (ctx : Context) (s : State) :
    (beginCond src ctx s).rls = s.rls := by
  rfl
@[simp] theorem beginCond_mou (src : AlertSource) (ctx : Context) (s : State) :
    (beginCond src ctx s).mou = s.mou := by
  rfl
@[simp] theorem beginCond_htc (src : AlertSource) (ctx : Context) (s : State) :
    (beginCond src ctx s).htc = s.htc := by
  rfl
@[simp] theorem beginCond_tnc (src : AlertSource) (ctx : Context) (s : State) :
    (beginCond src ctx s).tnc = s.tnc := by
  rfl
@[simp] theorem beginCond_choices (src : AlertSource) (ctx : Context) (s : State) :
    (beginCond src ctx s).choices = s.choices := by
  rfl
@[simp] theorem beginCond_pending (src : AlertSource) (ctx : Context) (s : State) :
    (beginCond src ctx s).pending = s.pending := by
  rfl

@[simp] theorem endCond_lrx (src : AlertSource) (s : State) :
    (endCond src s).lrx = s.lrx := by
  rfl
@[simp] theorem endCond_cmuSlot (src : AlertSource) (s : State) :
    (endCond src s).cmuSlot = s.cmuSlot := by
  rfl
@[simp] theorem endCond_ltx (src : AlertSource) (s : State) :
    (endCond src s).ltx = s.ltx := by
  rfl
@[simp] theorem endCond_line (src : AlertSource) (s : State) :
    (endCond src s).line = s.line := by
  rfl
@[simp] theorem endCond_pfs (src : AlertSource) (s : State) :
    (endCond src s).pfs = s.pfs := by
  rfl
@[simp] theorem endCond_cpa (src : AlertSource) (s : State) :
    (endCond src s).cpa = s.cpa := by
  rfl
@[simp] theorem endCond_lst (src : AlertSource) (s : State) :
    (endCond src s).lst = s.lst := by
  rfl
@[simp] theorem endCond_bars (src : AlertSource) (s : State) :
    (endCond src s).bars = s.bars := by
  rfl
@[simp] theorem endCond_rls (src : AlertSource) (s : State) :
    (endCond src s).rls = s.rls := by
  rfl
@[simp] theorem endCond_mou (src : AlertSource) (s : State) :
    (endCond src s).mou = s.mou := by
  rfl
@[simp] theorem endCond_htc (src : AlertSource) (s : State) :
    (endCond src s).htc = s.htc := by
  rfl
@[simp] theorem endCond_tnc (src : AlertSource) (s : State) :
    (endCond src s).tnc = s.tnc := by
  rfl
@[simp] theorem endCond_choices (src : AlertSource) (s : State) :
    (endCond src s).choices = s.choices := by
  rfl
@[simp] theorem endCond_pending (src : AlertSource) (s : State) :
    (endCond src s).pending = s.pending := by
  rfl

@[simp] theorem judgeCond_lrx (src : AlertSource) (b a : Bool) (ctx : Context) (s : State) :
    (judgeCond src b a ctx s).lrx = s.lrx := by
  unfold judgeCond; split <;> split <;> rfl
@[simp] theorem judgeCond_cmuSlot (src : AlertSource) (b a : Bool) (ctx : Context) (s : State) :
    (judgeCond src b a ctx s).cmuSlot = s.cmuSlot := by
  unfold judgeCond; split <;> split <;> rfl
@[simp] theorem judgeCond_ltx (src : AlertSource) (b a : Bool) (ctx : Context) (s : State) :
    (judgeCond src b a ctx s).ltx = s.ltx := by
  unfold judgeCond; split <;> split <;> rfl
@[simp] theorem judgeCond_line (src : AlertSource) (b a : Bool) (ctx : Context) (s : State) :
    (judgeCond src b a ctx s).line = s.line := by
  unfold judgeCond; split <;> split <;> rfl
@[simp] theorem judgeCond_pfs (src : AlertSource) (b a : Bool) (ctx : Context) (s : State) :
    (judgeCond src b a ctx s).pfs = s.pfs := by
  unfold judgeCond; split <;> split <;> rfl
@[simp] theorem judgeCond_cpa (src : AlertSource) (b a : Bool) (ctx : Context) (s : State) :
    (judgeCond src b a ctx s).cpa = s.cpa := by
  unfold judgeCond; split <;> split <;> rfl
@[simp] theorem judgeCond_lst (src : AlertSource) (b a : Bool) (ctx : Context) (s : State) :
    (judgeCond src b a ctx s).lst = s.lst := by
  unfold judgeCond; split <;> split <;> rfl
@[simp] theorem judgeCond_bars (src : AlertSource) (b a : Bool) (ctx : Context) (s : State) :
    (judgeCond src b a ctx s).bars = s.bars := by
  unfold judgeCond; split <;> split <;> rfl
@[simp] theorem judgeCond_rls (src : AlertSource) (b a : Bool) (ctx : Context) (s : State) :
    (judgeCond src b a ctx s).rls = s.rls := by
  unfold judgeCond; split <;> split <;> rfl
@[simp] theorem judgeCond_mou (src : AlertSource) (b a : Bool) (ctx : Context) (s : State) :
    (judgeCond src b a ctx s).mou = s.mou := by
  unfold judgeCond; split <;> split <;> rfl
@[simp] theorem judgeCond_htc (src : AlertSource) (b a : Bool) (ctx : Context) (s : State) :
    (judgeCond src b a ctx s).htc = s.htc := by
  unfold judgeCond; split <;> split <;> rfl
@[simp] theorem judgeCond_tnc (src : AlertSource) (b a : Bool) (ctx : Context) (s : State) :
    (judgeCond src b a ctx s).tnc = s.tnc := by
  unfold judgeCond; split <;> split <;> rfl
@[simp] theorem judgeCond_choices (src : AlertSource) (b a : Bool) (ctx : Context) (s : State) :
    (judgeCond src b a ctx s).choices = s.choices := by
  unfold judgeCond; split <;> split <;> rfl
@[simp] theorem judgeCond_pending (src : AlertSource) (b a : Bool) (ctx : Context) (s : State) :
    (judgeCond src b a ctx s).pending = s.pending := by
  unfold judgeCond; split <;> split <;> rfl

/-! ### Serving changes ALC and the notice queue -/

@[simp] theorem queueNotice_lrx (n : Notice) (s : State) :
    (queueNotice n s).lrx = s.lrx := by
  unfold queueNotice; split <;> rfl
@[simp] theorem queueNotice_cmuSlot (n : Notice) (s : State) :
    (queueNotice n s).cmuSlot = s.cmuSlot := by
  unfold queueNotice; split <;> rfl
@[simp] theorem queueNotice_line (n : Notice) (s : State) :
    (queueNotice n s).line = s.line := by
  unfold queueNotice; split <;> rfl
@[simp] theorem queueNotice_pfs (n : Notice) (s : State) :
    (queueNotice n s).pfs = s.pfs := by
  unfold queueNotice; split <;> rfl
@[simp] theorem queueNotice_cpa (n : Notice) (s : State) :
    (queueNotice n s).cpa = s.cpa := by
  unfold queueNotice; split <;> rfl
@[simp] theorem queueNotice_lst (n : Notice) (s : State) :
    (queueNotice n s).lst = s.lst := by
  unfold queueNotice; split <;> rfl
@[simp] theorem queueNotice_bars (n : Notice) (s : State) :
    (queueNotice n s).bars = s.bars := by
  unfold queueNotice; split <;> rfl
@[simp] theorem queueNotice_rls (n : Notice) (s : State) :
    (queueNotice n s).rls = s.rls := by
  unfold queueNotice; split <;> rfl
@[simp] theorem queueNotice_mou (n : Notice) (s : State) :
    (queueNotice n s).mou = s.mou := by
  unfold queueNotice; split <;> rfl
@[simp] theorem queueNotice_htc (n : Notice) (s : State) :
    (queueNotice n s).htc = s.htc := by
  unfold queueNotice; split <;> rfl
@[simp] theorem queueNotice_tnc (n : Notice) (s : State) :
    (queueNotice n s).tnc = s.tnc := by
  unfold queueNotice; split <;> rfl
@[simp] theorem queueNotice_alc (n : Notice) (s : State) :
    (queueNotice n s).alc = s.alc := by
  unfold queueNotice; split <;> rfl
@[simp] theorem queueNotice_choices (n : Notice) (s : State) :
    (queueNotice n s).choices = s.choices := by
  unfold queueNotice; split <;> rfl
@[simp] theorem queueNotice_pending (n : Notice) (s : State) :
    (queueNotice n s).pending = s.pending := by
  unfold queueNotice; split <;> rfl

@[simp] theorem serve_lrx (src : AlertSource) (s : State) :
    (serve src s).lrx = s.lrx := by
  simp [serve]
@[simp] theorem serve_cmuSlot (src : AlertSource) (s : State) :
    (serve src s).cmuSlot = s.cmuSlot := by
  simp [serve]
@[simp] theorem serve_line (src : AlertSource) (s : State) :
    (serve src s).line = s.line := by
  simp [serve]
@[simp] theorem serve_pfs (src : AlertSource) (s : State) :
    (serve src s).pfs = s.pfs := by
  simp [serve]
@[simp] theorem serve_cpa (src : AlertSource) (s : State) :
    (serve src s).cpa = s.cpa := by
  simp [serve]
@[simp] theorem serve_lst (src : AlertSource) (s : State) :
    (serve src s).lst = s.lst := by
  simp [serve]
@[simp] theorem serve_bars (src : AlertSource) (s : State) :
    (serve src s).bars = s.bars := by
  simp [serve]
@[simp] theorem serve_rls (src : AlertSource) (s : State) :
    (serve src s).rls = s.rls := by
  simp [serve]
@[simp] theorem serve_mou (src : AlertSource) (s : State) :
    (serve src s).mou = s.mou := by
  simp [serve]
@[simp] theorem serve_htc (src : AlertSource) (s : State) :
    (serve src s).htc = s.htc := by
  simp [serve]
@[simp] theorem serve_tnc (src : AlertSource) (s : State) :
    (serve src s).tnc = s.tnc := by
  simp [serve]
@[simp] theorem serve_choices (src : AlertSource) (s : State) :
    (serve src s).choices = s.choices := by
  simp [serve]
@[simp] theorem serve_pending (src : AlertSource) (s : State) :
    (serve src s).pending = s.pending := by
  simp [serve]

@[simp] theorem evaluateRounds_lrx (n : Nat) (s : State) :
    (evaluateRounds n s).lrx = s.lrx := by
  induction n generalizing s with
  | zero => rfl
  | succ n ih =>
    simp only [evaluateRounds]
    split
    · rfl
    · rw [ih, serve_lrx]
@[simp] theorem evaluateRounds_cmuSlot (n : Nat) (s : State) :
    (evaluateRounds n s).cmuSlot = s.cmuSlot := by
  induction n generalizing s with
  | zero => rfl
  | succ n ih =>
    simp only [evaluateRounds]
    split
    · rfl
    · rw [ih, serve_cmuSlot]
@[simp] theorem evaluateRounds_line (n : Nat) (s : State) :
    (evaluateRounds n s).line = s.line := by
  induction n generalizing s with
  | zero => rfl
  | succ n ih =>
    simp only [evaluateRounds]
    split
    · rfl
    · rw [ih, serve_line]
@[simp] theorem evaluateRounds_pfs (n : Nat) (s : State) :
    (evaluateRounds n s).pfs = s.pfs := by
  induction n generalizing s with
  | zero => rfl
  | succ n ih =>
    simp only [evaluateRounds]
    split
    · rfl
    · rw [ih, serve_pfs]
@[simp] theorem evaluateRounds_cpa (n : Nat) (s : State) :
    (evaluateRounds n s).cpa = s.cpa := by
  induction n generalizing s with
  | zero => rfl
  | succ n ih =>
    simp only [evaluateRounds]
    split
    · rfl
    · rw [ih, serve_cpa]
@[simp] theorem evaluateRounds_lst (n : Nat) (s : State) :
    (evaluateRounds n s).lst = s.lst := by
  induction n generalizing s with
  | zero => rfl
  | succ n ih =>
    simp only [evaluateRounds]
    split
    · rfl
    · rw [ih, serve_lst]
@[simp] theorem evaluateRounds_bars (n : Nat) (s : State) :
    (evaluateRounds n s).bars = s.bars := by
  induction n generalizing s with
  | zero => rfl
  | succ n ih =>
    simp only [evaluateRounds]
    split
    · rfl
    · rw [ih, serve_bars]
@[simp] theorem evaluateRounds_rls (n : Nat) (s : State) :
    (evaluateRounds n s).rls = s.rls := by
  induction n generalizing s with
  | zero => rfl
  | succ n ih =>
    simp only [evaluateRounds]
    split
    · rfl
    · rw [ih, serve_rls]
@[simp] theorem evaluateRounds_mou (n : Nat) (s : State) :
    (evaluateRounds n s).mou = s.mou := by
  induction n generalizing s with
  | zero => rfl
  | succ n ih =>
    simp only [evaluateRounds]
    split
    · rfl
    · rw [ih, serve_mou]
@[simp] theorem evaluateRounds_htc (n : Nat) (s : State) :
    (evaluateRounds n s).htc = s.htc := by
  induction n generalizing s with
  | zero => rfl
  | succ n ih =>
    simp only [evaluateRounds]
    split
    · rfl
    · rw [ih, serve_htc]
@[simp] theorem evaluateRounds_tnc (n : Nat) (s : State) :
    (evaluateRounds n s).tnc = s.tnc := by
  induction n generalizing s with
  | zero => rfl
  | succ n ih =>
    simp only [evaluateRounds]
    split
    · rfl
    · rw [ih, serve_tnc]
@[simp] theorem evaluateRounds_choices (n : Nat) (s : State) :
    (evaluateRounds n s).choices = s.choices := by
  induction n generalizing s with
  | zero => rfl
  | succ n ih =>
    simp only [evaluateRounds]
    split
    · rfl
    · rw [ih, serve_choices]
@[simp] theorem evaluateRounds_pending (n : Nat) (s : State) :
    (evaluateRounds n s).pending = s.pending := by
  induction n generalizing s with
  | zero => rfl
  | succ n ih =>
    simp only [evaluateRounds]
    split
    · rfl
    · rw [ih, serve_pending]

@[simp] theorem evaluate_lrx (s : State) :
    (evaluate s).lrx = s.lrx := by
  simp [evaluate]
@[simp] theorem evaluate_cmuSlot (s : State) :
    (evaluate s).cmuSlot = s.cmuSlot := by
  simp [evaluate]
@[simp] theorem evaluate_line (s : State) :
    (evaluate s).line = s.line := by
  simp [evaluate]
@[simp] theorem evaluate_pfs (s : State) :
    (evaluate s).pfs = s.pfs := by
  simp [evaluate]
@[simp] theorem evaluate_cpa (s : State) :
    (evaluate s).cpa = s.cpa := by
  simp [evaluate]
@[simp] theorem evaluate_lst (s : State) :
    (evaluate s).lst = s.lst := by
  simp [evaluate]
@[simp] theorem evaluate_bars (s : State) :
    (evaluate s).bars = s.bars := by
  simp [evaluate]
@[simp] theorem evaluate_rls (s : State) :
    (evaluate s).rls = s.rls := by
  simp [evaluate]
@[simp] theorem evaluate_mou (s : State) :
    (evaluate s).mou = s.mou := by
  simp [evaluate]
@[simp] theorem evaluate_htc (s : State) :
    (evaluate s).htc = s.htc := by
  simp [evaluate]
@[simp] theorem evaluate_tnc (s : State) :
    (evaluate s).tnc = s.tnc := by
  simp [evaluate]
@[simp] theorem evaluate_choices (s : State) :
    (evaluate s).choices = s.choices := by
  simp [evaluate]
@[simp] theorem evaluate_pending (s : State) :
    (evaluate s).pending = s.pending := by
  simp [evaluate]

@[simp] theorem logAndEvaluate_lrx (s : State) :
    (logAndEvaluate s).lrx = s.lrx := by
  simp only [logAndEvaluate]; split <;> simp
@[simp] theorem logAndEvaluate_cmuSlot (s : State) :
    (logAndEvaluate s).cmuSlot = s.cmuSlot := by
  simp only [logAndEvaluate]; split <;> simp
@[simp] theorem logAndEvaluate_line (s : State) :
    (logAndEvaluate s).line = s.line := by
  simp only [logAndEvaluate]; split <;> simp
@[simp] theorem logAndEvaluate_pfs (s : State) :
    (logAndEvaluate s).pfs = s.pfs := by
  simp only [logAndEvaluate]; split <;> simp
@[simp] theorem logAndEvaluate_cpa (s : State) :
    (logAndEvaluate s).cpa = s.cpa := by
  simp only [logAndEvaluate]; split <;> simp
@[simp] theorem logAndEvaluate_lst (s : State) :
    (logAndEvaluate s).lst = s.lst := by
  simp only [logAndEvaluate]; split <;> simp
@[simp] theorem logAndEvaluate_bars (s : State) :
    (logAndEvaluate s).bars = s.bars := by
  simp only [logAndEvaluate]; split <;> simp
@[simp] theorem logAndEvaluate_rls (s : State) :
    (logAndEvaluate s).rls = s.rls := by
  simp only [logAndEvaluate]; split <;> simp
@[simp] theorem logAndEvaluate_mou (s : State) :
    (logAndEvaluate s).mou = s.mou := by
  simp only [logAndEvaluate]; split <;> simp
@[simp] theorem logAndEvaluate_htc (s : State) :
    (logAndEvaluate s).htc = s.htc := by
  simp only [logAndEvaluate]; split <;> simp
@[simp] theorem logAndEvaluate_tnc (s : State) :
    (logAndEvaluate s).tnc = s.tnc := by
  simp only [logAndEvaluate]; split <;> simp
@[simp] theorem logAndEvaluate_choices (s : State) :
    (logAndEvaluate s).choices = s.choices := by
  simp only [logAndEvaluate]; split <;> simp
@[simp] theorem logAndEvaluate_pending (s : State) :
    (logAndEvaluate s).pending = s.pending := by
  simp only [logAndEvaluate]; split <;> simp

/-! ### Motion and heat -/

@[simp] theorem formSpeed_lrx (s : State) :
    (formSpeed s).lrx = s.lrx := by
  rfl
@[simp] theorem formSpeed_cmuSlot (s : State) :
    (formSpeed s).cmuSlot = s.cmuSlot := by
  rfl
@[simp] theorem formSpeed_ltx (s : State) :
    (formSpeed s).ltx = s.ltx := by
  rfl
@[simp] theorem formSpeed_line (s : State) :
    (formSpeed s).line = s.line := by
  rfl
@[simp] theorem formSpeed_pfs (s : State) :
    (formSpeed s).pfs = s.pfs := by
  rfl
@[simp] theorem formSpeed_cpa (s : State) :
    (formSpeed s).cpa = s.cpa := by
  rfl
@[simp] theorem formSpeed_lst (s : State) :
    (formSpeed s).lst = s.lst := by
  rfl
@[simp] theorem formSpeed_bars (s : State) :
    (formSpeed s).bars = s.bars := by
  rfl
@[simp] theorem formSpeed_rls (s : State) :
    (formSpeed s).rls = s.rls := by
  rfl
@[simp] theorem formSpeed_htc (s : State) :
    (formSpeed s).htc = s.htc := by
  rfl
@[simp] theorem formSpeed_tnc (s : State) :
    (formSpeed s).tnc = s.tnc := by
  rfl
@[simp] theorem formSpeed_alc (s : State) :
    (formSpeed s).alc = s.alc := by
  rfl
@[simp] theorem formSpeed_choices (s : State) :
    (formSpeed s).choices = s.choices := by
  rfl
@[simp] theorem formSpeed_pending (s : State) :
    (formSpeed s).pending = s.pending := by
  rfl

@[simp] theorem formHeat_lrx (s : State) :
    (formHeat s).lrx = s.lrx := by
  rfl
@[simp] theorem formHeat_cmuSlot (s : State) :
    (formHeat s).cmuSlot = s.cmuSlot := by
  rfl
@[simp] theorem formHeat_ltx (s : State) :
    (formHeat s).ltx = s.ltx := by
  rfl
@[simp] theorem formHeat_line (s : State) :
    (formHeat s).line = s.line := by
  rfl
@[simp] theorem formHeat_pfs (s : State) :
    (formHeat s).pfs = s.pfs := by
  rfl
@[simp] theorem formHeat_cpa (s : State) :
    (formHeat s).cpa = s.cpa := by
  rfl
@[simp] theorem formHeat_lst (s : State) :
    (formHeat s).lst = s.lst := by
  rfl
@[simp] theorem formHeat_bars (s : State) :
    (formHeat s).bars = s.bars := by
  rfl
@[simp] theorem formHeat_rls (s : State) :
    (formHeat s).rls = s.rls := by
  rfl
@[simp] theorem formHeat_mou (s : State) :
    (formHeat s).mou = s.mou := by
  rfl
@[simp] theorem formHeat_tnc (s : State) :
    (formHeat s).tnc = s.tnc := by
  rfl
@[simp] theorem formHeat_alc (s : State) :
    (formHeat s).alc = s.alc := by
  rfl
@[simp] theorem formHeat_choices (s : State) :
    (formHeat s).choices = s.choices := by
  rfl
@[simp] theorem formHeat_pending (s : State) :
    (formHeat s).pending = s.pending := by
  rfl

@[simp] theorem enterMode_cmuSlot (m : LineMode) (s : State) :
    (enterMode m s).cmuSlot = s.cmuSlot := by
  rfl
@[simp] theorem enterMode_ltx (m : LineMode) (s : State) :
    (enterMode m s).ltx = s.ltx := by
  rfl
@[simp] theorem enterMode_line (m : LineMode) (s : State) :
    (enterMode m s).line = s.line := by
  rfl
@[simp] theorem enterMode_pfs (m : LineMode) (s : State) :
    (enterMode m s).pfs = s.pfs := by
  rfl
@[simp] theorem enterMode_cpa (m : LineMode) (s : State) :
    (enterMode m s).cpa = s.cpa := by
  rfl
@[simp] theorem enterMode_lst (m : LineMode) (s : State) :
    (enterMode m s).lst = s.lst := by
  rfl
@[simp] theorem enterMode_bars (m : LineMode) (s : State) :
    (enterMode m s).bars = s.bars := by
  rfl
@[simp] theorem enterMode_rls (m : LineMode) (s : State) :
    (enterMode m s).rls = s.rls := by
  rfl
@[simp] theorem enterMode_tnc (m : LineMode) (s : State) :
    (enterMode m s).tnc = s.tnc := by
  rfl
@[simp] theorem enterMode_alc (m : LineMode) (s : State) :
    (enterMode m s).alc = s.alc := by
  rfl
@[simp] theorem enterMode_choices (m : LineMode) (s : State) :
    (enterMode m s).choices = s.choices := by
  rfl
@[simp] theorem enterMode_pending (m : LineMode) (s : State) :
    (enterMode m s).pending = s.pending := by
  rfl

@[simp] theorem enterStopping_cmuSlot (cause : StopCause) (s : State) :
    (enterStopping cause s).cmuSlot = s.cmuSlot := by
  simp only [enterStopping]; split <;> rfl
@[simp] theorem enterStopping_ltx (cause : StopCause) (s : State) :
    (enterStopping cause s).ltx = s.ltx := by
  simp only [enterStopping]; split <;> rfl
@[simp] theorem enterStopping_line (cause : StopCause) (s : State) :
    (enterStopping cause s).line = s.line := by
  simp only [enterStopping]; split <;> rfl
@[simp] theorem enterStopping_pfs (cause : StopCause) (s : State) :
    (enterStopping cause s).pfs = s.pfs := by
  simp only [enterStopping]; split <;> rfl
@[simp] theorem enterStopping_cpa (cause : StopCause) (s : State) :
    (enterStopping cause s).cpa = s.cpa := by
  simp only [enterStopping]; split <;> rfl
@[simp] theorem enterStopping_lst (cause : StopCause) (s : State) :
    (enterStopping cause s).lst = s.lst := by
  simp only [enterStopping]; split <;> rfl
@[simp] theorem enterStopping_bars (cause : StopCause) (s : State) :
    (enterStopping cause s).bars = s.bars := by
  simp only [enterStopping]; split <;> rfl
@[simp] theorem enterStopping_tnc (cause : StopCause) (s : State) :
    (enterStopping cause s).tnc = s.tnc := by
  simp only [enterStopping]; split <;> rfl
@[simp] theorem enterStopping_alc (cause : StopCause) (s : State) :
    (enterStopping cause s).alc = s.alc := by
  simp only [enterStopping]; split <;> rfl
@[simp] theorem enterStopping_choices (cause : StopCause) (s : State) :
    (enterStopping cause s).choices = s.choices := by
  simp only [enterStopping]; split <;> rfl
@[simp] theorem enterStopping_pending (cause : StopCause) (s : State) :
    (enterStopping cause s).pending = s.pending := by
  simp only [enterStopping]; split <;> rfl

@[simp] theorem stopReaction_cmuSlot (s : State) :
    (stopReaction s).cmuSlot = s.cmuSlot := by
  unfold stopReaction; split <;> simp
@[simp] theorem stopReaction_ltx (s : State) :
    (stopReaction s).ltx = s.ltx := by
  unfold stopReaction; split <;> simp
@[simp] theorem stopReaction_line (s : State) :
    (stopReaction s).line = s.line := by
  unfold stopReaction; split <;> simp
@[simp] theorem stopReaction_pfs (s : State) :
    (stopReaction s).pfs = s.pfs := by
  unfold stopReaction; split <;> simp
@[simp] theorem stopReaction_cpa (s : State) :
    (stopReaction s).cpa = s.cpa := by
  unfold stopReaction; split <;> simp
@[simp] theorem stopReaction_lst (s : State) :
    (stopReaction s).lst = s.lst := by
  unfold stopReaction; split <;> simp
@[simp] theorem stopReaction_bars (s : State) :
    (stopReaction s).bars = s.bars := by
  unfold stopReaction; split <;> simp
@[simp] theorem stopReaction_tnc (s : State) :
    (stopReaction s).tnc = s.tnc := by
  unfold stopReaction; split <;> simp
@[simp] theorem stopReaction_alc (s : State) :
    (stopReaction s).alc = s.alc := by
  unfold stopReaction; split <;> simp
@[simp] theorem stopReaction_choices (s : State) :
    (stopReaction s).choices = s.choices := by
  unfold stopReaction; split <;> simp
@[simp] theorem stopReaction_pending (s : State) :
    (stopReaction s).pending = s.pending := by
  unfold stopReaction; split <;> simp

@[simp] theorem handReaction_cmuSlot (s : State) :
    (handReaction s).cmuSlot = s.cmuSlot := by
  simp only [handReaction]; split
  · rfl
  · simp only [formHeat_cmuSlot, formSpeed_cmuSlot]; split <;> simp
@[simp] theorem handReaction_ltx (s : State) :
    (handReaction s).ltx = s.ltx := by
  simp only [handReaction]; split
  · rfl
  · simp only [formHeat_ltx, formSpeed_ltx]; split <;> simp
@[simp] theorem handReaction_line (s : State) :
    (handReaction s).line = s.line := by
  simp only [handReaction]; split
  · rfl
  · simp only [formHeat_line, formSpeed_line]; split <;> simp
@[simp] theorem handReaction_pfs (s : State) :
    (handReaction s).pfs = s.pfs := by
  simp only [handReaction]; split
  · rfl
  · simp only [formHeat_pfs, formSpeed_pfs]; split <;> simp
@[simp] theorem handReaction_cpa (s : State) :
    (handReaction s).cpa = s.cpa := by
  simp only [handReaction]; split
  · rfl
  · simp only [formHeat_cpa, formSpeed_cpa]; split <;> simp
@[simp] theorem handReaction_lst (s : State) :
    (handReaction s).lst = s.lst := by
  simp only [handReaction]; split
  · rfl
  · simp only [formHeat_lst, formSpeed_lst]; split <;> simp
@[simp] theorem handReaction_bars (s : State) :
    (handReaction s).bars = s.bars := by
  simp only [handReaction]; split
  · rfl
  · simp only [formHeat_bars, formSpeed_bars]; split <;> simp
@[simp] theorem handReaction_tnc (s : State) :
    (handReaction s).tnc = s.tnc := by
  simp only [handReaction]; split
  · rfl
  · simp only [formHeat_tnc, formSpeed_tnc]; split <;> simp
@[simp] theorem handReaction_choices (s : State) :
    (handReaction s).choices = s.choices := by
  simp only [handReaction]; split
  · rfl
  · simp only [formHeat_choices, formSpeed_choices]; split <;> simp
@[simp] theorem handReaction_pending (s : State) :
    (handReaction s).pending = s.pending := by
  simp only [handReaction]; split
  · rfl
  · simp only [formHeat_pending, formSpeed_pending]; split <;> simp

/-! ### The transmitter -/

@[simp] theorem ltxChoose_lrx (s : State) :
    (ltxChoose s).lrx = s.lrx := by
  unfold ltxChoose; (repeat' split) <;> rfl
@[simp] theorem ltxChoose_cmuSlot (s : State) :
    (ltxChoose s).cmuSlot = s.cmuSlot := by
  unfold ltxChoose; (repeat' split) <;> rfl
@[simp] theorem ltxChoose_line (s : State) :
    (ltxChoose s).line = s.line := by
  unfold ltxChoose; (repeat' split) <;> rfl
@[simp] theorem ltxChoose_pfs (s : State) :
    (ltxChoose s).pfs = s.pfs := by
  unfold ltxChoose; (repeat' split) <;> rfl
@[simp] theorem ltxChoose_cpa (s : State) :
    (ltxChoose s).cpa = s.cpa := by
  unfold ltxChoose; (repeat' split) <;> rfl
@[simp] theorem ltxChoose_lst (s : State) :
    (ltxChoose s).lst = s.lst := by
  unfold ltxChoose; (repeat' split) <;> rfl
@[simp] theorem ltxChoose_bars (s : State) :
    (ltxChoose s).bars = s.bars := by
  unfold ltxChoose; (repeat' split) <;> rfl
@[simp] theorem ltxChoose_mou (s : State) :
    (ltxChoose s).mou = s.mou := by
  unfold ltxChoose; (repeat' split) <;> rfl
@[simp] theorem ltxChoose_htc (s : State) :
    (ltxChoose s).htc = s.htc := by
  unfold ltxChoose; (repeat' split) <;> rfl
@[simp] theorem ltxChoose_tnc (s : State) :
    (ltxChoose s).tnc = s.tnc := by
  unfold ltxChoose; (repeat' split) <;> rfl
@[simp] theorem ltxChoose_alc (s : State) :
    (ltxChoose s).alc = s.alc := by
  unfold ltxChoose; (repeat' split) <;> rfl
@[simp] theorem ltxChoose_choices (s : State) :
    (ltxChoose s).choices = s.choices := by
  unfold ltxChoose; (repeat' split) <;> rfl
@[simp] theorem ltxChoose_pending (s : State) :
    (ltxChoose s).pending = s.pending := by
  unfold ltxChoose; (repeat' split) <;> rfl

@[simp] theorem settle_cmuSlot (s : State) :
    (settle s).cmuSlot = s.cmuSlot := by
  simp [settle]
@[simp] theorem settle_line (s : State) :
    (settle s).line = s.line := by
  simp [settle]
@[simp] theorem settle_pfs (s : State) :
    (settle s).pfs = s.pfs := by
  simp [settle]
@[simp] theorem settle_cpa (s : State) :
    (settle s).cpa = s.cpa := by
  simp [settle]
@[simp] theorem settle_lst (s : State) :
    (settle s).lst = s.lst := by
  simp [settle]
@[simp] theorem settle_bars (s : State) :
    (settle s).bars = s.bars := by
  simp [settle]
@[simp] theorem settle_tnc (s : State) :
    (settle s).tnc = s.tnc := by
  simp [settle]
@[simp] theorem settle_choices (s : State) :
    (settle s).choices = s.choices := by
  simp [settle]
@[simp] theorem settle_pending (s : State) :
    (settle s).pending = s.pending := by
  simp [settle]

end Sys2Proof.Machine
end

