-- ==== Sys2Proof/Laws/Quiet.lean ====
section
/-! SUPPORT. Events that leave nothing over: what `settle` comes to in a quiet state, and what an execution comes to in
a state in which CMU executes a control frame at once (R5, R6, R14, R173, R177, R183). -/

namespace Sys2Proof.Machine

/-- With no source newly pending there is nothing to log (R173). -/
theorem logFresh_nil (a : Alc) (h : a.fresh = []) : logFresh a = a := by
  simp [logFresh, h]

/-- With nothing to log and no evaluation point, the log and the evaluation change nothing (R173, R177). -/
theorem logAndEvaluate_quiet (s : State) (h1 : s.alc.fresh = []) (h2 : s.alc.evalDue = false) :
    logAndEvaluate s = s := by
  have h3 : ({ s.alc with fresh := [], evalDue := false } : Alc) = s.alc := by
    cases h : s.alc
    simp_all
  simp only [logAndEvaluate, h1, h2, List.isEmpty_nil, Bool.not_true, Bool.or_false, Bool.false_eq_true, if_false,
    State.modAlc, logFresh_nil s.alc h1]
  rw [← h1, ← h2] at h3 ⊢
  simp only [State.setAlc]

/-- A reaction that has not changed is not handed on (R183). -/
theorem handReaction_same (s : State) (h : s.alc.reaction = stackReaction s.alc.stack) : handReaction s = s := by
  simp [handReaction, h]

/-- An event that raises nothing and is no evaluation point ends with LTX's choice alone (R14). -/
theorem settle_eq_choose (s : State) (h1 : s.alc.fresh = []) (h2 : s.alc.evalDue = false)
    (h3 : s.alc.reaction = stackReaction s.alc.stack) : settle s = ltxChoose s := by
  rw [settle, logAndEvaluate_quiet s h1 h2, handReaction_same s h3]

/-- A quiet state is left as it is. -/
theorem settle_quiet (s : State) (h : Quiet s) : settle s = s := by
  rw [settle_eq_choose s h.1 h.2.1 h.2.2.1, h.2.2.2]

/-- LTX has nothing to choose, or is busy (R14, R15). -/
abbrev NothingToChoose (s : State) : Prop :=
  s.ltx.tx ≠ .idle ∨ (s.ltx.answers = [] ∧ flowDue s = none ∧ s.ltx.notices = [] ∧ traceOffer s = none)

/-- When LTX chooses nothing (R14, R15). -/
theorem ltxChoose_eq_self_iff (s : State) : ltxChoose s = s ↔ NothingToChoose s := by
  constructor
  · intro h
    by_cases hi : s.ltx.tx = .idle
    · right
      have h' := congrArg (fun t : State => t.ltx.tx) h
      unfold ltxChoose at h'
      rw [hi] at h'
      revert h'
      simp only
      split
      · simp
      · split
        · simp
        · simp
        · split
          · simp
          · split
            · simp
            · intro _
              simp_all
    · exact .inl hi
  · rintro (h | ⟨h1, h2, h3, h4⟩)
    · unfold ltxChoose
      split
      · rfl
      · rfl
      · exact absurd ‹_› h
    · unfold ltxChoose
      split <;> simp_all

/-- What LTX chooses from: its own queues, the marks, the line store and the run list. -/
theorem nothingToChoose_congr (s t : State) (h1 : t.ltx = s.ltx) (h2 : t.line = s.line) (h3 : t.lst = s.lst)
    (h4 : t.rls = s.rls) : NothingToChoose t ↔ NothingToChoose s := by
  have hf : flowDue t = flowDue s := by unfold flowDue freeCount; rw [h1, h2, h3]
  have ht : traceOffer t = traceOffer s := by unfold traceOffer; rw [h4]
  simp only [NothingToChoose, h1, hf, ht]

/-- A change that touches neither ALC, LTX, the marks, the line store nor the run list keeps a state quiet. -/
theorem quiet_congr (s t : State) (h0 : t.alc = s.alc) (h1 : t.ltx = s.ltx) (h2 : t.line = s.line)
    (h3 : t.lst = s.lst) (h4 : t.rls = s.rls) (h : Quiet s) : Quiet t := by
  refine ⟨by rw [h0]; exact h.1, by rw [h0]; exact h.2.1, by rw [h0]; exact h.2.2.1, ?_⟩
  rw [ltxChoose_eq_self_iff, nothingToChoose_congr s t h1 h2 h3 h4, ← ltxChoose_eq_self_iff]
  exact h.2.2.2

/-- A control frame in a state that executes it at once (R5, R6). -/
theorem takeControl_canExecute (f : Frame) (s : State) (h : CanExecute s) :
    takeControl f s = settle (startExecution f (s.modLrx fun l => { l with execute := some f })) := by
  obtain ⟨hq, hc, he, hi, -, -⟩ := h
  have h1 : intakeFrame f s = s.modLrx fun l => { l with execute := some f } := by
    simp [intakeFrame, hi, he]
  have h2 : Quiet (s.modLrx fun l => { l with execute := some f }) :=
    quiet_congr s _ rfl rfl rfl rfl rfl hq
  simp [takeControl, h1, settle_quiet _ h2, he, runExecute, hc]

/-- An answer that joins the queue at the end of an otherwise quiet event (R14, R16). -/
theorem settle_queueAnswer (a : Answer) (s : State) (h : Quiet s) : settle (queueAnswer a s) = deliver a s := by
  rw [settle_eq_choose (queueAnswer a s) h.1 h.2.1 h.2.2.1]
  have hn := (ltxChoose_eq_self_iff s).mp h.2.2.2
  unfold deliver
  split
  · rename_i hi
    rcases hn with hn | ⟨ha, -, -, -⟩
    · exact absurd hi hn
    · simp [ltxChoose, queueAnswer, hi, ha, State.setLtx]
  · rename_i hi
    simp [ltxChoose, queueAnswer, hi, State.setLtx]
  · rename_i hi
    simp [ltxChoose, queueAnswer, hi, State.setLtx]

end Sys2Proof.Machine
end

