-- ==== Sys2Proof/Laws/Execution.lean ====
section
/-! SUPPORT. What CMU makes of a request in a state that executes it at once (R5, R6, R21, R30): the checks do not see
CMU's own buffers, and an execution that raises nothing comes to its effect and its answer. The form step is a
hypothesis here: that the frame reads back is the round trip's matter. -/

namespace Sys2Proof.Machine

/-- The state CMU works on: the frame in the execute buffer and a slot held (R6). -/
def executing (tag : Tag) (r : Request) (s : State) : State :=
  (s.modLrx fun l => { l with execute := some (requestFrame tag r) }).setCmuSlot true

/-- The mode step does not depend on CMU's buffers (R26). -/
@[simp] theorem modeOk_executing (tag : Tag) (r q : Request) (s : State) :
    modeOk (executing tag r s) q = modeOk s q := by
  cases q <;> rfl

/-- The object step does not depend on CMU's buffers (R27). -/
@[simp] theorem objectCheck_executing (tag : Tag) (r q : Request) (s : State) :
    objectCheck (executing tag r s) q = objectCheck s q := by
  cases q <;> rfl

/-- The checks do not depend on CMU's buffers (R21). -/
@[simp] theorem refusal_executing (tag : Tag) (r q : Request) (s : State) :
    refusal (executing tag r s) q = refusal s q := by
  simp [refusal]

/-- An idle transmitter between events has no answer waiting (R14). -/
theorem quiet_answers (s : State) (h : Quiet s) : s.ltx.tx ≠ .idle ∨ s.ltx.answers = [] := by
  rcases (ltxChoose_eq_self_iff s).mp h.2.2.2 with h1 | h1
  · exact .inl h1
  · exact .inr h1.1

/-- The transmitter's choice with one more answer queued is its delivery (R14, R16). -/
theorem ltxChoose_queueAnswer (a : Answer) (s : State) (h : s.ltx.tx ≠ .idle ∨ s.ltx.answers = []) :
    ltxChoose (queueAnswer a s) = deliver a s := by
  unfold deliver
  split
  · rename_i hi
    rcases h with hn | ha
    · exact absurd hi hn
    · simp [ltxChoose, queueAnswer, hi, ha, State.setLtx]
  all_goals
    rename_i hi
    simp [ltxChoose, queueAnswer, hi, State.setLtx]

/-- Putting the buffers and the slot back undoes taking the frame (R6). -/
theorem advanceBuffers_executing (tag : Tag) (r : Request) (s : State) (h : CanExecute s) :
    advanceBuffers ((executing tag r s).setCmuSlot false) = s := by
  obtain ⟨-, -, he, hi, hc, -⟩ := h
  cases s with
  | mk lrx cmuSlot _ _ _ _ _ _ _ _ _ _ _ _ _ =>
    cases lrx
    simp_all [advanceBuffers, executing, State.modLrx, State.setCmuSlot, State.setLrx]

/-- A request that reads back and passes its checks, whose execution answers at once and leaves ALC quiet and LTX alone,
comes to its effect and the delivery of its answer (R6, R21, R30). -/
theorem takeControl_accepted (tag : Tag) (r : Request) (s s1 : State) (code : AnswerCode) (detail : Nat)
    (reply : List Byte) (h : CanExecute s) (hread : readRequest (requestFrame tag r) = some r)
    (hchecks : refusal s r = none) (hperform : perform r (executing tag r s) = (s1, .answer code detail reply))
    (hfresh : s1.alc.fresh = []) (hdue : s1.alc.evalDue = false)
    (hreaction : s1.alc.reaction = stackReaction s1.alc.stack) (hltx : s1.ltx = s.ltx) :
    takeControl (requestFrame tag r) s
      = deliver (answerTo tag r code detail reply) (advanceBuffers (s1.setCmuSlot false)) := by
  have hs : slotFree (s.modLrx fun l => { l with execute := some (requestFrame tag r) }) = true := h.2.2.2.2.2
  have he : executeFrame (requestFrame tag r) (executing tag r s) = (s1, .answer code detail reply) := by
    simp [executeFrame, hread, hchecks, hperform]
  have h1 : startExecution (requestFrame tag r) (s.modLrx fun l => { l with execute := some (requestFrame tag r) })
      = finishExecution (requestFrame tag r) code detail reply s1 := by
    unfold startExecution
    rw [hs, if_pos rfl]
    unfold executing at he
    rw [he]
  rw [takeControl_canExecute _ s h, h1,
    settle_eq_choose (finishExecution (requestFrame tag r) code detail reply s1) hfresh hdue hreaction]
  exact ltxChoose_queueAnswer (answerTo tag r code detail reply) (advanceBuffers (s1.setCmuSlot false)) (by
    show s1.ltx.tx ≠ .idle ∨ s1.ltx.answers = []
    rw [hltx]
    exact quiet_answers s h.1)

end Sys2Proof.Machine
end

