-- ==== Sys2Proof/Laws/RunList.lean ====
section
/-! SUPPORT. What the operations on the run list do: looking a record up by its tag, changing one record and the
records behind one. -/

namespace Sys2Proof.Machine

/-- A record found has the tag it was looked up by, and is in the list. -/
theorem findSeg_some {t : Tag} {l : List Segment} {r : Segment} (h : findSeg t l = some r) : r.tag = t ∧ r ∈ l :=
  ⟨by simpa using List.find?_some h, List.mem_of_find?_eq_some h⟩

/-- No record is found exactly if no record has the tag. -/
theorem findSeg_none {t : Tag} {l : List Segment} : findSeg t l = none ↔ ∀ r ∈ l, r.tag ≠ t := by
  simp [findSeg, List.find?_eq_none]

/-- With no two records of one tag, the record with a tag is the one found. -/
theorem findSeg_of_mem {l : List Segment} (hn : (l.map Segment.tag).Nodup) {r : Segment} (h : r ∈ l) :
    findSeg r.tag l = some r := by
  induction l with
  | nil => cases h
  | cons x xs ih =>
    simp only [List.map_cons, List.nodup_cons] at hn
    rcases List.mem_cons.mp h with rfl | hx
    · simp [findSeg]
    · have hne : x.tag ≠ r.tag := fun e => hn.1 (e ▸ List.mem_map_of_mem hx)
      have := ih hn.2 hx
      simpa [findSeg, hne] using this

/-- A change of one record keeps the list's length. -/
@[simp] theorem modSeg_length (t : Tag) (f : Segment → Segment) (l : List Segment) :
    (modSeg t f l).length = l.length := by
  simp [modSeg]

/-- A change that keeps tags keeps the list of tags, and so their order and their being different. -/
theorem modSeg_tags (t : Tag) (f : Segment → Segment) (l : List Segment) (h : ∀ r, (f r).tag = r.tag) :
    (modSeg t f l).map Segment.tag = l.map Segment.tag := by
  simp only [modSeg, List.map_map]
  apply List.map_congr_left
  intro r _
  by_cases hr : r.tag = t <;> simp [hr, h]

/-- The records after a change of one: the changed one and the others as they were. -/
theorem mem_modSeg {t : Tag} {f : Segment → Segment} {l : List Segment} {r : Segment} :
    r ∈ modSeg t f l ↔ ∃ x ∈ l, (x.tag = t ∧ r = f x) ∨ (x.tag ≠ t ∧ r = x) := by
  simp only [modSeg, List.mem_map]
  constructor
  · rintro ⟨x, hx, rfl⟩
    by_cases ht : x.tag = t
    · exact ⟨x, hx, .inl ⟨ht, if_pos ht⟩⟩
    · exact ⟨x, hx, .inr ⟨ht, if_neg ht⟩⟩
  · rintro ⟨x, hx, ⟨ht, rfl⟩ | ⟨ht, rfl⟩⟩
    · exact ⟨x, hx, if_pos ht⟩
    · exact ⟨_, hx, if_neg ht⟩

/-- A change of one record that keeps tags is what a look-up of that tag sees. -/
theorem findSeg_modSeg_same (t : Tag) (f : Segment → Segment) (l : List Segment) (h : ∀ r, (f r).tag = r.tag) :
    findSeg t (modSeg t f l) = (findSeg t l).map f := by
  induction l with
  | nil => rfl
  | cons x xs ih =>
    by_cases hx : x.tag = t
    · simp [findSeg, modSeg, hx, h]
    · simp only [findSeg, modSeg, List.map_cons, hx, if_false] at ih ⊢
      simpa [List.find?_cons, hx] using ih

/-- A look-up of another tag sees no change. -/
theorem findSeg_modSeg_other (t u : Tag) (f : Segment → Segment) (l : List Segment) (h : ∀ r, (f r).tag = r.tag)
    (htu : u ≠ t) : findSeg u (modSeg t f l) = findSeg u l := by
  induction l with
  | nil => rfl
  | cons x xs ih =>
    by_cases hx : x.tag = t
    · have hu : (f x).tag ≠ u := by rw [h, hx]; exact Ne.symm htu
      have hu' : x.tag ≠ u := by rw [hx]; exact Ne.symm htu
      simp only [findSeg, modSeg, List.map_cons, hx, if_true] at ih ⊢
      simpa [List.find?_cons, hu, hu'] using ih
    · simp only [findSeg, modSeg, List.map_cons, hx, if_false] at ih ⊢
      by_cases hu : x.tag = u <;> simp_all

/-- The records behind one are a tail of the list. -/
theorem segsAfter_suffix (t : Tag) (l : List Segment) : segsAfter t l <:+ l := by
  induction l with
  | nil => exact List.suffix_refl _
  | cons x xs ih =>
    by_cases hx : x.tag = t
    · simp [segsAfter, hx]
    · simpa [segsAfter, hx] using ih.trans (List.suffix_cons x xs)

/-- The oldest FILLING record is one of the list's and is FILLING (R51). -/
theorem oldestFilling_some {l : List Segment} {r : Segment} (h : oldestFilling l = some r) :
    r ∈ l ∧ r.fill = .filling :=
  ⟨List.mem_of_find?_eq_some h, by simpa using List.find?_some h⟩

end Sys2Proof.Machine
end

