-- ==== Sys2Proof/WellFormed.lean ====
section
/-! DEFINITION. Which commands can reach the part: the operands of a command stand for what the lane, the sensors and
the form step can deliver. -/

namespace Sys2Proof

/-- A malformed control frame: one that fails the form step (R22), is no LINE frame, since LINE frames do not enter
the control buffers (R3), and has a payload that the header's length field may state (R1). -/
def malformedWf (f : Frame) : Bool :=
  decide (Machine.readRequest f = none) && decide (f.kind ≠ Machine.kindLine)
    && decide (f.payload.length ≤ Config.maxPayload)

/-- A TABLE body that fits its piece (R23), in a payload that the header's length field may state (R1). -/
def tableWf (piece : Byte) (body : TableBody) : Bool :=
  Machine.tableBodyFits piece body && decide ((Machine.tableBodyBytes body).length + 2 ≤ Config.maxPayload)

/-- A heat entry is absent or a signed 16-bit reading in d°C (section 11.2). -/
def heatEntryWf (e : Option Int) : Bool :=
  match e with
  | none => true
  | some m => decide (-32768 ≤ m) && decide (m ≤ 32767)

/-- A load-cell reading lies in 0..20000 dN, the range that section 5.4 gives (R77). -/
def tensionReadingWf (reading : Nat) : Bool :=
  decide (reading ≤ 20000)

/-- The well-formed commands. Every other command's operands are of the widths the part sees, so any value of them can
arrive. -/
def Instr.wf (i : Instr) : Bool :=
  match i with
  | .malformedControlFrame f => malformedWf f
  | .table _ _ piece body => tableWf piece body
  | .tensionReading _ reading => tensionReadingWf reading
  | .heatSample z0 z1 z2 z3 => heatEntryWf z0 && heatEntryWf z1 && heatEntryWf z2 && heatEntryWf z3
  | .startMark | .dataSymbol _ | .idleFill | .endMark | .abortMark | .lineConfig _ _ | .heatConfig _ _
  | .tensionConfig _ _ | .barConfig _ _ | .alertConfig _ _ _ _ _ | .alertHold _ _ | .alertClear _ | .alertLogReset _
  | .fabricLoad _ _ | .splice _ _ | .profileCommit _ _ | .bankCheckEnd | .profileDiscard _ _
  | .segmentOpen _ _ _ _ _ | .segmentAbort _ _ | .run _ _ | .stop _ | .clearLine _ | .queryCapability _
  | .querySegment _ _ | .queryRunlist _ | .queryBank _ _ | .queryFabric _ _ | .queryZones _ | .queryAlerts _
  | .queryLine _ | .frameSent | .gapEnd | .linkTimeout | .encoderEdge _ _ | .lineSample | .driveFaultInput _
  | .barFaultInput _ _ | .tensionMissingTimeout _ | .heatSampleTimeout | .hardwareReset => true

end Sys2Proof
end

