-- ==== Sys2Proof/Tests/Slice0.lean ====
section
/-! SUPPORT. Tests: ill-formed commands that WellFormed refuses, the spec's worked examples, one small test or two of a
command's event, and for each obligation with hypotheses a witness that meets them. A test's expected values are the
spec's own numbers or hand calculation from its rules. -/

namespace Sys2Proof.Tests

open Sys2Proof Sys2Proof.Machine

set_option Elab.async false

/-! ### Helpers -/

/-- A command goes on to a next state of which P holds. -/
def ends (o : Host.Outcome State Fault Refusal) (P : State → Prop) : Prop :=
  ∃ t, o = .next t ∧ P t

/-- The same, evaluated. -/
def endsBool (o : Host.Outcome State Fault Refusal) (P : State → Prop) [DecidablePred P] : Bool :=
  match o with
  | .next t => decide (P t)
  | .fault _ => false
  | .refused _ => false

theorem ends_of {o : Host.Outcome State Fault Refusal} {P : State → Prop} [DecidablePred P]
    (h : endsBool o P = true) : ends o P := by
  cases o with
  | next t => exact ⟨t, rfl, of_decide_eq_true h⟩
  | fault e => cases h
  | refused e => cases h

/-- A step of which a next state comes. -/
theorem next_of {o : Host.Outcome State Fault Refusal} (h : endsBool o (fun _ => True) = true) : ∃ t, o = .next t := by
  obtain ⟨t, e, -⟩ := ends_of h
  exact ⟨t, e⟩

/-- A LINE frame in reception is an accepted one. -/
def accepted : LineRx → Bool
  | .accepted _ _ _ _ _ => true
  | .undecided | .refused _ | .dropped => false

theorem not_accepted {l : LineRx} (h : accepted l = false) :
    ∀ seg line offset count slot, l ≠ .accepted seg line offset count slot := by
  intro _ _ _ _ _ e
  rw [e] at h
  cases h

theorem for_all_sources {p : AlertSource → Prop} (h : ∀ src ∈ AlertSource.all, p src) : ∀ src, p src := by
  intro src
  exact h src (by cases src <;> decide)

/-- The transmitter sends the answer to a request with a code and a detail, without a reply. -/
abbrev Answers (s : State) (tag : Tag) (r : Request) (code : AnswerCode) (detail : Nat) : Prop :=
  s.ltx.tx = .sending .answer (upFrame 0x81 0 tag (answerPayload (answerTo tag r code detail [])))

/-! ### States -/

/-- A header piece. -/
def header1 : Header where
  nominal := 1900
  tolerance := 60
  minDwell := 1000
  inkLimit := 7000
  name := ⟨1, 2, 3, 4, 5, 6, 7, 8⟩
  check := 0

/-- A complete piece set with every value 700. -/
def allPieces (h : Header) : List (Nat × Piece) :=
  (List.range 122).map fun i => (i, if i = 121 then .header h else .values (List.replicate (pieceValues i) 700))

/-- A bank of a state with the complete piece set. -/
def fullBank (state : BankState) (count : Nat) (check : Nat) : Bank where
  state := state
  count := count
  pieces := allPieces { header1 with check := check }

/-- A profile store with slot 0 given and no check. -/
def storeWith (a b : Bank) : Pfs where
  slots := State.reset.pfs.slots.set 0 { a := a, b := b }
  check := none

/-- A fabric record. -/
def fabric1 : Fabric where
  code := ⟨1, 1, 1, 1, 1, 1, 1, 1⟩
  unwind := 1000
  rewind := 800
  compliance := 100
  maxTemp := 2300

/-- The tension controller with fabric slot 0 valid, bound `segs` times, and slot 1 valid. -/
def fabrics1 (segs : Nat) (source : Option Tag) : Tnc where
  fabrics := (Tnc.reset.fabrics.set 0 { record := some fabric1, segs := segs }).set 1
    { record := some { fabric1 with unwind := 2000 }, segs := 0 }
  intake := some 0
  source := source
  tension := some 0
  taper := none
  zones := Tnc.reset.zones
  group := Tnc.reset.group

/-- A record of 64 pixels and 2 lines, 2 counts long, starting at 100, with slot 0, bank A and fabric slot 0 bound. -/
def record1 : Segment where
  tag := 7
  width := 64
  lines := 2
  gap := 0
  start := 100
  pitch := 65536
  length := 2
  slot := 0
  bank := .a
  grade := 0
  needed := 1900
  tolerance := 60
  minDwell := 1000
  fabric := 0
  stretch := 10000
  fill := .sealed
  print := .printed
  calender := .inArc
  printedBy := #v[true, true, true, true, true, true]
  lost := 0
  flags := Flags.none
  traceSent := false
  dwell := some 0

/-- The same record while it waits and is filled. -/
def record0 : Segment :=
  { record1 with
    fill := .filling, print := .waiting, calender := .approach, printedBy := Vector.replicate 6 false, dwell := none }

/-- A context of a link timeout. -/
def ctx0 : Context where
  seg := none
  unit := none
  link := some { subcode := .timeout, kind := 0, tag := 0 }
  p := 90
  measured := 0

/-- The line group of the tests: 64 pixels, one count per line, the nip 10 counts after bar 1, an arc of 20 counts. -/
def line1 : LineGroup :=
  { LineGroup.reset with width := 64, nipDist := 10, arcLen := 20 }

/-- The motion unit in a mode at P = `p`. -/
def motion (mode : LineMode) (p requested target reference : Nat) : Mou where
  p := p
  pLast := p
  mode := mode
  nipClosed := decide (mode = .run)
  requested := requested
  cause := .directive
  target := target
  reference := reference
  speed := 0
  encA := false
  encB := false
  driveFault := false

/-- A stack entry of LINK_LOST. -/
def lostEntry : StackEntry where
  source := .linkLost
  level := 2
  grade := .slow
  merge := 1
  ctx := ctx0

/-- A line in RUN at P = 115 with one record in the arc. LINK_LOST is on the stack, so that SLOW is in force. -/
def running : State where
  lrx := { Lrx.reset with timer := some 500 }
  cmuSlot := false
  ltx := Ltx.reset
  line := line1
  pfs := storeWith (fullBank .active 1 0) Bank.free
  cpa := none
  lst := []
  bars := State.reset.bars
  rls := [record1]
  mou := motion .run 115 100 10 5
  htc := { Htc.reset with pHigh := 115, target := 1900, band := 60, source := .segment 7 }
  tnc := fabrics1 1 (some 7)
  alc := { Alc.reset with
    stack := [lostEntry], holds := Alc.reset.holds.set 3 true, condCtx := Alc.reset.condCtx.set 3 (some ctx0),
    firstAlert := some (.linkLost, ctx0), reaction := .slow }
  choices := 0
  pending := []

/-- A line in STANDBY at P = 50 with one record that waits to be filled. -/
def filling : State where
  lrx := Lrx.reset
  cmuSlot := false
  ltx := Ltx.reset
  line := line1
  pfs := storeWith (fullBank .active 1 0) Bank.free
  cpa := some { tag := 7, line := 0, pixel := 0 }
  lst := []
  bars := Vector.replicate 6 { state := .active, cursor := some (7, 0), fault := false, port := [] }
  rls := [record0]
  mou := motion .standby 50 0 0 0
  htc := { Htc.reset with pHigh := 50 }
  tnc := fabrics1 1 (some 7)
  alc := Alc.reset
  choices := 0
  pending := []

/-- A line in STANDBY with an ACTIVE profile and an intake fabric, and no record yet. -/
def loaded : State :=
  { filling with
    pfs := storeWith (fullBank .active 0 0) Bank.free, cpa := none, rls := [], tnc := fabrics1 0 none,
    bars := State.reset.bars }

/-- A state with a receiver in reception. -/
def receiving (state : RxState) (header payload trailer : List Byte) (line : LineRx) (s : State) : State :=
  s.setLrx { s.lrx with
    state := state, header := header, payload := payload, trailer := trailer, crc := crcOf (header ++ payload),
    line := line }

/-! ### Ill-formed commands are refused -/

/-- A frame of a kind that no downstream frame has. -/
def unknownFrame : Frame where
  kind := 0x7F
  flags := 0
  tag := 1
  reserved := 0
  payload := []

theorem test_wf_malformed : Instr.wf (.malformedControlFrame unknownFrame) = true := by decide +kernel

theorem test_wf_malformed_refuses_good_form :
    Instr.wf (.malformedControlFrame (requestFrame 1 .stop)) = false := by decide +kernel

theorem test_wf_malformed_refuses_line :
    Instr.wf (.malformedControlFrame { unknownFrame with kind := 0x01 }) = false := by decide +kernel

theorem test_wf_malformed_refuses_long :
    Instr.wf (.malformedControlFrame { unknownFrame with payload := List.replicate 3085 0 }) = false := by
  decide +kernel

theorem test_wf_table_refuses_wrong_count : Instr.wf (.table 1 0 81 (.values (List.replicate 16 0))) = false := by
  decide +kernel

theorem test_wf_table_refuses_long : Instr.wf (.table 1 0 122 (.unchecked (List.replicate 3083 0))) = false := by
  decide +kernel

theorem test_wf_reading_refuses_above_range :
    Instr.wf (.tensionReading .rewind 20000) = true ∧ Instr.wf (.tensionReading .rewind 20001) = false := by
  decide +kernel

theorem test_wf_heat_refuses_above_word :
    Instr.wf (.heatSample (some (-32768)) none none (some 32767)) = true
      ∧ Instr.wf (.heatSample none (some 32768) none none) = false := by decide +kernel

/-! ### The spec's worked examples -/

/-- Chapter 11's running CRC over the CAPABILITY query. -/
theorem test_crc_example :
    crcOf [0x04] = 0xA174 ∧ crcOf [0x04, 0x00] = 0xD1CB
      ∧ crcOf [0x04, 0x00, 0x00, 0x01, 0x00, 0x01, 0x00, 0x00, 0x01] = 0xA7A8 := by decide +kernel

/-- The bytes of that frame on the lane. -/
theorem test_capability_frame :
    downBytes (requestFrame 0x0001 .queryCapability)
      = [0x04, 0x00, 0x00, 0x01, 0x00, 0x01, 0x00, 0x00, 0x01, 0xA7, 0xA8] := by decide +kernel

/-- The payload of its answer. -/
theorem test_capability_answer :
    answerPayload (answerTo 0x0001 .queryCapability .accepted 0 capabilityRecord)
      = [0x04, 0x01, 0x00, 0x00, 0x00, 0x00, 0x00, 0x00, 0x01, 0xCC, 0x01, 0x05, 0x0E, 0x03, 0x04, 0x03, 0x06, 0x04,
         0x03, 0x0D, 0x00, 0x01, 0x2C, 0x00, 0x7A] := by decide +kernel

/-- The six values of one node among nine of a grid piece, at place `k`. -/
def nodeAt (k : Nat) (vs : List Nat) : List Nat :=
  List.replicate (6 * k) 0 ++ vs

/-- The bank of chapter 4's worked example: the corners' nodes, the grade-1 curves and matrix row 5, with ink limit
7,000. -/
def exampleBank : Bank where
  state := .active
  count := 1
  pieces := [
    (56, .values (nodeAt 0 [1000, 3000, 2500, 800, 0, 400] ++ [1100, 3100, 2400, 820, 0, 380])),
    (65, .values (nodeAt 1 [900, 3200, 2600, 900, 0, 350])),
    (87, .values (List.replicate 3 0 ++ [800, 1060])),
    (88, .values (List.replicate 10 0 ++ [2700, 2950])),
    (89, .values (List.replicate 8 0 ++ [2150, 2420])),
    (90, .values (List.replicate 2 0 ++ [560, 820])),
    (91, .values [0, 300]),
    (92, .values [0, 300, 610]),
    (110, .values [3100, 0, 0, 0, 1900, 0, 0, 0, 700, 0, 0, 0, 300]),
    (121, .header header1)]

theorem test_pixel_interpolation : interpolate exampleBank 200 64 10 = #v[975, 3059, 2525, 829, 0, 385] := by
  decide +kernel

theorem test_pixel_ink_limit :
    limitInk 7000 #v[975, 3059, 2525, 829, 0, 385] = #v[878, 2754, 2273, 746, 0, 346] := by decide +kernel

theorem test_pixel_yield :
    yieldCurve exampleBank 1 0 878 = 912 ∧ yieldCurve exampleBank 1 1 2754 = 2889
      ∧ yieldCurve exampleBank 1 2 2273 = 2387 ∧ yieldCurve exampleBank 1 5 346 = 409 := by decide +kernel

theorem test_pixel_drops : convertPixel exampleBank 1 37 1000 200 64 10 = #v[1, 3, 1, 1, 0, 1] := by decide +kernel

theorem test_pixel_ends : axisCell 255 = (7, 32) ∧ axisCell 0 = (0, 0) ∧ axisOrder 32 32 32 = (0, 1, 2) := by
  decide +kernel

/-- Section 6.3's pitch, length and positions. -/
theorem test_pitch_example :
    segmentPitch 131072 18000 = 133431 ∧ segmentLength 9600 133431 = 19545
      ∧ segmentPitch 16000000 200000 = 16777215 := by decide +kernel

theorem test_positions_example (g : LineGroup) (r : Segment) (hg : g.offsets = #v[0, 4000, 8000, 12000, 16000, 20000])
    (h1 : g.nipDist = 60000) (h2 : g.arcLen = 47244) (h3 : r.start = 1000000) (h4 : r.pitch = 133431)
    (h5 : r.length = 19545) :
    duePosition g r 0 2 = 1000004 ∧ duePosition g r 0 9599 = 1019543 ∧ duePosition g r 5 9599 = 1039543
      ∧ leadPosition g r = 1060000 ∧ retirePosition g r = 1126789 := by
  simp [duePosition, leadPosition, retirePosition, hg, h1, h2, h3, h4, h5, Config.pitchOne]

/-- Section 5.2's stretch figures. -/
theorem test_stretch_examples :
    stretchOf { fabric1 with compliance := 150, unwind := 1200 } = 18000
      ∧ stretchOf { fabric1 with compliance := 37, unwind := 1005 } = 3718
      ∧ stretchOf { fabric1 with compliance := 900, unwind := 3000 } = 200000 := by decide +kernel

/-- The second taper of section 5.3's example at 2,300 of 10,000 counts. -/
def taper2 : Taper where
  fromUnwind := 1600
  fromRewind := 1300
  newFabric := 2
  prevFabric := 1
  t0 := 555000
  length := 10000
  q := 557300

theorem test_taper_example : interpolated 1600 900 taper2 = 1439 ∧ interpolated 1300 900 taper2 = 1208 := by
  decide +kernel

/-- The loop of a tension zone with Kp 32, Ki 2 and target 1,400 at a reading, from an integrator and a last output. -/
def tensionExample (integ output : Int) (reading : Nat) : Int × Int :=
  let z := tensionLoop TensionGroup.reset 32 2 1400 0 reading
    { TensionRec.reset 1400 with integ := integ, output := output }
  (z.integ, z.output)

/-- Section 5.4's sequence of readings. -/
theorem test_tension_example :
    tensionExample 0 0 1300 = (200, 200) ∧ tensionExample 200 200 1350 = (300, 101)
      ∧ tensionExample 300 101 700 = (1700, 1000) ∧ tensionExample 1700 1000 800 = (1700, 1000)
      ∧ tensionExample 1700 1000 1420 = (1660, -34) := by decide +kernel

/-- A heat zone with Kp 64 and Ki 4 taken through a reading toward a zone target. -/
def heatExample (target setpoint integ output measured : Int) : Int × Int × Int :=
  let z := heatReading HeatGroup.reset 2 target 30 measured
    { HeatZone.reset with setpoint := setpoint, integ := integ, output := output, first := true }
  (z.setpoint, z.integ, z.output)

/-- Section 9.8's samples 6 to 9. -/
theorem test_derate_example :
    heatExample 1970 2010 225000 1000 1968 = (2000, 225000, 1000)
      ∧ heatExample 1970 2000 225000 1000 1969 = (1990, 225000, 962)
      ∧ heatExample 1970 1990 225000 962 1971 = (1980, 225036, 915)
      ∧ heatExample 1970 1980 225036 915 1972 = (1970, 225028, 871) := by decide +kernel

/-- Section 6.5's caps and speed. -/
theorem test_dwell_cap_examples :
    dwellCap { line1 with arcLen := 47244, countsPerM := 47244 } { record1 with minDwell := 8000 } = 125
      ∧ dwellCap { line1 with arcLen := 47244, countsPerM := 47244 } { record1 with minDwell := 12000 } = 83
      ∧ measuredSpeed 1285 1000 47244 = 120 := by decide +kernel

/-- Chapter 3's check word, with the 122 pieces' sums put into one piece of each part. -/
theorem test_check_word_example :
    checkWord { Bank.free with pieces := [
      (0, .values [10000000]), (81, .values [1234567]), (105, .values [524032]),
      (121, .header { header1 with
        nominal := 2050, tolerance := 30, minDwell := 8000, inkLimit := 24576,
        name := ⟨75, 78, 73, 84, 48, 48, 48, 49⟩, check := 2702 })] } = 62814 := by decide +kernel

/-! ### Witnesses: the invariants -/

/-- The running line with one command waiting. -/
def runningWith (i : Instr) : State :=
  running.setPending [i]

theorem test_witness_StepTakesFront : State.reset.pending = [] := rfl

theorem test_witness_EventsLeaveNothingOver :
    Quiet (runningWith (.alertClear 1)) ∧ ∃ t, step (runningWith (.alertClear 1)) = .next t :=
  ⟨by decide +kernel, next_of (by decide +kernel)⟩

theorem test_witness_BoundsKept :
    Bounded (runningWith (.queryLine 1)) ∧ ∃ t, step (runningWith (.queryLine 1)) = .next t :=
  ⟨by decide +kernel, next_of (by decide +kernel)⟩

theorem test_witness_StackKept :
    StackOrdered (runningWith (.alertClear 1)) ∧ ∃ t, step (runningWith (.alertClear 1)) = .next t :=
  ⟨by decide +kernel, next_of (by decide +kernel)⟩

theorem test_witness_RunListKept :
    RunListOrdered (runningWith (.encoderEdge true false))
      ∧ ∃ t, step (runningWith (.encoderEdge true false)) = .next t :=
  ⟨by decide +kernel, next_of (by decide +kernel)⟩

theorem test_witness_SpeedKept :
    SpeedFormed (runningWith .lineSample) ∧ HeatFormed (runningWith .lineSample)
      ∧ (runningWith .lineSample).mou.mode = .run ∧ ∃ t, step (runningWith .lineSample) = .next t :=
  ⟨by decide +kernel, by decide +kernel, by decide +kernel, next_of (by decide +kernel)⟩

theorem test_witness_ModeOutputsKept :
    ModeOutputs (runningWith (.stop 1)) ∧ ∃ t, step (runningWith (.stop 1)) = .next t :=
  ⟨by decide +kernel, next_of (by decide +kernel)⟩

theorem test_witness_RefCountsKept :
    RefCounts (runningWith (.segmentAbort 1 7)) ∧ ∃ t, step (runningWith (.segmentAbort 1 7)) = .next t :=
  ⟨by decide +kernel, next_of (by decide +kernel)⟩

theorem test_witness_BanksKept :
    BanksShaped (runningWith (.profileDiscard 1 0)) ∧ ∃ t, step (runningWith (.profileDiscard 1 0)) = .next t :=
  ⟨by decide +kernel, next_of (by decide +kernel)⟩

theorem test_witness_OutputsKept :
    OutputsOk (runningWith (.tensionReading .paperUnwind 900))
      ∧ ∃ t, step (runningWith (.tensionReading .paperUnwind 900)) = .next t :=
  ⟨by decide +kernel, next_of (by decide +kernel)⟩

theorem test_witness_ColourKept :
    ColourOk (runningWith (.table 1 0 105 (.values (List.replicate 16 65535))))
      ∧ ∃ t, step (runningWith (.table 1 0 105 (.values (List.replicate 16 65535)))) = .next t :=
  ⟨by decide +kernel, next_of (by decide +kernel)⟩

theorem test_witness_TensionFollowsKept :
    TensionFollows (runningWith (.splice 1 1)) ∧ ∃ t, step (runningWith (.splice 1 1)) = .next t :=
  ⟨⟨by decide +kernel, ⟨record1, by decide +kernel, by decide +kernel⟩, by decide +kernel, by decide +kernel⟩,
    next_of (by decide +kernel)⟩

theorem test_witness_AlertsServedKept :
    AlertsServed (runningWith (.alertClear 1)) ∧ ∃ t, step (runningWith (.alertClear 1)) = .next t :=
  ⟨⟨for_all_sources (by decide +kernel), for_all_sources (by decide +kernel)⟩, next_of (by decide +kernel)⟩

theorem test_witness_ConditionsTrackKept :
    ConditionsTrack (runningWith (.driveFaultInput true))
      ∧ ∃ t, step (runningWith (.driveFaultInput true)) = .next t :=
  ⟨by decide +kernel, next_of (by decide +kernel)⟩

theorem test_witness_RecordsOnlyAdvance :
    ((runningWith .lineSample).rls.map Segment.tag).Nodup
      ∧ ends (step (runningWith .lineSample)) fun t =>
        ∃ r ∈ running.rls, ∃ r' ∈ t.rls, r'.tag = r.tag ∧ r.lost ≤ 65535 :=
  ⟨by decide +kernel, ends_of (by decide +kernel)⟩

/-! ### Witnesses: frames and symbols -/

theorem test_witness_RequestRoundTrip :
    requestFits (.table 7 120 (.values (List.replicate 16 0xFFFF))) = true
      ∧ requestFits (.table 8 122 (.unchecked [])) = true
      ∧ readRequest { requestFrame 5 .stop with flags := 0x01 } = some .stop := by decide +kernel

/-- A COMMAND frame of the greatest length; its form step fails. -/
def longFrame : Frame where
  kind := 0x03
  flags := 0
  tag := 9
  reserved := 0
  payload := List.replicate 3084 0x55

/-- The receiver after `n` idle symbols. -/
def idleFor (n : Nat) : State :=
  loaded.setLrx { loaded.lrx with idle := n }

theorem test_witness_FrameBySymbols :
    Quiet (idleFor 4) ∧ (idleFor 4).lrx.state = .hunt ∧ 4 ≤ (idleFor 4).lrx.idle ∧ longFrame.kind ≠ kindLine
      ∧ longFrame.payload.length ≤ 3084 := by decide +kernel

theorem test_witness_StartMark :
    (Quiet (idleFor 4) ∧ (idleFor 4).lrx.state = .hunt ∧ 4 ≤ (idleFor 4).lrx.idle)
      ∧ (Quiet (idleFor 3) ∧ (idleFor 3).lrx.state = .hunt ∧ (idleFor 3).lrx.idle < 4)
      ∧ (Quiet (receiving .skip [] [] [] .undecided loaded)
          ∧ (receiving .skip [] [] [] .undecided loaded).lrx.state = .skip) := by decide +kernel

/-- The first seven bytes of a TABLE frame's header with a payload length. -/
def headerFor (n : Nat) : List Byte :=
  [0x02, 0x00, 0x00, 0x01] ++ beBytes 2 n ++ [0x00]

/-- A receiver with those seven bytes. -/
def inHeader (n : Nat) : State :=
  receiving .header (headerFor n) [] [] .undecided loaded

/-- A receiver that has the whole header of a TABLE frame with a payload of 3 bytes, and some of what follows. -/
def inFrame (state : RxState) (payload trailer : List Byte) : State :=
  receiving state (headerFor 3 ++ [0x00]) payload trailer .undecided loaded

theorem test_witness_DataSymbol_before :
    (Quiet loaded ∧ loaded.lrx.state = .hunt)
      ∧ (Quiet (receiving .header (headerFor 0).dropLast [] [] .undecided loaded)
          ∧ (receiving .header (headerFor 0).dropLast [] [] .undecided loaded).lrx.header.length < 7) := by
  decide +kernel

theorem test_witness_DataSymbol_header :
    ∀ n ∈ [0, 1, 3084, 3085], Quiet (inHeader n) ∧ (inHeader n).lrx.state = .header
      ∧ (inHeader n).lrx.header.length = 7 ∧ rxKind (inHeader n).lrx ≠ kindLine
      ∧ n = beNat (((inHeader n).lrx.header.drop 4).take 2) ∧ accepted (inHeader n).lrx.line = false := by
  decide +kernel

theorem test_witness_DataSymbol_after :
    (Quiet (inFrame .payload [1, 2] []) ∧ rxKind (inFrame .payload [1, 2] []).lrx ≠ kindLine
        ∧ rxLength (inFrame .payload [1, 2] []).lrx = 3)
      ∧ (Quiet (inFrame .trailer [1, 2, 3] [4]) ∧ (inFrame .trailer [1, 2, 3] [4]).lrx.trailer.length < 2)
      ∧ (Quiet (inFrame .trailer [1, 2, 3] [4, 5]) ∧ (inFrame .trailer [1, 2, 3] [4, 5]).lrx.trailer.length = 2
        ∧ accepted (inFrame .trailer [1, 2, 3] [4, 5]).lrx.line = false) := by decide +kernel

theorem test_witness_StartMark_in_frame :
    ∀ state ∈ [RxState.header, .payload, .trailer],
      Quiet (inFrame state [] []) ∧ (inFrame state [] []).lrx.state = state := by decide +kernel

/-- A line store with every entry in use. -/
def fullStore : State :=
  { filling with
    lst := List.replicate 16384 { tag := 6, line := 0, state := .ready, written := [], provisional := [] } }

theorem test_witness_LineAcceptance_full : freeCount fullStore = 0 := by
  have h : fullStore.lst.length = 16384 := List.length_replicate
  unfold freeCount
  rw [h]
  rfl

theorem test_witness_LineAcceptance_table :
    findSeg 9 filling.rls = none
      ∧ (∃ r ∈ findSeg 7 running.rls, r.fill = .sealed)
      ∧ (∃ r ∈ findSeg 7 filling.rls, r.fill = .filling ∧ r.width = 64 ∧ r.width < 0 + 65 ∧ 0 + 64 ≤ r.width)
      ∧ (∀ c ∈ (filling.setCpa none).cpa, c.tag ≠ 7)
      ∧ filling.cpa = some { tag := 7, line := 0, pixel := 0 } ∧ freeCount filling ≠ 0 := by decide +kernel

/-- The line fields of a LINE frame. -/
def lineFields (seg : Tag) (line offset count : Nat) : List Byte :=
  beBytes 2 seg.toNat ++ beBytes 2 line ++ beBytes 4 offset ++ beBytes 2 count

/-- The header of a LINE frame with frame tag 3. -/
def lineHeader (always : Bool) (count : Nat) : List Byte :=
  [kindLine, if always then 1 else 0] ++ beBytes 2 3 ++ beBytes 2 (10 + 3 * count) ++ [0, 0]

/-- A receiver with nine bytes of the line fields. -/
def inLineFields (always : Bool) (line count : Nat) (s : State) : State :=
  receiving .payload (lineHeader always count) (lineFields 7 line 0 count).dropLast [] .undecided s

/-- A transmitter in GAP with every answer slot taken. -/
def slotsTaken (s : State) : State :=
  s.setLtx { s.ltx with tx := .gap, answers := List.replicate 4 (answerTo 1 .queryLine .accepted 0 []) }

/-- What the last nine clauses of LineAcceptance ask of the receiver, but for the outcome of the check. -/
abbrev LineHeld (s : State) (b : Byte) (line count : Nat) (always : Bool) : Prop :=
  Quiet s ∧ s.lrx.state = .payload ∧ s.lrx.line = .undecided
    ∧ s.lrx.header = [kindLine, if always then 1 else 0] ++ beBytes 2 (rxTag s.lrx).toNat ++ beBytes 2 (10 + 3 * count)
      ++ [0, 0]
    ∧ s.lrx.payload ++ [b] = lineFields 7 line 0 count

theorem test_witness_LineAcceptance_accepted :
    LineHeld (inLineFields true 0 64 filling) 64 0 64 true
      ∧ cursorCheck (inLineFields true 0 64 filling) 7 0 0 64 = none
      ∧ slotFree (inLineFields true 0 64 filling) = true := by decide +kernel

theorem test_witness_LineAcceptance_refused :
    LineHeld (inLineFields false 1 1 filling) 1 1 1 false
      ∧ cursorCheck (inLineFields false 1 1 filling) 7 1 0 1 = some .outOfOrder
      ∧ slotFree (inLineFields false 1 1 filling) = true := by decide +kernel

theorem test_witness_LineAcceptance_dropped :
    LineHeld (inLineFields true 0 64 (slotsTaken filling)) 64 0 64 true
      ∧ slotFree (inLineFields true 0 64 (slotsTaken filling)) = false := by decide +kernel

/-- The filling line with an entry for line `line` of segment 7, and an accepted frame for it in reception. -/
def inLine (state : RxState) (line offset count : Nat) (slot : Bool) (pixels : List Byte) (trailer : List Byte) : State :=
  receiving state (lineHeader slot count) (lineFields 7 line offset count ++ pixels) trailer
    (.accepted 7 line offset count slot)
    { filling with
      cpa := some { tag := 7, line := line, pixel := offset },
      lst := [{ tag := 7, line := line, state := .filling, written := [], provisional := [] }] }

theorem test_witness_LinePixel :
    Quiet (inLine .payload 0 0 64 false [200, 64] []) ∧ rxKind (inLine .payload 0 0 64 false [200, 64] []).lrx = kindLine
      ∧ (∃ r ∈ findSeg 7 (inLine .payload 0 0 64 false [200, 64] []).rls, r.fill = .filling)
      ∧ (inLine .payload 0 0 64 false [200, 64] []).lrx.payload.length = 12 + 3 * 0
      ∧ (inLine .payload 0 0 64 false [200, 64] []).lrx.payload.length
        < rxLength (inLine .payload 0 0 64 false [200, 64] []).lrx
      ∧ (inLine .payload 0 0 64 false [200, 64] []).lrx.payload.drop (10 + 3 * 0) = [200, 64] := by decide +kernel

theorem test_witness_IdleFill :
    (Quiet running ∧ running.lrx.state = .hunt)
      ∧ (Quiet (receiving .skip [] [] [] .undecided running)
        ∧ (receiving .skip [] [] [] .undecided running).lrx.state = .skip)
      ∧ (Quiet (inFrame .trailer [1, 2, 3] []) ∧ (inFrame .trailer [1, 2, 3] []).lrx.state = .trailer) := by
  decide +kernel

/-- The CRC bytes that match `inFrame`'s three payload bytes. -/
def goodTrailer : List Byte :=
  crcBytes (crcOf (headerFor 3 ++ [0x00] ++ [1, 2, 3]))

theorem test_witness_EndMark :
    (Quiet (inFrame .trailer [1, 2, 3] goodTrailer)
        ∧ (inFrame .trailer [1, 2, 3] goodTrailer).lrx.trailer
          = crcBytes (inFrame .trailer [1, 2, 3] goodTrailer).lrx.crc)
      ∧ ((inFrame .trailer [1, 2, 3] [0, 0]).lrx.trailer.length = 2
        ∧ accepted (inFrame .trailer [1, 2, 3] [0, 0]).lrx.line = false
        ∧ (inFrame .trailer [1, 2, 3] [0, 0]).lrx.trailer ≠ crcBytes (inFrame .trailer [1, 2, 3] [0, 0]).lrx.crc)
      ∧ loaded.lrx.state = .hunt ∧ (receiving .skip [] [] [] .undecided loaded).lrx.state = .skip := by decide +kernel

/-- An accepted frame of one pixel's bytes with its good CRC, at offset `offset` of line `line`. -/
def atTrailer (line offset count : Nat) (slot : Bool) : State :=
  inLine .trailer line offset count slot (List.replicate (3 * count) 0x20)
    (crcBytes (crcOf (lineHeader slot count ++ (lineFields 7 line offset count ++ List.replicate (3 * count) 0x20))))

/-- A LINE frame's payload in reception that ends neither its fields nor a pixel: too early, between, or refused. -/
theorem test_witness_DataSymbol_line :
    (Quiet (receiving .payload (lineHeader false 1) [0, 7] [] .undecided filling)
        ∧ ([0, 7] : List Byte).length + 1 ≠ rxLength (receiving .payload (lineHeader false 1) [0, 7] [] .undecided filling).lrx)
      ∧ (Quiet (inLine .payload 0 0 64 false [200] [])
        ∧ ((inLine .payload 0 0 64 false [200] []).lrx.payload.length + 1 - 10) % 3 ≠ 0)
      ∧ (Quiet (receiving .payload (lineHeader false 1) (lineFields 7 9 0 1 ++ [1, 2]) [] (.refused .late) filling)
        ∧ accepted (.refused .late) = false)
      ∧ (Quiet (atTrailer 0 0 1 true) ∧ 2 ≤ (atTrailer 0 0 1 true).lrx.trailer.length) := by decide +kernel

/-- A receiver of a LINE frame of payload length `length`, reserved field `reserved` and flags `flags`. -/
def badLine (length reserved flags : Byte) (payload : List Byte) (s : State) : State :=
  receiving .payload [kindLine, flags, 0, 3, 0, length, 0, reserved] payload [] .undecided s

/-- What the MALFORMED clauses ask of a receiver with nine payload bytes, the next being 1. -/
abbrev MalformedAt (s : State) : Prop :=
  Quiet s ∧ rxKind s.lrx = kindLine ∧ s.lrx.state = .payload ∧ s.lrx.payload.length = 9
    ∧ (rxLength s.lrx ≠ 10 + 3 * beNat ((s.lrx.payload ++ [1]).drop 8)
      ∨ beNat ((s.lrx.header.drop 6).take 2) ≠ 0 ∨ (s.lrx.header.drop 1).headD 0 = 2)

theorem test_witness_LineAcceptance_malformed :
    MalformedAt (badLine 14 0 0 (List.replicate 9 0) filling) ∧ MalformedAt (badLine 13 1 0 (List.replicate 9 0) filling)
      ∧ MalformedAt (badLine 13 0 2 (List.replicate 9 0) filling) := by decide +kernel

theorem test_witness_LineAcceptance_malformed_dropped :
    MalformedAt (badLine 14 0 0 (List.replicate 9 0) (slotsTaken filling))
      ∧ slotFree (badLine 14 0 0 (List.replicate 9 0) (slotsTaken filling)) = false := by decide +kernel

theorem test_witness_LineAcceptance_malformed_short :
    (Quiet (badLine 3 0 0 [0, 7] filling) ∧ rxLength (badLine 3 0 0 [0, 7] filling).lrx = 2 + 1)
      ∧ (Quiet (receiving .header [kindLine, 0, 0, 3, 0, 0, 0] [] [] .undecided filling)
        ∧ rxLength (receiving .header [kindLine, 0, 0, 3, 0, 0, 0] [] [] .undecided filling).lrx = 0) := by
  decide +kernel

theorem test_witness_IdleFill_line :
    (Quiet (atTrailer 0 0 1 true) ∧ (atTrailer 0 0 1 true).lrx.line = .accepted 7 0 0 1 true)
      ∧ (Quiet (atTrailer 0 63 1 false) ∧ (atTrailer 0 63 1 false).lrx.line = .accepted 7 0 63 1 false) := by
  decide +kernel

/-- `atTrailer` with a CRC that does not match. -/
def badTrailer (offset : Nat) : State :=
  (atTrailer 0 offset 1 false).setLrx { (atTrailer 0 offset 1 false).lrx with trailer := [0, 0] }

theorem test_witness_EndMark_dropped :
    (∀ offset ∈ [0, 63], Quiet (badTrailer offset)
        ∧ (badTrailer offset).lrx.trailer ≠ crcBytes (badTrailer offset).lrx.crc)
      ∧ (Quiet (inFrame .payload [1] []) ∧ (inFrame .payload [1] []).lrx.state = .payload)
      ∧ (Quiet (inFrame .trailer [1, 2, 3] [4]) ∧ (inFrame .trailer [1, 2, 3] [4]).lrx.trailer.length < 2) := by
  decide +kernel

/-- A LINE frame at its good end mark that was refused or dropped. -/
def judged (line : LineRx) (s : State) : State :=
  s.setLrx { (atTrailer 0 0 1 false).lrx with line := line }

theorem test_witness_LineFrameCompletes_refused :
    ∀ line ∈ [LineRx.refused .malformed, .refused .late, .dropped],
      Quiet (judged line filling) ∧ accepted (judged line filling).lrx.line = false
        ∧ (judged line filling).lrx.trailer = crcBytes (judged line filling).lrx.crc
        ∧ rxKind (judged line filling).lrx = kindLine := by decide +kernel

theorem test_witness_LineFrameCompletes :
    ∀ x ∈ [(0, 0, 1, true), (0, 63, 1, false), (1, 63, 1, true)],
      Quiet (atTrailer x.1 x.2.1 x.2.2.1 x.2.2.2)
        ∧ (atTrailer x.1 x.2.1 x.2.2.1 x.2.2.2).lrx.trailer = crcBytes (atTrailer x.1 x.2.1 x.2.2.1 x.2.2.2).lrx.crc
        ∧ rxKind (atTrailer x.1 x.2.1 x.2.2.1 x.2.2.2).lrx = kindLine
        ∧ (findSeg 7 (atTrailer x.1 x.2.1 x.2.2.1 x.2.2.2).rls).isSome
        ∧ (atTrailer x.1 x.2.1 x.2.2.1 x.2.2.2).cpa.isSome := by decide +kernel

theorem test_witness_AbortMark :
    Quiet loaded ∧ accepted loaded.lrx.line = false ∧ Quiet (atTrailer 0 0 1 true) ∧ Quiet (atTrailer 0 63 1 false)
      ∧ (atTrailer 0 63 1 false).lrx.line = .accepted 7 0 63 1 false := by decide +kernel

/-! ### Witnesses: the transmitter, the control buffers and the queries -/

/-- A RETIRED record whose trace is being sent. -/
def tracing : State :=
  { running with
    rls := [{ record1 with calender := .retired, dwell := none, traceSent := true }],
    ltx := { running.ltx with tx := .sending (.trace 7) [] } }

/-- The filling line in the upstream gap. -/
def inGap : State :=
  filling.setLtx { filling.ltx with tx := .gap }

/-- The filling line in the gap with HOLD due: 16,382 free entries below a hold mark of 16,383. -/
def holdDue : State :=
  (inGap.setLine { line1 with holdMark := 16383, resumeMark := 16384 }).setLst (List.replicate 2
    { tag := 7, line := 0, state := .ready, written := [], provisional := [] })

/-- A notice of LINK_LOST. -/
def notice1 : Notice where
  source := .linkLost
  level := 2
  grade := .slow
  mode := .latched
  merge := 1
  depth := 1
  ctx := ctx0

/-- The transmitter of `s` in GAP with a notice queued, and whether an earlier one was lost. -/
def noticeQueued (s : State) (overrun : Bool) : State :=
  s.setLtx { s.ltx with tx := .gap, notices := [notice1], overrun := overrun }

/-- A RETIRED record whose trace is unsent, with LTX in GAP. -/
def traceDue : State :=
  { running with
    rls := [{ record1 with calender := .retired, dwell := none }], ltx := { running.ltx with tx := .gap } }

theorem test_witness_TransmitterProgress_sent :
    Quiet tracing ∧ tracing.ltx.tx = .sending (.trace 7) []
      ∧ (∃ r ∈ findSeg 7 tracing.rls, r.calender = .retired ∧ r.traceSent = true)
      ∧ Quiet (tracing.setRls []) ∧ findSeg 7 (tracing.setRls []).rls = none := by decide +kernel

/-- What the GAP_END clauses ask of every state. -/
abbrev GapQuiet (s : State) : Prop :=
  s.alc.fresh = [] ∧ s.alc.evalDue = false ∧ s.alc.reaction = stackReaction s.alc.stack ∧ s.ltx.tx = .gap

theorem test_witness_TransmitterProgress_gap :
    (GapQuiet (slotsTaken inGap) ∧ (slotsTaken inGap).ltx.answers.length = 4)
      ∧ (GapQuiet holdDue ∧ holdDue.ltx.answers = [] ∧ holdDue.ltx.flowHeld = false
        ∧ freeCount holdDue < holdDue.line.holdMark)
      ∧ (GapQuiet (inGap.setLtx { inGap.ltx with flowHeld := true })
        ∧ inGap.line.resumeMark ≤ freeCount (inGap.setLtx { inGap.ltx with flowHeld := true })) := by
  decide +kernel

theorem test_witness_TransmitterProgress_last :
    (GapQuiet (noticeQueued filling true) ∧ (noticeQueued filling true).ltx.notices = [notice1]
        ∧ (noticeQueued filling true).ltx.flowHeld = false
        ∧ (noticeQueued filling true).line.holdMark ≤ freeCount (noticeQueued filling true))
      ∧ (GapQuiet traceDue ∧ traceDue.ltx.notices = []
        ∧ (traceDue.rls.find? (fun r => decide (r.calender = .retired) && !r.traceSent)).isSome)
      ∧ (GapQuiet inGap ∧ ∀ r ∈ inGap.rls, r.calender = .retired → r.traceSent = true) := by decide +kernel

theorem test_witness_LinkTimeout :
    Quiet running ∧ running.lrx.timer = some 500 ∧ Quiet loaded ∧ loaded.lrx.timer = none := by decide +kernel

theorem test_witness_RefusedFrameChangesNothing :
    CanExecute loaded ∧ readRequest unknownFrame = none
      ∧ (rangeOk (.run 0) = false ∧ rangeOk (.run 501) = false)
      ∧ (rangeOk (.run 500) = true ∧ modeOk (loaded.setMou (motion .stopping 50 0 0 0)) (.run 500) = false)
      ∧ (modeOk loaded .alertClear = true ∧ objectCheck loaded .alertClear = some (.notFound, 0)) := by decide +kernel

/-- A line whose bank B of slot 0 is under check, with the PROFILE_COMMIT frame in the execute buffer and a frame in
the intake buffer or none. -/
def checking (check : Nat) (intake : Option Frame) : State :=
  { loaded with
    pfs := { storeWith (fullBank .active 0 0) (fullBank .checking 0 check) with check := some (0, .b) },
    lrx := { loaded.lrx with execute := some (requestFrame 4 (.profileCommit 0)), intake := intake },
    cmuSlot := true }

theorem test_witness_ControlBuffers :
    (Quiet (checking 0 none) ∧ (checking 0 none).lrx.execute.isSome ∧ (checking 0 none).lrx.intake = none)
      ∧ (Quiet (checking 0 (some (requestFrame 5 .queryLine)))
        ∧ (checking 0 (some (requestFrame 5 .queryLine))).lrx.intake.isSome
        ∧ slotFree (checking 0 (some (requestFrame 5 .queryLine))) = true)
      ∧ (Quiet (slotsTaken loaded) ∧ (slotsTaken loaded).lrx.execute = none
        ∧ slotFree (slotsTaken loaded) = false) := by decide +kernel

theorem test_witness_QueryReplies :
    CanExecute filling ∧ (findSeg 7 filling.rls).isSome ∧ (7 : Byte).toNat ≤ 7 ∧ (15 : Byte).toNat ≤ 15 := by
  decide +kernel

/-! ### Witnesses: configuration -/

/-- LINE_CONFIG fields at the ends of several ranges. -/
def lineFields1 : LineFields where
  width := 76800
  encNum := 1
  encDen := 1
  off2 := 1
  off3 := 2
  off4 := 3
  off5 := 4
  off6 := 12288
  ch1 := 5
  ch2 := 4
  ch3 := 3
  ch4 := 2
  ch5 := 1
  ch6 := 0
  nipDist := 12289
  arcLen := 1
  countsPerM := 1000
  intakeLead := 0
  linkTimeout := 50
  holdMark := 16383
  resumeMark := 16384
  creep := 50
  accel := 100

/-- TENSION_CONFIG fields at the ends of several ranges. -/
def tensionFields1 : TensionFields where
  paper := 100
  kp0 := 255
  kp1 := 0
  kp2 := 32
  ki0 := 255
  ki1 := 0
  ki2 := 2
  window := 10
  windowCount := 1
  breakThreshold := 5000
  standstill := 100
  taperLen := 1

/-- FABRIC_LOAD fields for a slot. -/
def fabricFields1 (slot : Byte) : FabricFields where
  slot := slot
  code := ⟨65, 66, 67, 68, 69, 70, 71, 72⟩
  unwind := 8000
  rewind := 100
  compliance := 2000
  maxTemp := 2400

theorem test_witness_GroupsReplaced :
    CanExecute loaded ∧ (lineRangeOk lineFields1 = true ∧ loaded.mou.mode = .standby ∧ loaded.rls = [])
      ∧ tensionRangeOk tensionFields1 = true
      ∧ (fabricRangeOk (fabricFields1 15) = true ∧ fabricReferenced loaded.tnc (fabricSlotOf 15) = false)
      ∧ (fabricRangeOk (fabricFields1 0) = true ∧ fabricReferenced loaded.tnc (fabricSlotOf 0) = true) := by
  decide +kernel

/-- HEAT_CONFIG fields with a look-ahead distance. -/
def heatFields1 (dHeat : W32) : HeatFields where
  idle := 2300
  idleBand := 5
  standby := 0
  dHeat := dHeat
  ramp := 50
  kp0 := 64
  kp1 := 64
  kp2 := 64
  kp3 := 255
  ki0 := 4
  ki1 := 4
  ki2 := 4
  ki3 := 0
  trim0 := 0xFF38
  trim1 := 200
  trim2 := 0
  trim3 := 0
  overLimit := 2600
  derateCount := 240
  recoverLimit := 990
  recoverCount := 2400

theorem test_witness_HeatConfig :
    CanExecute running ∧ CanExecute loaded
      ∧ (heatRangeOk (heatFields1 0) = true ∧ (heatFields1 0).dHeat.toNat = running.htc.group.dHeat)
      ∧ (heatRangeOk (heatFields1 16777215) = true
        ∧ (heatFields1 16777215).dHeat.toNat ≠ running.htc.group.dHeat ∧ running.mou.mode = .run
        ∧ loaded.mou.mode ≠ .run) := by decide +kernel

/-- A line in STANDBY with bar 2 OFF and its fault input asserted, and BAR_FAULT not holding. -/
def barOff : State :=
  filling.setBars (filling.bars.set 1 { state := .off, cursor := none, fault := true, port := [] })

theorem test_witness_BarConfig :
    ∀ bars ∈ [(1 : Byte), 63], CanExecute barOff ∧ bars.toNat % 2 = 1 ∧ bars.toNat < 64
      ∧ (barOff.mou.mode = .standby ∨ barOff.mou.mode = .halted)
      ∧ barOff.alc.holds[AlertSource.barFault.index] = barFaultHolds barOff.bars := by decide +kernel

theorem test_witness_AlertConfig :
    CanExecute loaded ∧ (alertRangeOk (12 : Byte).toNat (0xFF : Byte).toNat (0 : Byte).toNat (1 : Byte).toNat = true
        ∧ AlertSource.gradeChange.index.val = (12 : Byte).toNat)
      ∧ (alertRangeOk (3 : Byte).toNat (2 : Byte).toNat (3 : Byte).toNat (0 : Byte).toNat = true
        ∧ AlertSource.linkLost.index.val = (3 : Byte).toNat) := by decide +kernel

theorem test_witness_AlertHoldAndLogReset :
    CanExecute running ∧ (0 : Byte).toNat ≤ 3 ∧ (3 : Byte).toNat ≤ 3
      ∧ ∀ src, eligible { running.alc with threshold := Fin.ofNat 4 (3 : Byte).toNat } src = false :=
  ⟨by decide +kernel, by decide, by decide, for_all_sources (by decide +kernel)⟩

/-- A configuration of an occurrence source that is served LATCHED. -/
def latchedError : SourceConfig where
  level := some 3
  grade := .stop
  mode := .latched

/-- The configuration of the sources with LINE_LOST set to OFF. -/
def lostOff : Vector SourceConfig 13 :=
  defaultConfig.set 8 { level := none, grade := .note, mode := .fast }

/-- A state in which the alert clauses of AlertHoldAndLogReset can be met. -/
abbrev AlertsReady (s : State) : Prop :=
  Quiet s ∧ (∀ src ∈ AlertSource.all, src.isCondition = true → s.alc.config[src.index].mode = .latched)
    ∧ ∀ src ∈ AlertSource.all, eligible s.alc src = false

theorem test_AlertsReady (s : State) (h : AlertsReady s) : AlertsServed s :=
  ⟨for_all_sources h.2.1, for_all_sources h.2.2⟩

theorem test_witness_AlertHoldAndLogReset_raise :
    AlertsReady (loaded.setAlc { Alc.reset with config := lostOff })
      ∧ (AlertsReady (running.setAlc { running.alc with
          occ := running.alc.occ.set 8 (some { merge := 255, ctx := ctx0 }) })
        ∧ ¬Servable running.alc .lineLost 0)
      ∧ (AlertsReady loaded ∧ Servable loaded.alc .lineLost 0 ∧ loaded.alc.occ[AlertSource.lineLost.index] = none)
      ∧ (AlertsReady (running.setAlc { running.alc with config := defaultConfig.set 10 latchedError })
        ∧ Servable { running.alc with config := defaultConfig.set 10 latchedError } .linkError 3) := by decide +kernel

theorem test_witness_AlertHoldAndLogReset_begin :
    (AlertsReady running ∧ ∃ e ∈ running.alc.stack, e.source = .linkLost)
      ∧ (¬Servable running.alc .barFault 2 ∧ ∀ e ∈ running.alc.stack, e.source ≠ .barFault)
      ∧ (Servable running.alc .driveFault 3
        ∧ running.alc.config[AlertSource.driveFault.index] = { level := some 3, grade := .stop, mode := .latched }) := by
  decide +kernel

/-- The running line after the link has recovered: LINK_LOST no longer holds, and its entry is still on the stack. -/
def recovered : State :=
  running.setAlc { running.alc with holds := Alc.reset.holds }

/-- A stack entry of WEB_BREAK. -/
def breakEntry : StackEntry where
  source := .webBreak
  level := 3
  grade := .stop
  merge := 1
  ctx := ctx0

/-- A line in HALTED with WEB_BREAK holding and on the stack above LINK_LOST. -/
def broken : State :=
  { running with
    mou := motion .halted 115 100 0 0,
    alc := { running.alc with
      stack := [breakEntry, lostEntry], holds := running.alc.holds.set 0 true,
      condCtx := running.alc.condCtx.set 0 (some ctx0), reaction := .stop } }

theorem test_witness_RefusedFrameChangesNothing_open :
    broken.alc.reaction ≠ .note
      ∧ (filling.alc.reaction = .note ∧ filling.rls.length < 32 ∧ ∃ r ∈ filling.rls, r.tag = 7)
      ∧ activeBank filling.pfs.slots[slotOf 1] = none
      ∧ (activeBank filling.pfs.slots[slotOf 0] = some .a ∧ headerOf (bankOf filling (slotOf 0) .a) = some header1)
      ∧ (filling.setTnc Tnc.reset).tnc.intake = none
      ∧ (filling.tnc.fabrics[(0 : Fin 16)].record = some fabric1 ∧ (header1.nominal : Int) - 40 * 0 ≤ fabric1.maxTemp
        ∧ ({ fabric1 with maxTemp := 1200 } : Fabric).maxTemp < (header1.nominal : Int) - 40 * 3) := by decide +kernel

theorem test_witness_RefusedFrameChangesNothing_full : 32 ≤ (List.replicate 32 record0).length := by decide

theorem test_witness_AlertClear_done :
    CanExecute recovered ∧ StackOrdered recovered ∧ recovered.alc.stack = [lostEntry]
      ∧ ∀ src, sourcePending { recovered.alc with stack := [] } src = false :=
  ⟨by decide +kernel, by decide +kernel, by decide +kernel, for_all_sources (by decide +kernel)⟩

theorem test_witness_AlertClear_web_break :
    CanExecute broken ∧ StackOrdered broken ∧ broken.alc.stack = [breakEntry, lostEntry]
      ∧ broken.alc.config[AlertSource.webBreak.index] = { level := some 3, grade := .stop, mode := .latched }
      ∧ broken.alc.holds[AlertSource.webBreak.index] = true
      ∧ broken.alc.condCtx[AlertSource.webBreak.index] = some ctx0 := by decide +kernel

/-! ### Witnesses: fabric and profiles -/

theorem test_witness_Splice :
    CanExecute loaded ∧ (15 : Byte).toNat ≤ 15 ∧ loaded.tnc.fabrics[fabricSlotOf 15].record = none
      ∧ (loaded.tnc.fabrics[fabricSlotOf 1].record.isSome ∧ loaded.tnc.source = none ∧ loaded.tnc.tension = some 0
        ∧ (0 : Fin 16) ≠ fabricSlotOf 1 ∧ 1 ≤ loaded.tnc.group.taperLen)
      ∧ (CanExecute running ∧ running.tnc.source ≠ none ∧ running.tnc.fabrics[fabricSlotOf 1].record.isSome)
      ∧ CanExecute (loaded.setTnc { loaded.tnc with tension := none, intake := none }) := by decide +kernel

/-- A line in STANDBY with bank A of slot 0 ACTIVE and its inactive bank B as given. -/
def withInactive (b : Bank) : State :=
  loaded.setPfs (storeWith (fullBank .active 0 0) b)

/-- A bank that has only its matrix. -/
def partBank : Bank where
  state := .staging
  count := 0
  pieces := (allPieces header1).filter fun x => decide (105 ≤ x.1 ∧ x.1 ≤ 120)

theorem test_witness_TablePiece :
    (∀ b ∈ [Bank.free, partBank, fullBank .draining 1 0],
        CanExecute (withInactive b) ∧ .b = inactiveBank (withInactive b).pfs.slots[slotOf 0])
      ∧ tableBodyFits 120 (.values (List.replicate 16 0xFFFF)) = true
      ∧ tableRangeOk 0 120 (.values (List.replicate 16 0xFFFF)) = true
      ∧ (bankOf (withInactive partBank) (slotOf 0) .b).state = .staging
      ∧ (bankOf (withInactive (fullBank .draining 1 0)) (slotOf 0) .b).state = .draining := by decide +kernel

theorem test_witness_ProfileCommit :
    (∀ b ∈ [Bank.free, partBank, fullBank .staging 0 0],
        CanExecute (withInactive b) ∧ .b = inactiveBank (withInactive b).pfs.slots[slotOf 0])
      ∧ (∀ i < 122, hasPiece (bankOf (withInactive (fullBank .staging 0 0)) (slotOf 0) .b) i = true)
      ∧ (∃ i < 122, hasPiece (bankOf (withInactive partBank) (slotOf 0) .b) i = false)
      ∧ (bankOf (withInactive Bank.free) (slotOf 0) .b).state ≠ .staging := by decide +kernel

/-- The check word of the test banks. -/
def goodWord : Nat :=
  checkWord (fullBank .checking 0 0)

theorem test_witness_BankCheckEnd :
    Quiet (checking goodWord none) ∧ (checking goodWord none).pfs.check = some (0, .b)
      ∧ (checking goodWord none).lrx.execute = some (requestFrame 4 (.profileCommit 0))
      ∧ checkWord (bankOf (checking goodWord none) 0 .b) = expectedWord (bankOf (checking goodWord none) 0 .b)
      ∧ checkWord (bankOf (checking 65535 none) 0 .b) ≠ expectedWord (bankOf (checking 65535 none) 0 .b)
      ∧ (checking goodWord (some (requestFrame 5 .queryLine))).lrx.intake = some (requestFrame 5 .queryLine) := by
  decide +kernel

theorem test_witness_ProfileDiscard :
    (∀ b ∈ [Bank.free, partBank],
        CanExecute (withInactive b) ∧ .b = inactiveBank (withInactive b).pfs.slots[slotOf 0])
      ∧ (bankOf (withInactive partBank) (slotOf 0) .b).state = .staging
      ∧ (bankOf (withInactive Bank.free) (slotOf 0) .b).state ≠ .staging := by decide +kernel

/-! ### Witnesses: the run list and the line -/

/-- What SegmentOpen asks of a state, for slot 0 and fabric slot 0. -/
abbrev CanOpen (s : State) (seg : Tag) : Prop :=
  CanExecute s ∧ s.line.width ≠ 0 ∧ s.mou.mode ≠ .stopping ∧ s.alc.reaction = .note ∧ s.rls.length < 32
    ∧ (∀ r ∈ s.rls, r.tag ≠ seg) ∧ activeBank s.pfs.slots[slotOf 0] = some .a
    ∧ headerOf (bankOf s (slotOf 0) .a) = some header1 ∧ s.tnc.intake = some 0
    ∧ s.tnc.fabrics[(0 : Fin 16)].record = some fabric1
    ∧ (header1.nominal : Int) - 40 * s.htc.grade ≤ fabric1.maxTemp

theorem test_witness_SegmentOpen :
    (CanOpen loaded 8 ∧ loaded.tnc.source = none
        ∧ loaded.mou.p + loaded.line.intakeLead + loaded.line.nipDist ≤ loaded.mou.p + loaded.tnc.group.taperLen)
      ∧ (CanOpen filling 8 ∧ filling.rls ≠ [] ∧ ∃ y ∈ filling.rls, y.tag = 7)
      ∧ 1 ≤ (1 : W16).toNat := by decide +kernel

/-- The filling line with its record PRINTING. -/
def printing (fill : FillState) (cursor : Option FillCursor) : State :=
  { filling with rls := [{ record0 with print := .printing, fill := fill }], cpa := cursor }

theorem test_witness_SegmentAbort :
    (CanExecute filling ∧ findSeg 7 filling.rls = some record0 ∧ accepted filling.lrx.line = false
        ∧ record0.print = .waiting ∧ ∃ c ∈ filling.cpa, c.tag = 7)
      ∧ (CanExecute (printing .filling (some { tag := 7, line := 1, pixel := 3 }))
        ∧ ∃ r ∈ findSeg 7 (printing .filling (some { tag := 7, line := 1, pixel := 3 })).rls,
          r.print = .printing ∧ r.fill = .filling)
      ∧ (CanExecute (printing .sealed none) ∧ (printing .sealed none).cpa = none
        ∧ ∃ r ∈ findSeg 7 (printing .sealed none).rls, r.print = .printing ∧ r.fill = .sealed)
      ∧ (CanExecute running ∧ ∃ r ∈ findSeg 7 running.rls, r.print = .printed) := by decide +kernel

/-- An accepted LINE frame of record 7 at its trailer, with `n` answers queued behind a busy transmitter, and the record
in a print state. -/
def arriving (print : PrintState) (slot : Bool) (n : Nat) : State :=
  ((atTrailer 0 0 1 slot).setRls [{ record0 with print := print }]).setLtx
    { Ltx.reset with tx := .gap, answers := List.replicate n (answerTo 1 .queryLine .accepted 0 []) }

theorem test_witness_SegmentAbort_arriving :
    ∀ print ∈ [PrintState.waiting, .printing],
      (CanExecute (arriving print true 0)
          ∧ overtaken true (slotsInUse (arriving print true 0) + 1) .unknownSegment ≠ .dropped)
        ∧ (CanExecute (arriving print false 3)
          ∧ overtaken false (slotsInUse (arriving print false 3) + 1) .late = .dropped)
        ∧ (∃ r ∈ findSeg 7 (arriving print false 3).rls, r.print = print ∧ r.fill = .filling)
        ∧ ∃ c ∈ (arriving print false 3).cpa, c.tag = 7 := by decide +kernel

/-- The filling line in a mode. -/
def inMode (mode : LineMode) : State :=
  filling.setMou (motion mode 50 0 0 0)

theorem test_witness_RunDirective :
    (∀ m ∈ [LineMode.standby, .warmup, .run, .stopping, .halted],
        CanExecute (inMode m) ∧ (inMode m).mou.mode = m ∧ (inMode m).alc.reaction ≠ .stop)
      ∧ (CanExecute broken ∧ broken.mou.mode ≠ .stopping ∧ broken.alc.reaction = .stop)
      ∧ 1 ≤ (1 : W16).toNat ∧ (500 : W16).toNat ≤ 500 := by decide +kernel

theorem test_witness_StopDirective :
    ∀ m ∈ [LineMode.standby, .warmup, .run, .stopping, .halted],
      CanExecute (inMode m) ∧ (inMode m).mou.mode = m := by decide +kernel

theorem test_witness_ClearLine :
    (CanExecute filling ∧ filling.mou.mode = .standby ∧ filling.alc.stack = [])
      ∧ (CanExecute (atTrailer 0 0 1 true) ∧ (atTrailer 0 0 1 true).mou.mode = .standby
        ∧ (atTrailer 0 0 1 true).alc.stack = []) := by decide +kernel

/-! ### Witnesses: the paper path -/

theorem test_witness_EncoderEdge :
    Quiet running ∧ (false = running.mou.encA ↔ false = running.mou.encB)
      ∧ (running.mou.encA, running.mou.encB, false, true) ∈ [(false, false, false, true), (false, true, true, true),
          (true, true, true, false), (true, false, false, false)]
      ∧ (running.mou.encA, running.mou.encB, true, false) ∈ [(false, false, true, false), (true, false, true, true),
          (true, true, false, true), (false, true, false, false)]
      ∧ (Quiet (running.setMou (motion .run 281474976710655 100 10 5))
        ∧ 281474976710655 ≤ (running.setMou (motion .run 281474976710655 100 10 5)).mou.p) := by decide +kernel

/-- The running line with a taper under way, `left` counts before its end at P + 1. -/
def tapering (left : Int) : State :=
  running.setTnc { running.tnc with taper := some {
    fromUnwind := 900, fromRewind := 700, newFabric := 0, prevFabric := 1, t0 := 100, length := 16 + left.toNat,
    q := 115 } }

theorem test_witness_EncoderEdge_tension :
    (∀ left ∈ [(0 : Int), 1], Quiet (tapering left) ∧ segsAfter 7 (tapering left).rls = []
        ∧ ∀ x ∈ (tapering left).rls, (tapering left).mou.p + 1 < retirePosition (tapering left).line x)
      ∧ (Quiet (filling.setTnc { filling.tnc with source := none }) ∧ record0.live = true
        ∧ record0.start + line1.nipDist ≤ filling.mou.p + 1 + filling.tnc.group.taperLen
        ∧ filling.mou.p + 1 < retirePosition line1 record0) := by decide +kernel

/-- The filling line one count before its record's first line is due at bar 1. -/
def beforeDue : State :=
  filling.setMou (motion .standby 99 0 0 0)

theorem test_witness_BarsHandleAllDue :
    Quiet beforeDue ∧ RunListOrdered beforeDue ∧ (∀ r ∈ beforeDue.rls, 1 ≤ r.lines)
      ∧ beforeDue.bars[(0 : Bar)].cursor = some (7, 0) ∧ (findSeg 7 beforeDue.rls).isSome
      ∧ ends (exec (.encoderEdge true false) beforeDue) fun t => t.mou.p = beforeDue.mou.p + 1 :=
  ⟨by decide +kernel, by decide +kernel, by decide +kernel, by decide +kernel, by decide +kernel,
    ends_of (by decide +kernel)⟩

/-- The line of `s` with bar `k` alone at line `n` of record 7, in a bar state, one count before the line is due. -/
def oneBarAt (k : Bar) (n : Nat) (state : BarState) (s : State) : State :=
  (s.setMou (motion .standby (99 + n) 0 0 0)).setBars
    ((Vector.replicate 6 { state := .active, cursor := none, fault := false, port := [] }).set k
      { state := state, cursor := some (7, n), fault := false, port := [] })

/-- What the clauses for one handled line ask of a state. -/
abbrev Handles (s : State) (k : Bar) (n : Nat) : Prop :=
  Quiet s ∧ RunListOrdered s
    ∧ ∃ r ∈ findSeg 7 s.rls, n < r.lines ∧ duePosition s.line r k n ≤ s.mou.p + 1
      ∧ s.mou.p + 1 < retirePosition s.line r

/-- The filled line: both entries READY, the record SEALED. -/
def filled : State :=
  { filling with
    rls := [{ record0 with fill := .sealed, print := .printing }], cpa := none,
    lst := [0, 1].map fun n =>
      { tag := 7, line := n, state := .ready, written := List.replicate 64 #v[1, 2, 3, 0, 1, 2], provisional := [] } }

theorem test_witness_BarsHandleAllDue_one :
    ∀ x ∈ [(BarState.active, 0), (.active, 1), (.faulted, 1)], Handles (oneBarAt 0 x.2 x.1 filled) 0 x.2 := by
  decide +kernel

theorem test_witness_BarsHandleAllDue_lost :
    Handles (oneBarAt 0 0 .active (printing .filling (some { tag := 7, line := 0, pixel := 0 }))) 0 0
      ∧ Handles (oneBarAt 0 1 .active (printing .filling (some { tag := 7, line := 1, pixel := 3 }))) 0 1 := by
  decide +kernel

theorem test_witness_BarsHandleAllDue_overtaken :
    Handles (oneBarAt 0 0 .active (arriving .printing true 0)) 0 0
      ∧ (Handles (oneBarAt 0 0 .active (arriving .printing false 4)) 0 0
        ∧ overtaken false (slotsInUse (oneBarAt 0 0 .active (arriving .printing false 4))) .late = .dropped) := by
  decide +kernel

theorem test_witness_BarsHandleAllDue_due :
    ∀ n ∈ [0, 1], (oneBarAt 0 n .active filled).bars[(0 : Bar)].cursor = some (7, n)
      ∧ (n + 1 < record0.lines → (oneBarAt 0 n .active filled).mou.p + 1 < duePosition line1 record0 0 (n + 1))
      ∧ (record0.lines ≤ n + 1 → cursorAfter (oneBarAt 0 n .active filled).rls record0 n = none)
      ∧ ∀ j : Bar, j ≠ 0 → NotDue (oneBarAt 0 n .active filled) j ((oneBarAt 0 n .active filled).mou.p + 1) := by
  intro n hn
  refine ⟨by revert n; decide +kernel, by revert n; decide +kernel, by revert n; decide +kernel, fun j hj => .inr (.inl ?_)⟩
  revert n j
  decide +kernel

/-- The running line with its record in a calender state, one count before a position. -/
def calenderAt (state : CalenderState) (p : Nat) : State :=
  { running with
    rls := [{ record1 with calender := state, dwell := none, traceSent := decide (state = .retired) }],
    mou := motion .run (p - 1) 100 10 5 }

theorem test_witness_CalenderTransitions :
    ∀ x ∈ [(CalenderState.approach, 109), (.approach, 110), (.approach, 132), (.inArc, 131), (.inArc, 132),
        (.retired, 133)],
      Quiet (calenderAt x.1 x.2) ∧ ((calenderAt x.1 x.2).rls.map Segment.tag).Nodup
        ∧ leadPosition line1 record1 = 110 ∧ retirePosition line1 record1 = 132
        ∧ endsBool (exec (.encoderEdge true false) (calenderAt x.1 x.2)) (fun t => t.mou.p = x.2) = true := by
  decide +kernel

/-- The running line after `moved` counts, with its record's dwell counter at `c`. -/
def sampled (moved : Nat) (c : Option Nat) : State :=
  { running with
    rls := [{ record1 with dwell := c }],
    mou := { running.mou with pLast := running.mou.p - moved, target := 10, reference := 10 } }

theorem test_witness_LineSample :
    (∀ x ∈ [(0, none), (1, some 1), (2, some 1), (2, some 2)],
        Quiet (sampled x.1 x.2) ∧ ((sampled x.1 x.2).rls.map Segment.tag).Nodup)
      ∧ (0 ≤ dwellCap line1 record1 ∧ measuredSpeed 116 115 1000 = 20 ∧ dwellCap line1 record1 = 20
        ∧ measuredSpeed 117 115 1000 = 40)
      ∧ (∀ r ∈ (sampled 0 none).rls, r.dwell = none) ∧ (sampled 0 none).mou.mode = .run
      ∧ (Quiet (inMode .stopping) ∧ (inMode .stopping).mou.reference ≤ (inMode .stopping).line.accel
        ∧ ∀ r ∈ (inMode .stopping).rls, r.dwell = none)
      ∧ (filling.setMou (motion .stopping 50 100 0 11)).line.accel
        < (filling.setMou (motion .stopping 50 100 0 11)).mou.reference := by decide +kernel

theorem test_witness_FaultInputs_drive :
    (Quiet loaded ∧ loaded.mou.driveFault = false)
      ∧ (Quiet (loaded.setMou { loaded.mou with driveFault := true }))
      ∧ ((∀ src, sourcePending recovered.alc src = false)
        ∧ (∀ e ∈ recovered.alc.stack, e.level < 3 ∧ e.source ≠ .driveFault)
        ∧ recovered.alc.config[AlertSource.driveFault.index] = { level := some 3, grade := .stop, mode := .latched }
        ∧ recovered.alc.reaction ≠ .stop ∧ Quiet recovered) :=
  ⟨by decide +kernel, by decide +kernel, for_all_sources (by decide +kernel), by decide +kernel, by decide +kernel,
    by decide +kernel, by decide +kernel⟩

/-- The filling line with bar 6 FAULTED. -/
def bar6Faulted : State :=
  { filling with
    bars := filling.bars.set 5 { state := .faulted, cursor := some (7, 0), fault := true, port := [] },
    alc := { filling.alc with
      holds := filling.alc.holds.set 7 true, stack := [], condCtx := filling.alc.condCtx.set 7 (some ctx0) } }

theorem test_witness_FaultInputs_bar :
    (Quiet filling ∧ filling.bars[(5 : Bar)].state = .active ∧ ∀ j : Bar, filling.bars[j].state ≠ .faulted)
      ∧ (Quiet bar6Faulted ∧ bar6Faulted.bars[(0 : Bar)].state = .active
        ∧ ∃ j : Bar, bar6Faulted.bars[j].state = .faulted)
      ∧ bar6Faulted.bars[(5 : Bar)].state ≠ .active := by decide +kernel

theorem test_witness_TensionReadings :
    Quiet loaded ∧ zoneIdle loaded.tnc .paperUnwind = false
      ∧ zoneIdle (loaded.tnc) .fabricUnwind = false
      ∧ (Quiet State.reset ∧ zoneIdle State.reset.tnc .rewind = true)
      ∧ loaded.tnc.zones[(2 : Fin 3)].timer ≠ none
      ∧ (loaded.setTnc { loaded.tnc with zones := loaded.tnc.zones.set 2 { loaded.tnc.zones[2] with timer := none } }
        ).tnc.zones[(2 : Fin 3)].timer = none := by decide +kernel

/-- A record in the arc that fails its band at zone 0, while HEAT_OFF_BAND does not hold. -/
theorem test_witness_HeatSample_off_band :
    Quiet running ∧ running.alc.holds[AlertSource.heatOffBand.index] = false
      ∧ ends (exec (.heatSample (some 1839) (some 1840) (some 1900) (some 1960)) running) fun t =>
        ZoneOut t.htc record1 0 ∧ ¬ZoneOut t.htc record1 1 ∧ ¬ZoneOut t.htc record1 3 ∧ record1.calender = .inArc
          ∧ t.alc.holds[AlertSource.heatOffBand.index] = true :=
  ⟨by decide +kernel, by decide +kernel, ends_of (by decide +kernel)⟩

/-- The filling line with zone 0 as given. -/
def withZone (z : HeatZone) : State :=
  filling.setHtc { filling.htc with zones := filling.htc.zones.set 0 z }

theorem test_witness_HeatSample :
    (Quiet filling ∧ filling.htc.zones[(0 : Fin 4)].first = false)
      ∧ (Quiet (withZone { HeatZone.reset with first := true, overTemp := true })
        ∧ (withZone { HeatZone.reset with first := true, overTemp := true }).htc.zones[(0 : Fin 4)].overTemp = true)
      ∧ ((withZone { HeatZone.reset with missCount := 2 }).htc.zones[(0 : Fin 4)].missCount < 3)
      ∧ (3 ≤ (withZone { HeatZone.reset with missCount := 3 }).htc.zones[(0 : Fin 4)].missCount) := by decide +kernel

/-- The heat controller of the running line with the grade and zone 0's counters as given, and every recover counter at
`recov`. -/
def heatAt (grade sat recov : Nat) : State :=
  running.setHtc { running.htc with
    grade := grade,
    zones := (Vector.replicate 4 { HeatZone.reset with first := true, setpoint := 1900, recov := recov }).set 0
      { HeatZone.reset with
        first := true, setpoint := 1900, sat := sat, recov := recov, output := 1000, integ := 256000 } }

/-- The zones after a sample set with zone 0 at `m` and the others at 1,900. -/
def zonesAfter (m : Int) (s : State) : Htc :=
  heatZoneSteps #v[some m, some 1900, some 1900, some 1900] s.htc

theorem test_witness_WarmupAndGrade_mode :
    (Quiet (inMode .warmup) ∧ (inMode .warmup).mou.mode = .warmup)
      ∧ (∀ i : Fin 4, (heatZoneSteps #v[some 1850, some 1800, some 1750, some 1800] (inMode .warmup).htc).zones[i].missing
          = false
        ∧ |(heatZoneSteps #v[some 1850, some 1800, some 1750, some 1800] (inMode .warmup).htc).zones[i].measured
          - ((inMode .warmup).htc.target + (inMode .warmup).htc.group.trim[i])| ≤ 50)
      ∧ (50 : Int) < |(heatZoneSteps #v[some 1851, none, none, none] (inMode .warmup).htc).zones[(0 : Fin 4)].measured
          - 1800| := by decide +kernel

theorem test_witness_WarmupAndGrade_grade :
    (Quiet (heatAt 2 39 0) ∧ ∃ i : Fin 4, (zonesAfter 1700 (heatAt 2 39 0)).group.derateCount
        ≤ (zonesAfter 1700 (heatAt 2 39 0)).zones[i].sat)
      ∧ (Quiet (heatAt 1 0 479) ∧ (∀ i : Fin 4, (zonesAfter 2000 (heatAt 1 0 479)).zones[i].sat < 40)
        ∧ ∀ i : Fin 4, 480 ≤ (zonesAfter 2000 (heatAt 1 0 479)).zones[i].recov)
      ∧ (∃ i : Fin 4, (zonesAfter 2000 (heatAt 1 0 478)).zones[i].recov < 480) := by decide +kernel

theorem test_witness_HardwareReset :
    (running.mou.driveFault = false ∧ ∀ k : Bar, running.bars[k].fault = false)
      ∧ ((running.setMou { running.mou with driveFault := true }).mou.driveFault = true) := by decide +kernel

/-! ### Witnesses: the colour path and the arbiter -/

theorem test_witness_InkLimit :
    (4096 : Nat) ≤ 4096 ∧ (4096 : Nat) ≤ 24576 ∧ (∀ c : Fin 6, (Vector.replicate 6 4096)[c] ≤ 4096)
      ∧ (Vector.replicate 6 4096).toList.sum = 24576
      ∧ (#v[4096, 0, 0, 0, 0, 0] : Vector Nat 6).toList.sum = 4096
      ∧ (#v[4096, 1, 0, 0, 0, 0] : Vector Nat 6).toList.sum = 4097 := by decide +kernel

theorem test_witness_InkLimit_bank : BankClamped exampleBank ∧ headerOf exampleBank = some header1 := by decide +kernel

theorem test_witness_ColourBounds : BankClamped (fullBank .active 1 0) ∧ BankClamped exampleBank := by decide +kernel

/-- LINE_LOST pending as an occurrence, under WEB_BREAK on the stack, and DRIVE_FAULT holding. -/
def lateAlerts : Alc :=
  { broken.alc with
    holds := broken.alc.holds.set 2 true, occ := Alc.reset.occ.set 8 (some { merge := 1, ctx := ctx0 }) }

theorem test_witness_EligibleSource :
    (sourcePending bar6Faulted.alc .barFault = true ∧ eligible bar6Faulted.alc .barFault = true
        ∧ AlertSource.barFault.isCondition = true)
      ∧ eligible { bar6Faulted.alc with threshold := 3 } .barFault = false
      ∧ (sourcePending lateAlerts .driveFault = true
        ∧ lateAlerts.config[AlertSource.driveFault.index].level = some 3
        ∧ ∀ e ∈ lateAlerts.stack, e.source ≠ .driveFault)
      ∧ (sourcePending { lateAlerts with stack := [] } .lineLost = true
        ∧ lateAlerts.config[AlertSource.lineLost.index].level = some 0
        ∧ eligible { lateAlerts with stack := [] } .lineLost = true) := by decide +kernel

/-! ### One event of each command -/

/-- A CRC-good COMMAND of an unknown code: chapter 2's first session answers it MALFORMED. -/
theorem test_malformed_answer :
    ends (exec (.malformedControlFrame { longFrame with payload := [0x7F] }) State.reset) fun s =>
      s.ltx.tx = .sending .answer (upFrame 0x81 0 9 [0x03, 0x7F, 2, 0, 0, 0, 0, 0]) := ends_of (by decide +kernel)

/-- The first session: SEGMENT_OPEN before any LINE_CONFIG. -/
theorem test_open_before_line_config :
    ends (exec (.segmentOpen 1 0 10 9600 0) State.reset) fun s =>
      Answers s 1 (.segmentOpen 0 10 9600 0) .wrongMode 0 := ends_of (by decide +kernel)

/-- The first session: a hold mark above the resume mark. -/
theorem test_line_config_marks :
    ends (exec (.lineConfig 1 { lineFields1 with holdMark := 3000, resumeMark := 2048 }) State.reset) fun s =>
      Answers s 1 (.lineConfig { lineFields1 with holdMark := 3000, resumeMark := 2048 }) .outOfRange 0
        ∧ s.line = State.reset.line := ends_of (by decide +kernel)

/-- A width of 63 is below the range of R24. -/
theorem test_line_config_width : lineRangeOk { lineFields1 with width := 63 } = false := by decide +kernel

/-- The first session's header piece: ink limit sent 30,000. -/
def sessionHeader (nominal : W16) : TableBody :=
  .header {
    nominal := nominal
    tolerance := 30
    minDwell := 8000
    inkLimit := 30000
    name := ⟨75, 78, 73, 84, 48, 48, 48, 49⟩
    check := 0 }

theorem test_table_header_clamped :
    ends (exec (.table 1 0 121 (sessionHeader 2050)) State.reset) fun s =>
      (bankOf s 0 .a).state = .staging ∧ inkLimitOf (bankOf s 0 .a) = 24576 ∧ missingCount (bankOf s 0 .a) = 121 :=
  ends_of (by decide +kernel)

theorem test_table_header_refused :
    ends (exec (.table 1 0 121 (sessionHeader 2500)) State.reset) fun s => (bankOf s 0 .a).pieces = [] :=
  ends_of (by decide +kernel)

theorem test_bank_check_match :
    ends (exec .bankCheckEnd (checking goodWord none)) fun s =>
      (bankOf s 0 .b).state = .active ∧ (bankOf s 0 .a).state = .free ∧ s.lrx.execute = none :=
  ends_of (by decide +kernel)

theorem test_bank_check_mismatch :
    ends (exec .bankCheckEnd (checking 65535 none)) fun s =>
      (bankOf s 0 .b).state = .staging ∧ s.alc.firstAlert.map Prod.fst = some .profileCheck :=
  ends_of (by decide +kernel)

theorem test_commit_takes_time :
    ends (exec (.profileCommit 4 0) (withInactive (fullBank .staging 0 0))) fun s =>
      (bankOf s 0 .b).state = .checking ∧ s.ltx.tx = .idle ∧ s.cmuSlot = true := ends_of (by decide +kernel)

theorem test_discard_staged :
    ends (exec (.profileDiscard 4 0) (withInactive partBank)) fun s => bankOf s 0 .b = Bank.free :=
  ends_of (by decide +kernel)

/-- R87: the base pitch of 2 counts for a line is 131,072. -/
theorem test_line_config_base :
    ends (exec (.lineConfig 1 { lineFields1 with encNum := 2 }) loaded) fun s => s.line.base = 131072 :=
  ends_of (by decide +kernel)

theorem test_heat_config_idle :
    ends (exec (.heatConfig 1 (heatFields1 0)) loaded) fun s => s.htc.target = 2300 ∧ s.htc.band = 5 :=
  ends_of (by decide +kernel)

theorem test_tension_config :
    ends (exec (.tensionConfig 1 tensionFields1) loaded) fun s => s.tnc.group.taperLen = 1 := ends_of (by decide +kernel)

/-- A bar that was OFF with its fault input asserted is FAULTED when it is enabled. -/
theorem test_bar_config_faulted :
    ends (exec (.barConfig 1 63) barOff) fun s =>
      s.bars[(1 : Bar)].state = .faulted ∧ s.alc.holds[AlertSource.barFault.index] = true := ends_of (by decide +kernel)

theorem test_bar_config_off :
    ends (exec (.barConfig 1 1) filling) fun s =>
      s.bars[(0 : Bar)].state = .active ∧ s.bars[(5 : Bar)].state = .off ∧ s.bars[(5 : Bar)].cursor = none :=
  ends_of (by decide +kernel)

theorem test_alert_config_fixed_source : alertRangeOk 2 1 0 0 = false ∧ alertRangeOk 4 1 0 1 = false := by
  decide +kernel

theorem test_alert_config_off :
    ends (exec (.alertConfig 1 8 0xFF 0 1) loaded) fun s =>
      s.alc.config[AlertSource.lineLost.index] = { level := none, grade := .note, mode := .fast } :=
  ends_of (by decide +kernel)

theorem test_alert_hold :
    ends (exec (.alertHold 1 3) loaded) fun s => s.alc.threshold = 3 := ends_of (by decide +kernel)

/-- R181: popping the last entry lets the reaction fall to NOTE; the detail is the source's number, 3. -/
theorem test_alert_clear :
    ends (exec (.alertClear 1) recovered) fun s =>
      s.alc.stack = [] ∧ s.alc.reaction = .note ∧ Answers s 1 .alertClear .accepted 3 := ends_of (by decide +kernel)

theorem test_alert_log_reset :
    ends (exec (.alertLogReset 1) running) fun s => s.alc.firstAlert = none := ends_of (by decide +kernel)

theorem test_fabric_load_in_use :
    ends (exec (.fabricLoad 1 (fabricFields1 0)) loaded) fun s =>
      Answers s 1 (.fabricLoad (fabricFields1 0)) .slotInUse 0 ∧ s.tnc = loaded.tnc := ends_of (by decide +kernel)

theorem test_splice_starts_taper :
    ends (exec (.splice 1 1) loaded) fun s =>
      s.tnc.intake = some 1 ∧ s.tnc.taper.map Taper.t0 = some 50 := ends_of (by decide +kernel)

theorem test_open_at_tail :
    ends (exec (.segmentOpen 1 0 8 64 5) filling) fun s =>
      s.rls.map Segment.tag = [7, 8] ∧ s.rls.map Segment.start = [100, 107] ∧ (bankOf s 0 .a).count = 2 :=
  ends_of (by decide +kernel)

theorem test_abort_waiting :
    ends (exec (.segmentAbort 1 7) filling) fun s =>
      s.rls = [] ∧ s.cpa = none ∧ s.bars[(0 : Bar)].cursor = none ∧ (bankOf s 0 .a).count = 0 :=
  ends_of (by decide +kernel)

theorem test_run_enters_warmup :
    ends (exec (.run 1 120) loaded) fun s =>
      s.mou.mode = .warmup ∧ s.mou.requested = 120 ∧ s.lrx.timer = some 500 ∧ s.mou.nipClosed = false :=
  ends_of (by decide +kernel)

theorem test_stop_spoils_the_arc :
    ends (exec (.stop 1) running) fun s =>
      s.mou.mode = .stopping ∧ s.rls.map (fun r => r.flags.spoiled) = [true] ∧ s.mou.nipClosed = false :=
  ends_of (by decide +kernel)

theorem test_clear_line :
    ends (exec (.clearLine 1) filling) fun s =>
      s.rls = [] ∧ s.mou.p = 0 ∧ Answers s 1 .clearLine .accepted 1 := ends_of (by decide +kernel)

theorem test_query_segment_missing :
    ends (exec (.querySegment 1 9) filling) fun s => Answers s 1 (.querySegment 9) .notFound 0 :=
  ends_of (by decide +kernel)

/-- The reply records' lengths, as section 11.6 gives them. -/
theorem test_record_lengths :
    (segmentRecord record1).length = 51 ∧ (runlistRecord filling).length = 18 ∧ (bankRecord filling 0).length = 38
      ∧ (fabricRecord filling 0).length = 19 ∧ (zonesRecord filling).length = 105 ∧ (alertsRecord running).length = 131
      ∧ (lineRecord filling).length = 56 := by decide +kernel

theorem test_start_mark_opens :
    ends (exec .startMark (idleFor 4)) fun s => s.lrx.state = .header ∧ s.lrx.crc = 0xFFFF := ends_of (by decide +kernel)

theorem test_start_mark_gap_violation :
    ends (exec .startMark (idleFor 3)) fun s =>
      s.lrx.state = .skip ∧ s.alc.firstAlert.map Prod.fst = some .linkError := ends_of (by decide +kernel)

theorem test_data_symbol_too_long :
    ends (exec (.dataSymbol 0) (inHeader 3085)) fun s => s.lrx.state = .skip := ends_of (by decide +kernel)

/-- The third byte of the first pixel: six levels from a bank whose every value is 700 (R61 to R66): 700 in every
amount, so the curve's node 700 again; 2,100 of a drop against a threshold of 700 is level 1. -/
theorem test_data_symbol_pixel :
    ends (exec (.dataSymbol 10) (inLine .payload 0 0 64 false [200, 64] [])) fun s =>
      s.lst.map Entry.provisional = [[#v[1, 1, 1, 1, 1, 1]]] := ends_of (by decide +kernel)

theorem test_idle_drops_frame :
    ends (exec .idleFill (inFrame .trailer [1, 2, 3] [])) fun s => s.lrx.state = .hunt ∧ s.lrx.idle = 1 :=
  ends_of (by decide +kernel)

/-- A good LINE frame ends line 0: the cursor goes to line 1 and the entry is READY. -/
theorem test_end_mark_line_complete :
    ends (exec .endMark (atTrailer 0 63 1 false)) fun s =>
      s.cpa = some { tag := 7, line := 1, pixel := 0 } ∧ s.lst.map Entry.state = [.ready] := ends_of (by decide +kernel)

theorem test_end_mark_bad_crc :
    ends (exec .endMark (inFrame .trailer [1, 2, 3] [0, 0])) fun s =>
      s.lrx.state = .hunt ∧ s.alc.firstAlert.map (fun x => x.2.link) = some (some {
        subcode := .crc, kind := 2, tag := 1 }) := ends_of (by decide +kernel)

theorem test_abort_mark_releases_entry :
    ends (exec .abortMark (atTrailer 0 0 1 true)) fun s => s.lst = [] ∧ s.lrx.state = .hunt := ends_of (by decide +kernel)

theorem test_frame_sent_trace :
    ends (exec .frameSent tracing) fun s => s.rls = [] ∧ s.ltx.tx = .gap := ends_of (by decide +kernel)

theorem test_gap_end_notice_overrun :
    ends (exec .gapEnd (noticeQueued filling true)) fun s =>
      s.ltx.overrun = false ∧ s.ltx.tx = .sending .notice (upFrame 0x84 1 0 (noticePayload notice1)) :=
  ends_of (by decide +kernel)

/-- R20, R95: a lost link begins LINK_LOST, whose grade SLOW takes the speed down to creep. -/
theorem test_link_timeout_slows :
    ends (exec .linkTimeout { recovered with alc := Alc.reset, mou := motion .run 115 100 20 20 }) fun s =>
      s.alc.reaction = .slow ∧ s.mou.reference = 10 ∧ s.lrx.timer = none := ends_of (by decide +kernel)

theorem test_encoder_both_change :
    ends (exec (.encoderEdge true true) running) fun s => s.mou.p = 115 := ends_of (by decide +kernel)

/-- R137: bar 1 reaches a line that is not filled: the line is lost, the record PRINTING, the cursor at line 1. -/
theorem test_encoder_lost_line :
    ends (exec (.encoderEdge true false) beforeDue) fun s =>
      s.rls.map (fun r => (r.lost, r.print)) = [(1, .printing)] ∧ s.bars[(0 : Bar)].cursor = some (7, 1)
        ∧ s.cpa = some { tag := 7, line := 1, pixel := 0 } := ends_of (by decide +kernel)

/-- R101: the third sample above the cap in a row sets DWELL_SHORT. -/
theorem test_line_sample_dwell_short :
    ends (exec .lineSample (sampled 2 (some 2))) fun s =>
      s.rls.map (fun r => (r.dwell, r.flags.dwellShort)) = [(none, true)] ∧ s.mou.speed = 40 :=
  ends_of (by decide +kernel)

theorem test_line_sample_stop_complete :
    ends (exec .lineSample (inMode .stopping)) fun s => s.mou.mode = .standby := ends_of (by decide +kernel)

theorem test_drive_fault_stops :
    ends (exec (.driveFaultInput true) running) fun s =>
      s.mou.mode = .stopping ∧ s.mou.cause = .reaction ∧ s.alc.reaction = .stop ∧ s.alc.stack.length = 2 :=
  ends_of (by decide +kernel)

theorem test_bar_fault :
    ends (exec (.barFaultInput 5 true) filling) fun s =>
      s.bars[(5 : Bar)].state = .faulted ∧ s.alc.reaction = .holdIntake := ends_of (by decide +kernel)

/-- Standstill at 40 %: the paper zone's target is 400 of 1,000 dN, and the error 100 gives 32·100/16 + 200/256. -/
theorem test_tension_reading_standstill :
    ends (exec (.tensionReading .paperUnwind 300) loaded) fun s =>
      s.tnc.zones[(0 : Fin 3)].target = 400 ∧ s.tnc.zones[(0 : Fin 3)].output = 200 := ends_of (by decide +kernel)

theorem test_tension_missing :
    ends (exec (.tensionMissingTimeout .rewind) loaded) fun s =>
      s.tnc.zones[(2 : Fin 3)].missing = true ∧ s.alc.holds[AlertSource.tensionWindow.index] = true :=
  ends_of (by decide +kernel)

/-- R158: the fourth absent entry in a row sets the missing flag. -/
theorem test_heat_sample_missing :
    ends (exec (.heatSample none (some 0) (some 0) (some 0)) (withZone { HeatZone.reset with missCount := 3 })) fun s =>
      s.htc.zones[(0 : Fin 4)].missing = true ∧ s.alc.holds[AlertSource.heatSensor.index] = true :=
  ends_of (by decide +kernel)

/-- R155: above 245.0 °C the heater is off and OVER_TEMP stops the line. -/
theorem test_heat_sample_over :
    ends (exec (.heatSample (some 2451) (some 0) (some 0) (some 0)) filling) fun s =>
      s.htc.zones[(0 : Fin 4)].output = 0 ∧ s.htc.zones[(0 : Fin 4)].overTemp = true ∧ s.alc.reaction = .stop :=
  ends_of (by decide +kernel)

theorem test_heat_timeout_counts :
    ends (exec .heatSampleTimeout filling) fun s => s.htc.zones[(3 : Fin 4)].missCount = 1 := ends_of (by decide +kernel)

theorem test_hardware_reset : exec .hardwareReset running = .next State.reset := by
  rfl

theorem test_hardware_reset_drive_fault :
    ends (exec .hardwareReset (loaded.setMou { loaded.mou with driveFault := true })) fun s =>
      s.alc.reaction = .stop ∧ s.mou.mode = .standby ∧ s.htc.target = 800 := ends_of (by decide +kernel)

/-- No row of the table has bits, so no word spells a command. -/
theorem test_no_word_spells_a_command :
    decodeTableWord 8 0 = none ∧ (State.reset.withFetchWord 8 0) = State.reset := by decide +kernel

/-- A step takes the front command. -/
theorem test_step_takes_front :
    ends (step (loaded.setPending [.run 1 120, .stop 2])) fun s =>
      s.mou.mode = .warmup ∧ s.pending = [.stop 2] := ends_of (by decide +kernel)

end Sys2Proof.Tests
end

