-- ==== Sys2Proof/Proofs/ProfileDiscard.lean ====
section
/-! SUPPORT and the settling of O43. What PROFILE_DISCARD's form step, checks and effect come to (R21 to R27, R46), and
a refusal in a state that executes at once, the counterpart of `takeControl_accepted`. -/

namespace Sys2Proof.Machine

/-- A request that reads back and fails a check changes nothing but the answer it is given (R6, R21, R30). -/
theorem takeControl_refused (tag : Tag) (r : Request) (s : State) (code : AnswerCode) (detail : Nat)
    (h : CanExecute s) (hread : readRequest (requestFrame tag r) = some r)
    (hchecks : refusal s r = some (code, detail)) :
    takeControl (requestFrame tag r) s = deliver (answerTo tag r code detail []) s := by
  have hslot : slotFree (s.modLrx fun l => { l with execute := some (requestFrame tag r) }) = true := h.2.2.2.2.2
  have hexec : executeFrame (requestFrame tag r) (executing tag r s)
      = (executing tag r s, .answer code detail []) := by
    simp [executeFrame, hread, hchecks]
  have hstart : startExecution (requestFrame tag r)
        (s.modLrx fun l => { l with execute := some (requestFrame tag r) })
      = queueAnswer (answerTo tag r code detail []) (advanceBuffers ((executing tag r s).setCmuSlot false)) := by
    unfold startExecution
    rw [if_pos hslot, ← executing, hexec]
    rfl
  rw [takeControl_canExecute _ s h, hstart, advanceBuffers_executing tag r s h, settle_queueAnswer _ s h.1]

/-- A change of a bank leaves CMU as ready to execute as it was (R5, R6). -/
theorem canExecute_modBank (s : State) (n : Fin 8) (id : BankId) (f : Bank → Bank) (h : CanExecute s) :
    CanExecute (s.modBank n id f) := by
  obtain ⟨hquiet, hcheck, hexecute, hintake, hcmu, hslot⟩ := h
  exact ⟨quiet_congr s _ rfl rfl rfl rfl rfl hquiet, hcheck, hexecute, hintake, hcmu, hslot⟩

/-- PROFILE_DISCARD passes the form step (R22). -/
theorem readRequest_profileDiscard (tag : Tag) (slot : Byte) :
    readRequest (requestFrame tag (.profileDiscard slot)) = some (.profileDiscard slot) := rfl

/-- With its slot in range, PROFILE_DISCARD passes in every line mode, and its one object check is that the inactive
bank is STAGING (R25 to R27, R46). -/
theorem refusal_profileDiscard (s : State) (slot : Byte) (h : slot.toNat ≤ 7) :
    refusal s (.profileDiscard slot)
      = if (bankOf s (slotOf slot) (inactiveBank s.pfs.slots[slotOf slot])).state = .staging then none
        else some (.notFound, 0) := by
  have hrange : rangeOk (.profileDiscard slot) = true := decide_eq_true h
  rw [refusal, hrange]
  rfl

/-- PROFILE_DISCARD of a STAGING inactive bank comes to its effect and ACCEPTED (R46). -/
theorem exec_profileDiscard_staging (s : State) (tag : Tag) (slot : Byte) (h : CanExecute s) (hslot : slot.toNat ≤ 7)
    (hstaging : (bankOf s (slotOf slot) (inactiveBank s.pfs.slots[slotOf slot])).state = .staging) :
    exec (.profileDiscard tag slot) s
      = .next (deliver (answerTo tag (.profileDiscard slot) .accepted 0 []) (discardEffect (slotOf slot) s)) := by
  have hpass : refusal s (.profileDiscard slot) = none := by rw [refusal_profileDiscard s slot hslot, if_pos hstaging]
  have heffect : perform (.profileDiscard slot) (executing tag (.profileDiscard slot) s)
      = (executing tag (.profileDiscard slot) (discardEffect (slotOf slot) s), .answer .accepted 0 []) := rfl
  have hready : CanExecute (discardEffect (slotOf slot) s) := canExecute_modBank s _ _ _ h
  have htake := takeControl_accepted tag (.profileDiscard slot) s _ .accepted 0 [] h
    (readRequest_profileDiscard tag slot) hpass heffect h.1.1 h.1.2.1 h.1.2.2.1 rfl
  rw [advanceBuffers_executing _ _ _ hready] at htake
  exact congrArg Host.Outcome.next htake

/-- PROFILE_DISCARD of an inactive bank that is not STAGING is answered NOT_FOUND; the banks stay (R27, R46). -/
theorem exec_profileDiscard_notFound (s : State) (tag : Tag) (slot : Byte) (h : CanExecute s) (hslot : slot.toNat ≤ 7)
    (hstaging : (bankOf s (slotOf slot) (inactiveBank s.pfs.slots[slotOf slot])).state ≠ .staging) :
    exec (.profileDiscard tag slot) s
      = .next (deliver (answerTo tag (.profileDiscard slot) .notFound 0 []) s) := by
  have hfail : refusal s (.profileDiscard slot) = some (.notFound, 0) := by
    rw [refusal_profileDiscard s slot hslot, if_neg hstaging]
  exact congrArg Host.Outcome.next
    (takeControl_refused tag (.profileDiscard slot) s .notFound 0 h (readRequest_profileDiscard tag slot) hfail)

/-- Settles O43: the witness is the profile store after `discardEffect`, and the rules for one changed bank say what it
holds (R36, R46). -/
theorem profileDiscard : Obligations.ProfileDiscard := by
  rintro s tag slot _ _ h hslot rfl rfl
  refine ⟨fun hstaging => ⟨discardEffect (slotOf slot) s, ?_, ?_, ?_, ?_⟩,
    exec_profileDiscard_notFound s tag slot h hslot, inactiveBank_ne_active _⟩
  · exact exec_profileDiscard_staging s tag slot h hslot hstaging
  · exact bankOf_modBank_same s _ _ _
  · exact fun m x hother => bankOf_modBank_other s _ m _ x _ hother
  · exact h.2.1

end Sys2Proof.Machine
end

section
/-! SUPPORT and the settling of O58. The sum of truncated shares of a list, what stage 3 makes of an amount and of the
sum of the six (R64), and the ink limit that a clamped bank holds (R28). -/

namespace Sys2Proof.Machine

/-! ### Sums of truncated shares -/

/-- Truncating each share `c·L / S` never takes a sum above its own share. -/
theorem sum_shares_mul_le (limit total : Nat) (l : List Nat) :
    (l.map fun c => c * limit / total).sum * total ≤ l.sum * limit := by
  induction l with
  | nil => simp
  | cons c cs ih =>
    have hc : c * limit / total * total ≤ c * limit := Nat.div_mul_le_self _ _
    simp only [List.map_cons, List.sum_cons, Nat.add_mul]
    omega

/-- Truncation loses less than one for each share. -/
theorem sum_mul_add_length_le (limit total : Nat) (htotal : 0 < total) (l : List Nat) :
    l.sum * limit + l.length ≤ ((l.map fun c => c * limit / total).sum + l.length) * total := by
  induction l with
  | nil => simp
  | cons c cs ih =>
    have hc : c * limit < (c * limit / total + 1) * total := by
      rw [Nat.mul_comm _ total]
      exact Nat.lt_mul_div_succ _ htotal
    simp only [List.map_cons, List.sum_cons, List.length_cons, Nat.add_mul, Nat.one_mul] at ih hc ⊢
    omega

/-! ### Stage 3 -/

/-- A mapped vector, read at a place. -/
@[simp] theorem vmap_getElem {α β : Type} {n : Nat} (f : α → β) (v : Vector α n) (i : Fin n) :
    (vmap f v)[i] = f v[i] := by
  simp [vmap]

/-- A mapped vector as a list. -/
@[simp] theorem vmap_toList {α β : Type} {n : Nat} (f : α → β) (v : Vector α n) :
    (vmap f v).toList = v.toList.map f := by
  have hmap : vmap f v = v.map f := by
    ext i hi
    simp [vmap]
  rw [hmap, Vector.toList_map]

/-- A sum within the limit passes unchanged (R64). -/
theorem limitInk_of_sum_le {limit : Nat} {v : Vector Nat 6} (h : v.toList.sum ≤ limit) : limitInk limit v = v :=
  if_neg (Nat.not_lt.mpr h)

/-- A sum above the limit scales every amount (R64). -/
theorem limitInk_of_lt_sum {limit : Nat} {v : Vector Nat 6} (h : limit < v.toList.sum) :
    limitInk limit v = vmap (fun c => c * limit / v.toList.sum) v :=
  if_pos h

/-- A scaled amount is the truncation of its exact share (R64). -/
theorem limitInk_getElem_of_lt_sum {limit : Nat} {v : Vector Nat 6} (h : limit < v.toList.sum) (c : Fin 6) :
    (limitInk limit v)[c] = v[c] * limit / v.toList.sum := by
  rw [limitInk_of_lt_sum h, vmap_getElem]

/-- After stage 3 the amounts sum to at most the limit (R64). -/
theorem limitInk_sum_le (limit : Nat) (v : Vector Nat 6) : (limitInk limit v).toList.sum ≤ limit := by
  rcases Nat.lt_or_ge limit v.toList.sum with h | h
  · have hpos : 0 < v.toList.sum := Nat.zero_lt_of_lt h
    rw [limitInk_of_lt_sum h, vmap_toList]
    refine Nat.le_of_mul_le_mul_right ?_ hpos
    rw [Nat.mul_comm limit]
    exact sum_shares_mul_le limit _ v.toList
  · rwa [limitInk_of_sum_le h]

/-- A scaled sum falls short of the limit by less than six (R64). -/
theorem limitInk_lt_sum_add_six {limit : Nat} {v : Vector Nat 6} (h : limit < v.toList.sum) :
    limit < (limitInk limit v).toList.sum + 6 := by
  have hpos : 0 < v.toList.sum := Nat.zero_lt_of_lt h
  have hloss := sum_mul_add_length_le limit v.toList.sum hpos v.toList
  rw [← vmap_toList, ← limitInk_of_lt_sum h, Vector.length_toList, Nat.mul_comm] at hloss
  exact Nat.lt_of_mul_lt_mul_right (a := v.toList.sum) (by omega)

/-- Stage 3 raises no amount (R64). -/
theorem limitInk_getElem_le (limit : Nat) (v : Vector Nat 6) (c : Fin 6) : (limitInk limit v)[c] ≤ v[c] := by
  rcases Nat.lt_or_ge limit v.toList.sum with h | h
  · rw [limitInk_getElem_of_lt_sum h]
    refine Nat.div_le_of_le_mul ?_
    rw [Nat.mul_comm]
    exact Nat.mul_le_mul_right _ h.le
  · rw [limitInk_of_sum_le h]

/-- Six amounts within 0..4096 sum to at most 24,576, the highest limit (R64). -/
theorem sum_inks_le {v : Vector Nat 6} (h : ∀ c : Fin 6, v[c] ≤ 4096) : v.toList.sum ≤ 24576 := by
  have hall : ∀ a ∈ v.toList, a ≤ 4096 := by
    intro a ha
    obtain ⟨i, hi, rfl⟩ := Vector.getElem_of_mem (Vector.mem_toList_iff.mp ha)
    exact h ⟨i, hi⟩
  simpa using List.sum_le_card_nsmul v.toList 4096 hall

/-! ### The limit that a bank holds -/

/-- A piece read from a clamped bank is clamped (R28). -/
theorem pieceClamped_of_pieceAt {b : Bank} {i : Nat} {p : Piece} (hb : BankClamped b) (h : pieceAt b i = some p) :
    pieceClamped i p = true := by
  obtain ⟨⟨j, q⟩, hfind, rfl⟩ := Option.map_eq_some_iff.mp h
  obtain rfl : j = i := by simpa using List.find?_some hfind
  exact hb _ (List.mem_of_find?_eq_some hfind)

/-- A stored header is piece 121. -/
theorem pieceAt_of_headerOf {b : Bank} {h : Header} (hh : headerOf b = some h) : pieceAt b 121 = some (.header h) := by
  unfold headerOf at hh
  split at hh
  · next k hk => rw [hk, Option.some.inj hh]
  · cases hh

/-- A clamped bank's header holds an ink limit in 4,096..24,576 (R28, R64). -/
theorem header_inkLimit_mem {b : Bank} {h : Header} (hb : BankClamped b) (hh : headerOf b = some h) :
    4096 ≤ h.inkLimit ∧ h.inkLimit ≤ 24576 := by
  simpa [pieceClamped] using pieceClamped_of_pieceAt hb (pieceAt_of_headerOf hh)

/-- The limit that stage 3 reads is the stored header's (R64). -/
theorem inkLimitOf_of_headerOf {b : Bank} {h : Header} (hh : headerOf b = some h) : inkLimitOf b = h.inkLimit := by
  rw [inkLimitOf, hh]

/-- A pixel's drop level in a channel: stage 3 stands between stages 2 and 4 and reads the bank's limit (R57, R64). -/
theorem convertPixel_getElem (b : Bank) (grade n x a0 a1 a2 : Nat) (c : Fin 6) :
    (convertPixel b grade n x a0 a1 a2)[c]
      = dropLevel (yieldCurve b grade c (limitInk (inkLimitOf b) (interpolate b a0 a1 a2))[c]) (threshold b n x c) := by
  simp [convertPixel]

/-- Settles O58: the bounds on the sum come from the sums of truncated shares, and the bank's limit from the clamp of
its header (R28, R64). -/
theorem inkLimit : Obligations.InkLimit := by
  refine ⟨fun limit v _ hlimit hinks => ⟨limitInk_of_sum_le,
      fun hover => ⟨limitInk_getElem_of_lt_sum hover, limitInk_lt_sum_add_six hover⟩, limitInk_sum_le limit v,
      fun c => ⟨limitInk_getElem_le limit v c, Nat.mul_le_mul (hinks c) hlimit⟩, ?_⟩,
    fun b hb => ⟨fun h hh => ⟨inkLimitOf_of_headerOf hh, header_inkLimit_mem hb hh⟩, ?_⟩⟩
  · rintro rfl
    exact limitInk_of_sum_le (sum_inks_le hinks)
  · exact fun grade n x _ _ _ => convertPixel_getElem b grade n x _ _ _

end Sys2Proof.Machine
end

section
/-! SUPPORT and the settling of O60. The stack's entry for a source, the top entry's level against a source's, and
eligibility by its conditions (R176). -/

namespace Sys2Proof.Machine

/-- A source is off the stack when no entry names it. -/
theorem onStack_eq_false_iff {a : Alc} {src : AlertSource} :
    onStack a src = false ↔ ∀ e ∈ a.stack, e.source ≠ src := by
  simp [onStack]

/-- A pending condition source has no entry on the stack (R170). -/
theorem onStack_of_pending_condition {a : Alc} {src : AlertSource} (hcond : src.isCondition = true)
    (hpend : sourcePending a src = true) : onStack a src = false := by
  rw [sourcePending, if_pos hcond] at hpend
  simpa using (Bool.and_eq_true_iff.mp hpend).2

/-- The conditions of R176, for any source. -/
theorem eligible_iff {a : Alc} {src : AlertSource} :
    eligible a src = true ↔ sourcePending a src = true ∧ ∃ l : Fin 4, a.config[src.index].level = some l
      ∧ (l = 3 ∨ a.threshold ≤ l) ∧ (a.stack = [] ∨ ∃ e rest, a.stack = e :: rest ∧ e.level < l)
      ∧ ∀ e ∈ a.stack, e.source ≠ src := by
  rw [← onStack_eq_false_iff]
  unfold eligible
  cases hlevel : a.config[src.index].level with
  | none => simp
  | some l => cases hstack : a.stack <;> simp [and_assoc]

/-- Level 3 passes every threshold, so a source of that level off the stack is eligible when it is above the top. -/
theorem eligible_iff_of_level_three {a : Alc} {src : AlertSource} (hpend : sourcePending a src = true)
    (hlevel : a.config[src.index].level = some 3) (hoff : ∀ e ∈ a.stack, e.source ≠ src) :
    eligible a src = true ↔ a.stack = [] ∨ ∃ e rest, a.stack = e :: rest ∧ e.level < 3 := by
  rw [eligible_iff]
  constructor
  · rintro ⟨-, l, hl, -, htop, -⟩
    obtain rfl : l = 3 := Option.some.inj (hl.symm.trans hlevel)
    exact htop
  · exact fun htop => ⟨hpend, 3, hlevel, .inl rfl, htop, hoff⟩

/-- No level is above 3, so only a top entry of level 3 blocks such a source. -/
theorem not_eligible_iff_of_level_three {a : Alc} {src : AlertSource} (hpend : sourcePending a src = true)
    (hlevel : a.config[src.index].level = some 3) (hoff : ∀ e ∈ a.stack, e.source ≠ src) :
    eligible a src = false ↔ ∃ e rest, a.stack = e :: rest ∧ e.level = 3 := by
  rw [← Bool.not_eq_true, eligible_iff_of_level_three hpend hlevel hoff]
  cases a.stack with
  | nil => simp
  | cons e rest =>
    have hmax : ¬ e.level < 3 ↔ e.level = 3 := by omega
    simpa using hmax

/-- No level is below 0, so an eligible source of level 0 finds the stack empty and H at 0. -/
theorem stack_nil_of_eligible_of_level_zero {a : Alc} {src : AlertSource}
    (hlevel : a.config[src.index].level = some 0) (helig : eligible a src = true) :
    a.stack = [] ∧ a.threshold = 0 := by
  obtain ⟨-, l, hl, hhold, htop, -⟩ := eligible_iff.mp helig
  obtain rfl : l = 0 := Option.some.inj (hl.symm.trans hlevel)
  constructor
  · obtain hnil | ⟨e, -, -, hlt⟩ := htop
    · exact hnil
    · exact absurd hlt (Fin.not_lt_zero _)
  · obtain hthree | hle := hhold
    · exact absurd hthree (by decide)
    · exact Fin.le_zero_iff.mp hle

/-- Settles O60: the conditions of R176, and what they come to at the highest and the lowest level. -/
theorem eligibleSource : Obligations.EligibleSource := by
  intro a src hpend
  refine ⟨eligible_iff.trans (and_iff_right hpend), fun hcond => ?_, not_eligible_iff_of_level_three hpend,
    stack_nil_of_eligible_of_level_zero⟩
  exact onStack_eq_false_iff.mp (onStack_of_pending_condition hcond hpend)

end Sys2Proof.Machine
end

section
/-! SUPPORT and the settling of O1, O2 and O4. What one step is made of: the events that end with one `settle`, and the
three that can be two events in one step (END_MARK, a control frame's arrival, BANK_CHECK_END; R3, R5, R6). Every event
leaves a quiet state (R14, R173, R177, R183). -/

namespace Sys2Proof.Machine

/-! ### What a step can do -/

/-- The events of one part each, before `settle` ends them: the symbols of the lane but END_MARK, the transmitter's
progress, the timers, the samples and the input pins. -/
inductive Event (s : State) : State → Prop where
  | startMark : Event s (takeStart s)
  | dataSymbol (b : Byte) : Event s (takeData b s)
  | idleFill : Event s (takeIdle s)
  | abortMark : Event s (takeAbort s)
  | frameSent : Event s (frameSent s)
  | gapEnd : Event s (gapEnd s)
  | linkTimeout : Event s (linkExpired s)
  | encoderEdge (a b : Bool) : Event s (encoderLevels a b s)
  | lineSample : Event s (sampleLine s)
  | driveFaultInput (x : Bool) : Event s (driveFaultLevel x s)
  | barFaultInput (k : Bar) (x : Bool) : Event s (barFaultLevel k x s)
  | tensionReading (z : TensionZone) (reading : Nat) : Event s (tensionReadingEvent z reading s)
  | tensionMissing (z : TensionZone) : Event s (missingExpired z s)
  | heatSample (entries : Vector (Option Int) 4) : Event s (heatSampleEvent entries s)
  | hardwareReset : Event s (beginAtReset (resetBlocks s))

/-- What a command leaves: the end of one event, or what END_MARK, a control frame or the end of a bank check leave. -/
inductive Taken (s : State) : State → Prop where
  | event {t : State} (h : Event s t) : Taken s (settle t)
  | endMark : Taken s (takeEnd s)
  | control (f : Frame) : Taken s (takeControl f s)
  | bankCheckEnd : Taken s (checkEnds s)

/-- Every command goes on, with what it leaves in one of the four shapes. -/
theorem exec_taken (i : Instr) (s : State) : ∃ t, exec i s = .next t ∧ Taken s t := by
  cases i
  case startMark => exact ⟨_, rfl, .event .startMark⟩
  case dataSymbol b => exact ⟨_, rfl, .event (.dataSymbol b)⟩
  case idleFill => exact ⟨_, rfl, .event .idleFill⟩
  case endMark => exact ⟨_, rfl, .endMark⟩
  case abortMark => exact ⟨_, rfl, .event .abortMark⟩
  case bankCheckEnd => exact ⟨_, rfl, .bankCheckEnd⟩
  case frameSent => exact ⟨_, rfl, .event .frameSent⟩
  case gapEnd => exact ⟨_, rfl, .event .gapEnd⟩
  case linkTimeout => exact ⟨_, rfl, .event .linkTimeout⟩
  case encoderEdge a b => exact ⟨_, rfl, .event (.encoderEdge a b)⟩
  case lineSample => exact ⟨_, rfl, .event .lineSample⟩
  case driveFaultInput x => exact ⟨_, rfl, .event (.driveFaultInput x)⟩
  case barFaultInput k x => exact ⟨_, rfl, .event (.barFaultInput k x)⟩
  case tensionReading z reading => exact ⟨_, rfl, .event (.tensionReading z reading)⟩
  case tensionMissingTimeout z => exact ⟨_, rfl, .event (.tensionMissing z)⟩
  case heatSample z0 z1 z2 z3 => exact ⟨_, rfl, .event (.heatSample _)⟩
  case heatSampleTimeout => exact ⟨_, rfl, .event (.heatSample _)⟩
  case hardwareReset => exact ⟨_, rfl, .event .hardwareReset⟩
  all_goals exact ⟨_, rfl, .control _⟩

/-- A step idles, or takes the command at the front of the queue. -/
theorem step_taken {s t : State} (h : step s = .next t) : t = s ∨ ∃ rest, Taken (s.setPending rest) t := by
  unfold step at h
  split at h
  · exact .inl (Host.Outcome.next.inj h).symm
  · next i rest _ =>
    obtain ⟨u, hu, htaken⟩ := exec_taken i (s.setPending rest)
    rw [hu] at h
    exact .inr ⟨rest, Host.Outcome.next.inj h ▸ htaken⟩

/-- An invariant that neither the waiting commands nor a command break is kept by every step. -/
theorem step_keeps {P : State → Prop} (hpending : ∀ s rest, P s → P (s.setPending rest))
    (htaken : ∀ s t, P s → Taken s t → P t) {s t : State} (hs : P s) (h : step s = .next t) : P t := by
  rcases step_taken h with rfl | ⟨rest, ht⟩
  · exact hs
  · exact htaken _ _ (hpending s rest hs) ht

/-- Settles O1: both halves are `step` read at its queue. -/
theorem stepTakesFront : Obligations.StepTakesFront := by
  refine ⟨fun i rest s => rfl, fun s h => ?_⟩
  unfold step
  rw [h]

/-! ### An event's end leaves a quiet state -/

/-- After a choice LTX is busy, or it had nothing to choose (R14). -/
theorem nothingToChoose_ltxChoose (s : State) : NothingToChoose (ltxChoose s) := by
  by_cases h : NothingToChoose s
  · rwa [(ltxChoose_eq_self_iff s).mpr h]
  · left
    unfold ltxChoose
    (repeat' split) <;> simp_all

/-- A second choice finds nothing (R14). -/
theorem ltxChoose_ltxChoose (s : State) : ltxChoose (ltxChoose s) = ltxChoose s :=
  (ltxChoose_eq_self_iff _).mpr (nothingToChoose_ltxChoose s)

/-- Handing the reaction on leaves it the stack's, and the rest of ALC alone (R183). -/
theorem handReaction_alc (s : State) :
    (handReaction s).alc = { s.alc with reaction := stackReaction s.alc.stack } := by
  by_cases h : stackReaction s.alc.stack = s.alc.reaction
  · rw [handReaction_same s h.symm, h]
  · rw [handReaction, if_neg h]
    split <;> simp

/-- The serves touch the sources' occurrences and the stack, and nothing else of ALC (R178, R179). -/
@[simp] theorem serve_alc_frame (src : AlertSource) (s : State) :
    (serve src s).alc.config = s.alc.config ∧ (serve src s).alc.holds = s.alc.holds
      ∧ (serve src s).alc.condCtx = s.alc.condCtx ∧ (serve src s).alc.threshold = s.alc.threshold
      ∧ (serve src s).alc.firstAlert = s.alc.firstAlert ∧ (serve src s).alc.later = s.alc.later
      ∧ (serve src s).alc.reaction = s.alc.reaction ∧ (serve src s).alc.fresh = s.alc.fresh
      ∧ (serve src s).alc.evalDue = s.alc.evalDue := by
  simp only [serve, queueNotice_alc, State.setAlc_alc]
  split <;> simp

/-- An evaluation touches the sources' occurrences and the stack, and nothing else of ALC (R177). -/
@[simp] theorem evaluateRounds_alc_frame (n : Nat) (s : State) :
    (evaluateRounds n s).alc.config = s.alc.config ∧ (evaluateRounds n s).alc.holds = s.alc.holds
      ∧ (evaluateRounds n s).alc.condCtx = s.alc.condCtx ∧ (evaluateRounds n s).alc.threshold = s.alc.threshold
      ∧ (evaluateRounds n s).alc.firstAlert = s.alc.firstAlert ∧ (evaluateRounds n s).alc.later = s.alc.later
      ∧ (evaluateRounds n s).alc.reaction = s.alc.reaction ∧ (evaluateRounds n s).alc.fresh = s.alc.fresh
      ∧ (evaluateRounds n s).alc.evalDue = s.alc.evalDue := by
  induction n generalizing s with
  | zero => simp [evaluateRounds]
  | succ n ih =>
    simp only [evaluateRounds]
    split
    · simp
    · next src _ => simpa using ih (serve src s)

/-- The log touches the first-alert record and the later-alert set (R173). -/
@[simp] theorem logOne_frame (a : Alc) (src : AlertSource) :
    (logOne a src).config = a.config ∧ (logOne a src).holds = a.holds ∧ (logOne a src).condCtx = a.condCtx
      ∧ (logOne a src).occ = a.occ ∧ (logOne a src).stack = a.stack ∧ (logOne a src).threshold = a.threshold
      ∧ (logOne a src).reaction = a.reaction ∧ (logOne a src).fresh = a.fresh
      ∧ (logOne a src).evalDue = a.evalDue := by
  unfold logOne
  split <;> simp

/-- The log touches the first-alert record and the later-alert set (R173). -/
@[simp] theorem logFresh_frame (a : Alc) :
    (logFresh a).config = a.config ∧ (logFresh a).holds = a.holds ∧ (logFresh a).condCtx = a.condCtx
      ∧ (logFresh a).occ = a.occ ∧ (logFresh a).stack = a.stack ∧ (logFresh a).threshold = a.threshold
      ∧ (logFresh a).reaction = a.reaction ∧ (logFresh a).fresh = a.fresh ∧ (logFresh a).evalDue = a.evalDue := by
  unfold logFresh
  generalize AlertSource.all.filter _ = l
  induction l generalizing a with
  | nil => simp
  | cons src l ih => simpa using ih (logOne a src)

/-- ALC with what has become pending logged, and the event's marks cleared (R173). -/
def afterLog (a : Alc) : Alc :=
  { logFresh a with fresh := [], evalDue := false }

/-- The log, and the evaluation where one is due (R173, R177). -/
theorem logAndEvaluate_eq (s : State) :
    logAndEvaluate s = if s.alc.evalDue || !s.alc.fresh.isEmpty then evaluate (s.modAlc afterLog)
      else s.modAlc afterLog := rfl

/-- What the log and the evaluation leave of ALC (R173, R177). -/
@[simp] theorem logAndEvaluate_alc_frame (s : State) :
    (logAndEvaluate s).alc.config = s.alc.config ∧ (logAndEvaluate s).alc.holds = s.alc.holds
      ∧ (logAndEvaluate s).alc.condCtx = s.alc.condCtx ∧ (logAndEvaluate s).alc.threshold = s.alc.threshold
      ∧ (logAndEvaluate s).alc.reaction = s.alc.reaction ∧ (logAndEvaluate s).alc.fresh = []
      ∧ (logAndEvaluate s).alc.evalDue = false := by
  rw [logAndEvaluate_eq]
  split <;> simp [evaluate, afterLog]

/-- What the end of an event leaves of ALC (R173, R177, R183). -/
@[simp] theorem settle_alc_frame (s : State) :
    (settle s).alc.config = s.alc.config ∧ (settle s).alc.holds = s.alc.holds
      ∧ (settle s).alc.condCtx = s.alc.condCtx ∧ (settle s).alc.threshold = s.alc.threshold
      ∧ (settle s).alc.fresh = [] ∧ (settle s).alc.evalDue = false
      ∧ (settle s).alc.stack = (logAndEvaluate s).alc.stack ∧ (settle s).alc.occ = (logAndEvaluate s).alc.occ
      ∧ (settle s).alc.firstAlert = (logAndEvaluate s).alc.firstAlert
      ∧ (settle s).alc.later = (logAndEvaluate s).alc.later
      ∧ (settle s).alc.reaction = stackReaction (logAndEvaluate s).alc.stack := by
  simp [settle, handReaction_alc]

/-- Whatever an event did, nothing is left over at its end (R14, R173, R177, R183). -/
theorem quiet_settle (s : State) : Quiet (settle s) := by
  refine ⟨?_, ?_, ?_, ltxChoose_ltxChoose _⟩ <;> simp

/-- The waiting commands are no part of what is left over. -/
theorem quiet_setPending (s : State) (rest : List Instr) (h : Quiet s) : Quiet (s.setPending rest) :=
  quiet_congr s _ rfl rfl rfl rfl rfl h

/-- What a command leaves is the end of an event, unless nothing happened but a frame's end in HUNT or SKIP. -/
theorem taken_cases {s t : State} (h : Taken s t) :
    t = s ∨ t = s.modLrx (fun l => l.without .hunt 0) ∨ ∃ u, t = settle u := by
  have hrun : ∀ u, ∃ v, runExecute (settle u) = settle v := by
    intro u
    unfold runExecute
    split
    · exact ⟨_, rfl⟩
    · exact ⟨u, rfl⟩
  have hcontrol : ∀ f u, ∃ v, takeControl f u = settle v := by
    intro f u
    unfold takeControl
    split
    · exact hrun _
    · exact ⟨_, rfl⟩
  cases h with
  | event h => exact .inr (.inr ⟨_, rfl⟩)
  | endMark =>
    unfold takeEnd
    split
    · exact .inl rfl
    · exact .inr (.inl rfl)
    · exact .inr (.inr ⟨_, rfl⟩)
    · exact .inr (.inr ⟨_, rfl⟩)
    · split
      · exact .inr (.inr ⟨_, rfl⟩)
      · split
        · split
          · exact .inr (.inr ⟨_, rfl⟩)
          · exact .inr (.inr (hcontrol _ _))
        · exact .inr (.inr ⟨_, rfl⟩)
  | control f => exact .inr (.inr (hcontrol f s))
  | bankCheckEnd =>
    unfold checkEnds
    split
    · exact .inr (.inr (hrun _))
    · exact .inl rfl

/-- What a command leaves is quiet. -/
theorem quiet_taken {s t : State} (hs : Quiet s) (h : Taken s t) : Quiet t := by
  rcases taken_cases h with rfl | rfl | ⟨u, rfl⟩
  · exact hs
  · exact quiet_congr s _ rfl rfl rfl rfl rfl hs
  · exact quiet_settle u

/-- Settles O4: `settle` ends every event, and leaves a quiet state whatever the event did. -/
theorem eventsLeaveNothingOver : Obligations.EventsLeaveNothingOver :=
  fun _ _ hs h => step_keeps (P := Quiet) quiet_setPending (fun _ _ => quiet_taken) hs h

end Sys2Proof.Machine
end

section
/-! SUPPORT. What each operation leaves alone, one lemma for each: the blocks it does not reach, and of a block it
reaches the fields it keeps. -/

namespace Sys2Proof.Machine

/-! ### Raising and serving -/

/-- An open choice moves the choice counter alone. -/
@[simp] theorem chooseOne_frame {α : Type} (l : List α) (s : State) :
    (chooseOne l s).2.lrx = s.lrx ∧ (chooseOne l s).2.cmuSlot = s.cmuSlot ∧ (chooseOne l s).2.ltx = s.ltx
      ∧ (chooseOne l s).2.line = s.line ∧ (chooseOne l s).2.pfs = s.pfs ∧ (chooseOne l s).2.cpa = s.cpa
      ∧ (chooseOne l s).2.lst = s.lst ∧ (chooseOne l s).2.bars = s.bars ∧ (chooseOne l s).2.rls = s.rls
      ∧ (chooseOne l s).2.mou = s.mou ∧ (chooseOne l s).2.htc = s.htc ∧ (chooseOne l s).2.tnc = s.tnc
      ∧ (chooseOne l s).2.alc = s.alc ∧ (chooseOne l s).2.pending = s.pending := by
  unfold chooseOne
  split <;> simp

/-- A raise touches the occurrence and what has become pending (R171). -/
@[simp] theorem raiseOcc_frame (src : AlertSource) (ctx : Context) (s : State) :
    (raiseOcc src ctx s).alc.config = s.alc.config ∧ (raiseOcc src ctx s).alc.holds = s.alc.holds
      ∧ (raiseOcc src ctx s).alc.condCtx = s.alc.condCtx ∧ (raiseOcc src ctx s).alc.stack = s.alc.stack
      ∧ (raiseOcc src ctx s).alc.threshold = s.alc.threshold
      ∧ (raiseOcc src ctx s).alc.firstAlert = s.alc.firstAlert ∧ (raiseOcc src ctx s).alc.later = s.alc.later
      ∧ (raiseOcc src ctx s).alc.reaction = s.alc.reaction ∧ (raiseOcc src ctx s).alc.evalDue = s.alc.evalDue := by
  simp only [raiseOcc, State.modAlc_alc]
  (repeat' split) <;> simp

/-- As every raise (R171). -/
@[simp] theorem raiseLinkError_frame (sub : LinkSubcode) (kind : Byte) (tag : Tag) (s : State) :
    (raiseLinkError sub kind tag s).alc.config = s.alc.config
      ∧ (raiseLinkError sub kind tag s).alc.holds = s.alc.holds
      ∧ (raiseLinkError sub kind tag s).alc.condCtx = s.alc.condCtx
      ∧ (raiseLinkError sub kind tag s).alc.stack = s.alc.stack
      ∧ (raiseLinkError sub kind tag s).alc.threshold = s.alc.threshold
      ∧ (raiseLinkError sub kind tag s).alc.firstAlert = s.alc.firstAlert
      ∧ (raiseLinkError sub kind tag s).alc.later = s.alc.later
      ∧ (raiseLinkError sub kind tag s).alc.reaction = s.alc.reaction
      ∧ (raiseLinkError sub kind tag s).alc.evalDue = s.alc.evalDue := by
  simp [raiseLinkError]

/-- A beginning touches the holds flag, the context and what has become pending (R170). -/
@[simp] theorem beginCond_frame (src : AlertSource) (ctx : Context) (s : State) :
    (beginCond src ctx s).alc.config = s.alc.config ∧ (beginCond src ctx s).alc.occ = s.alc.occ
      ∧ (beginCond src ctx s).alc.stack = s.alc.stack ∧ (beginCond src ctx s).alc.threshold = s.alc.threshold
      ∧ (beginCond src ctx s).alc.firstAlert = s.alc.firstAlert ∧ (beginCond src ctx s).alc.later = s.alc.later
      ∧ (beginCond src ctx s).alc.reaction = s.alc.reaction ∧ (beginCond src ctx s).alc.evalDue = s.alc.evalDue := by
  simp [beginCond]

/-- An end touches the holds flag (R170). -/
@[simp] theorem endCond_frame (src : AlertSource) (s : State) :
    (endCond src s).alc.config = s.alc.config ∧ (endCond src s).alc.condCtx = s.alc.condCtx
      ∧ (endCond src s).alc.occ = s.alc.occ ∧ (endCond src s).alc.stack = s.alc.stack
      ∧ (endCond src s).alc.threshold = s.alc.threshold ∧ (endCond src s).alc.firstAlert = s.alc.firstAlert
      ∧ (endCond src s).alc.later = s.alc.later ∧ (endCond src s).alc.reaction = s.alc.reaction
      ∧ (endCond src s).alc.fresh = s.alc.fresh ∧ (endCond src s).alc.evalDue = s.alc.evalDue := by
  simp [endCond]

/-- A judgement begins, ends or leaves the condition (R170). -/
@[simp] theorem judgeCond_frame (src : AlertSource) (b a : Bool) (ctx : Context) (s : State) :
    (judgeCond src b a ctx s).alc.config = s.alc.config ∧ (judgeCond src b a ctx s).alc.occ = s.alc.occ
      ∧ (judgeCond src b a ctx s).alc.stack = s.alc.stack
      ∧ (judgeCond src b a ctx s).alc.threshold = s.alc.threshold
      ∧ (judgeCond src b a ctx s).alc.firstAlert = s.alc.firstAlert
      ∧ (judgeCond src b a ctx s).alc.later = s.alc.later
      ∧ (judgeCond src b a ctx s).alc.reaction = s.alc.reaction
      ∧ (judgeCond src b a ctx s).alc.evalDue = s.alc.evalDue := by
  generalize h : judgeCond src b a ctx s = t
  simp only [judgeCond] at h
  (repeat' split at h) <;> subst h <;> simp

/-- A notice joins the queue or sets the overrun flag (R17). -/
@[simp] theorem queueNotice_frame (n : Notice) (s : State) :
    (queueNotice n s).ltx.tx = s.ltx.tx ∧ (queueNotice n s).ltx.answers = s.ltx.answers
      ∧ (queueNotice n s).ltx.flowHeld = s.ltx.flowHeld := by
  unfold queueNotice
  split <;> simp

/-- A serve queues a notice (R186). -/
@[simp] theorem serve_frame (src : AlertSource) (s : State) :
    (serve src s).ltx.tx = s.ltx.tx ∧ (serve src s).ltx.answers = s.ltx.answers
      ∧ (serve src s).ltx.flowHeld = s.ltx.flowHeld := by
  simp [serve]

/-- The serves queue notices (R186). -/
@[simp] theorem evaluateRounds_frame (n : Nat) (s : State) :
    (evaluateRounds n s).ltx.tx = s.ltx.tx ∧ (evaluateRounds n s).ltx.answers = s.ltx.answers
      ∧ (evaluateRounds n s).ltx.flowHeld = s.ltx.flowHeld := by
  induction n generalizing s with
  | zero => simp [evaluateRounds]
  | succ n ih =>
    simp only [evaluateRounds]
    split <;> simp [ih]

/-- An evaluation serves (R177). -/
@[simp] theorem evaluate_frame (s : State) :
    (evaluate s).ltx.tx = s.ltx.tx ∧ (evaluate s).ltx.answers = s.ltx.answers
      ∧ (evaluate s).ltx.flowHeld = s.ltx.flowHeld := by
  simp [evaluate]

/-- The log and the evaluation queue notices (R177). -/
@[simp] theorem logAndEvaluate_frame (s : State) :
    (logAndEvaluate s).ltx.tx = s.ltx.tx ∧ (logAndEvaluate s).ltx.answers = s.ltx.answers
      ∧ (logAndEvaluate s).ltx.flowHeld = s.ltx.flowHeld := by
  rw [logAndEvaluate_eq]
  split <;> simp

/-! ### Motion and heat -/

/-- The speed target and the reference (R100). -/
@[simp] theorem formSpeed_frame (s : State) :
    (formSpeed s).mou.p = s.mou.p ∧ (formSpeed s).mou.pLast = s.mou.pLast ∧ (formSpeed s).mou.mode = s.mou.mode
      ∧ (formSpeed s).mou.nipClosed = s.mou.nipClosed ∧ (formSpeed s).mou.requested = s.mou.requested
      ∧ (formSpeed s).mou.cause = s.mou.cause ∧ (formSpeed s).mou.speed = s.mou.speed
      ∧ (formSpeed s).mou.encA = s.mou.encA ∧ (formSpeed s).mou.encB = s.mou.encB
      ∧ (formSpeed s).mou.driveFault = s.mou.driveFault := by
  simp [formSpeed]

/-- The heat target, its band and its source (R152). -/
@[simp] theorem formHeat_frame (s : State) :
    (formHeat s).htc.group = s.htc.group ∧ (formHeat s).htc.zones = s.htc.zones
      ∧ (formHeat s).htc.grade = s.htc.grade ∧ (formHeat s).htc.pHigh = s.htc.pHigh := by
  simp [formHeat]

/-- A change of mode: the link timer, the outputs and both targets. -/
@[simp] theorem enterMode_frame (m : LineMode) (s : State) :
    (enterMode m s).lrx.state = s.lrx.state ∧ (enterMode m s).lrx.idle = s.lrx.idle
      ∧ (enterMode m s).lrx.header = s.lrx.header ∧ (enterMode m s).lrx.payload = s.lrx.payload
      ∧ (enterMode m s).lrx.trailer = s.lrx.trailer ∧ (enterMode m s).lrx.crc = s.lrx.crc
      ∧ (enterMode m s).lrx.line = s.lrx.line ∧ (enterMode m s).lrx.intake = s.lrx.intake
      ∧ (enterMode m s).lrx.execute = s.lrx.execute ∧ (enterMode m s).mou.p = s.mou.p
      ∧ (enterMode m s).mou.pLast = s.mou.pLast ∧ (enterMode m s).mou.requested = s.mou.requested
      ∧ (enterMode m s).mou.cause = s.mou.cause ∧ (enterMode m s).mou.speed = s.mou.speed
      ∧ (enterMode m s).mou.encA = s.mou.encA ∧ (enterMode m s).mou.encB = s.mou.encB
      ∧ (enterMode m s).mou.driveFault = s.mou.driveFault ∧ (enterMode m s).htc.group = s.htc.group
      ∧ (enterMode m s).htc.zones = s.htc.zones ∧ (enterMode m s).htc.grade = s.htc.grade
      ∧ (enterMode m s).htc.pHigh = s.htc.pHigh := by
  simp [enterMode]

/-- The run list alone (R96). -/
@[simp] theorem spoilArc_frame (s : State) :
    (spoilArc s).lrx = s.lrx ∧ (spoilArc s).cmuSlot = s.cmuSlot ∧ (spoilArc s).ltx = s.ltx
      ∧ (spoilArc s).line = s.line ∧ (spoilArc s).pfs = s.pfs ∧ (spoilArc s).cpa = s.cpa
      ∧ (spoilArc s).lst = s.lst ∧ (spoilArc s).bars = s.bars ∧ (spoilArc s).mou = s.mou
      ∧ (spoilArc s).htc = s.htc ∧ (spoilArc s).tnc = s.tnc ∧ (spoilArc s).alc = s.alc
      ∧ (spoilArc s).choices = s.choices ∧ (spoilArc s).pending = s.pending := by
  simp [spoilArc]

/-- As a change of mode, with the arc and the stop cause (R96). -/
@[simp] theorem enterStopping_frame (c : StopCause) (s : State) :
    (enterStopping c s).lrx.state = s.lrx.state ∧ (enterStopping c s).lrx.idle = s.lrx.idle
      ∧ (enterStopping c s).lrx.header = s.lrx.header ∧ (enterStopping c s).lrx.payload = s.lrx.payload
      ∧ (enterStopping c s).lrx.trailer = s.lrx.trailer ∧ (enterStopping c s).lrx.crc = s.lrx.crc
      ∧ (enterStopping c s).lrx.line = s.lrx.line ∧ (enterStopping c s).lrx.intake = s.lrx.intake
      ∧ (enterStopping c s).lrx.execute = s.lrx.execute ∧ (enterStopping c s).mou.p = s.mou.p
      ∧ (enterStopping c s).mou.pLast = s.mou.pLast ∧ (enterStopping c s).mou.requested = s.mou.requested
      ∧ (enterStopping c s).mou.speed = s.mou.speed ∧ (enterStopping c s).mou.encA = s.mou.encA
      ∧ (enterStopping c s).mou.encB = s.mou.encB ∧ (enterStopping c s).mou.driveFault = s.mou.driveFault
      ∧ (enterStopping c s).htc.group = s.htc.group ∧ (enterStopping c s).htc.zones = s.htc.zones
      ∧ (enterStopping c s).htc.grade = s.htc.grade ∧ (enterStopping c s).htc.pHigh = s.htc.pHigh := by
  generalize h : enterStopping c s = t
  simp only [enterStopping] at h
  (repeat' split at h) <;> subst h <;> simp

/-- As the entry to STOPPING (R95). -/
@[simp] theorem stopReaction_frame (s : State) :
    (stopReaction s).lrx.state = s.lrx.state ∧ (stopReaction s).lrx.idle = s.lrx.idle
      ∧ (stopReaction s).lrx.header = s.lrx.header ∧ (stopReaction s).lrx.payload = s.lrx.payload
      ∧ (stopReaction s).lrx.trailer = s.lrx.trailer ∧ (stopReaction s).lrx.crc = s.lrx.crc
      ∧ (stopReaction s).lrx.line = s.lrx.line ∧ (stopReaction s).lrx.intake = s.lrx.intake
      ∧ (stopReaction s).lrx.execute = s.lrx.execute ∧ (stopReaction s).mou.p = s.mou.p
      ∧ (stopReaction s).mou.pLast = s.mou.pLast ∧ (stopReaction s).mou.requested = s.mou.requested
      ∧ (stopReaction s).mou.speed = s.mou.speed ∧ (stopReaction s).mou.encA = s.mou.encA
      ∧ (stopReaction s).mou.encB = s.mou.encB ∧ (stopReaction s).mou.driveFault = s.mou.driveFault
      ∧ (stopReaction s).htc.group = s.htc.group ∧ (stopReaction s).htc.zones = s.htc.zones
      ∧ (stopReaction s).htc.grade = s.htc.grade ∧ (stopReaction s).htc.pHigh = s.htc.pHigh := by
  generalize h : stopReaction s = t
  simp only [stopReaction] at h
  (repeat' split at h) <;> subst h <;> simp

/-- As the entry to STOPPING (R183). -/
@[simp] theorem handReaction_frame (s : State) :
    (handReaction s).lrx.state = s.lrx.state ∧ (handReaction s).lrx.idle = s.lrx.idle
      ∧ (handReaction s).lrx.header = s.lrx.header ∧ (handReaction s).lrx.payload = s.lrx.payload
      ∧ (handReaction s).lrx.trailer = s.lrx.trailer ∧ (handReaction s).lrx.crc = s.lrx.crc
      ∧ (handReaction s).lrx.line = s.lrx.line ∧ (handReaction s).lrx.intake = s.lrx.intake
      ∧ (handReaction s).lrx.execute = s.lrx.execute ∧ (handReaction s).mou.p = s.mou.p
      ∧ (handReaction s).mou.pLast = s.mou.pLast ∧ (handReaction s).mou.requested = s.mou.requested
      ∧ (handReaction s).mou.speed = s.mou.speed ∧ (handReaction s).mou.encA = s.mou.encA
      ∧ (handReaction s).mou.encB = s.mou.encB ∧ (handReaction s).mou.driveFault = s.mou.driveFault
      ∧ (handReaction s).htc.group = s.htc.group ∧ (handReaction s).htc.zones = s.htc.zones
      ∧ (handReaction s).htc.grade = s.htc.grade ∧ (handReaction s).htc.pHigh = s.htc.pHigh := by
  generalize h : handReaction s = t
  simp only [handReaction] at h
  (repeat' split at h) <;> subst h <;> simp

/-- The end of an event: the alerts, the reaction handed on, and the transmitter. -/
@[simp] theorem settle_frame (s : State) :
    (settle s).lrx.state = s.lrx.state ∧ (settle s).lrx.idle = s.lrx.idle ∧ (settle s).lrx.header = s.lrx.header
      ∧ (settle s).lrx.payload = s.lrx.payload ∧ (settle s).lrx.trailer = s.lrx.trailer
      ∧ (settle s).lrx.crc = s.lrx.crc ∧ (settle s).lrx.line = s.lrx.line ∧ (settle s).lrx.intake = s.lrx.intake
      ∧ (settle s).lrx.execute = s.lrx.execute ∧ (settle s).mou.p = s.mou.p ∧ (settle s).mou.pLast = s.mou.pLast
      ∧ (settle s).mou.requested = s.mou.requested ∧ (settle s).mou.speed = s.mou.speed
      ∧ (settle s).mou.encA = s.mou.encA ∧ (settle s).mou.encB = s.mou.encB
      ∧ (settle s).mou.driveFault = s.mou.driveFault ∧ (settle s).htc.group = s.htc.group
      ∧ (settle s).htc.zones = s.htc.zones ∧ (settle s).htc.grade = s.htc.grade
      ∧ (settle s).htc.pHigh = s.htc.pHigh := by
  simp [settle]

/-- A change of mode or nothing (R93). -/
@[simp] theorem warmupComplete_frame (s : State) :
    (warmupComplete s).lrx.state = s.lrx.state ∧ (warmupComplete s).lrx.idle = s.lrx.idle
      ∧ (warmupComplete s).lrx.header = s.lrx.header ∧ (warmupComplete s).lrx.payload = s.lrx.payload
      ∧ (warmupComplete s).lrx.trailer = s.lrx.trailer ∧ (warmupComplete s).lrx.crc = s.lrx.crc
      ∧ (warmupComplete s).lrx.line = s.lrx.line ∧ (warmupComplete s).lrx.intake = s.lrx.intake
      ∧ (warmupComplete s).lrx.execute = s.lrx.execute ∧ (warmupComplete s).cmuSlot = s.cmuSlot
      ∧ (warmupComplete s).ltx = s.ltx ∧ (warmupComplete s).line = s.line ∧ (warmupComplete s).pfs = s.pfs
      ∧ (warmupComplete s).cpa = s.cpa ∧ (warmupComplete s).lst = s.lst ∧ (warmupComplete s).bars = s.bars
      ∧ (warmupComplete s).rls = s.rls ∧ (warmupComplete s).mou.p = s.mou.p
      ∧ (warmupComplete s).mou.pLast = s.mou.pLast ∧ (warmupComplete s).mou.requested = s.mou.requested
      ∧ (warmupComplete s).mou.cause = s.mou.cause ∧ (warmupComplete s).mou.speed = s.mou.speed
      ∧ (warmupComplete s).mou.encA = s.mou.encA ∧ (warmupComplete s).mou.encB = s.mou.encB
      ∧ (warmupComplete s).mou.driveFault = s.mou.driveFault ∧ (warmupComplete s).htc.group = s.htc.group
      ∧ (warmupComplete s).htc.zones = s.htc.zones ∧ (warmupComplete s).htc.grade = s.htc.grade
      ∧ (warmupComplete s).htc.pHigh = s.htc.pHigh ∧ (warmupComplete s).tnc = s.tnc
      ∧ (warmupComplete s).alc = s.alc ∧ (warmupComplete s).choices = s.choices
      ∧ (warmupComplete s).pending = s.pending := by
  generalize h : warmupComplete s = t
  simp only [warmupComplete] at h
  (repeat' split at h) <;> subst h <;> simp

/-- The requested speed, and what follows in the mode (R92). -/
@[simp] theorem runDirective_frame (v : Nat) (s : State) :
    (runDirective v s).lrx.state = s.lrx.state ∧ (runDirective v s).lrx.idle = s.lrx.idle
      ∧ (runDirective v s).lrx.header = s.lrx.header ∧ (runDirective v s).lrx.payload = s.lrx.payload
      ∧ (runDirective v s).lrx.trailer = s.lrx.trailer ∧ (runDirective v s).lrx.crc = s.lrx.crc
      ∧ (runDirective v s).lrx.line = s.lrx.line ∧ (runDirective v s).lrx.intake = s.lrx.intake
      ∧ (runDirective v s).lrx.execute = s.lrx.execute ∧ (runDirective v s).cmuSlot = s.cmuSlot
      ∧ (runDirective v s).ltx = s.ltx ∧ (runDirective v s).line = s.line ∧ (runDirective v s).pfs = s.pfs
      ∧ (runDirective v s).cpa = s.cpa ∧ (runDirective v s).lst = s.lst ∧ (runDirective v s).bars = s.bars
      ∧ (runDirective v s).rls = s.rls ∧ (runDirective v s).mou.p = s.mou.p
      ∧ (runDirective v s).mou.pLast = s.mou.pLast ∧ (runDirective v s).mou.cause = s.mou.cause
      ∧ (runDirective v s).mou.speed = s.mou.speed ∧ (runDirective v s).mou.encA = s.mou.encA
      ∧ (runDirective v s).mou.encB = s.mou.encB ∧ (runDirective v s).mou.driveFault = s.mou.driveFault
      ∧ (runDirective v s).htc.group = s.htc.group ∧ (runDirective v s).htc.zones = s.htc.zones
      ∧ (runDirective v s).htc.grade = s.htc.grade ∧ (runDirective v s).htc.pHigh = s.htc.pHigh
      ∧ (runDirective v s).tnc = s.tnc ∧ (runDirective v s).alc = s.alc ∧ (runDirective v s).choices = s.choices
      ∧ (runDirective v s).pending = s.pending := by
  generalize h : runDirective v s = t
  simp only [runDirective] at h
  (repeat' split at h) <;> subst h <;> simp

/-- As a change of mode (R94). -/
@[simp] theorem stopDirective_frame (s : State) :
    (stopDirective s).lrx.state = s.lrx.state ∧ (stopDirective s).lrx.idle = s.lrx.idle
      ∧ (stopDirective s).lrx.header = s.lrx.header ∧ (stopDirective s).lrx.payload = s.lrx.payload
      ∧ (stopDirective s).lrx.trailer = s.lrx.trailer ∧ (stopDirective s).lrx.crc = s.lrx.crc
      ∧ (stopDirective s).lrx.line = s.lrx.line ∧ (stopDirective s).lrx.intake = s.lrx.intake
      ∧ (stopDirective s).lrx.execute = s.lrx.execute ∧ (stopDirective s).cmuSlot = s.cmuSlot
      ∧ (stopDirective s).ltx = s.ltx ∧ (stopDirective s).line = s.line ∧ (stopDirective s).pfs = s.pfs
      ∧ (stopDirective s).cpa = s.cpa ∧ (stopDirective s).lst = s.lst ∧ (stopDirective s).bars = s.bars
      ∧ (stopDirective s).mou.p = s.mou.p ∧ (stopDirective s).mou.pLast = s.mou.pLast
      ∧ (stopDirective s).mou.requested = s.mou.requested ∧ (stopDirective s).mou.speed = s.mou.speed
      ∧ (stopDirective s).mou.encA = s.mou.encA ∧ (stopDirective s).mou.encB = s.mou.encB
      ∧ (stopDirective s).mou.driveFault = s.mou.driveFault ∧ (stopDirective s).htc.group = s.htc.group
      ∧ (stopDirective s).htc.zones = s.htc.zones ∧ (stopDirective s).htc.grade = s.htc.grade
      ∧ (stopDirective s).htc.pHigh = s.htc.pHigh ∧ (stopDirective s).tnc = s.tnc ∧ (stopDirective s).alc = s.alc
      ∧ (stopDirective s).choices = s.choices ∧ (stopDirective s).pending = s.pending := by
  generalize h : stopDirective s = t
  simp only [stopDirective] at h
  (repeat' split at h) <;> subst h <;> simp

/-- The measured speed and P_last (R98). -/
@[simp] theorem measureSpeed_frame (s : State) :
    (measureSpeed s).lrx = s.lrx ∧ (measureSpeed s).cmuSlot = s.cmuSlot ∧ (measureSpeed s).ltx = s.ltx
      ∧ (measureSpeed s).line = s.line ∧ (measureSpeed s).pfs = s.pfs ∧ (measureSpeed s).cpa = s.cpa
      ∧ (measureSpeed s).lst = s.lst ∧ (measureSpeed s).bars = s.bars ∧ (measureSpeed s).rls = s.rls
      ∧ (measureSpeed s).mou.p = s.mou.p ∧ (measureSpeed s).mou.mode = s.mou.mode
      ∧ (measureSpeed s).mou.nipClosed = s.mou.nipClosed ∧ (measureSpeed s).mou.requested = s.mou.requested
      ∧ (measureSpeed s).mou.cause = s.mou.cause ∧ (measureSpeed s).mou.target = s.mou.target
      ∧ (measureSpeed s).mou.reference = s.mou.reference ∧ (measureSpeed s).mou.encA = s.mou.encA
      ∧ (measureSpeed s).mou.encB = s.mou.encB ∧ (measureSpeed s).mou.driveFault = s.mou.driveFault
      ∧ (measureSpeed s).htc = s.htc ∧ (measureSpeed s).tnc = s.tnc ∧ (measureSpeed s).alc = s.alc
      ∧ (measureSpeed s).choices = s.choices ∧ (measureSpeed s).pending = s.pending := by
  simp [measureSpeed]

/-- The reference (R100). -/
@[simp] theorem moveReference_frame (s : State) :
    (moveReference s).lrx = s.lrx ∧ (moveReference s).cmuSlot = s.cmuSlot ∧ (moveReference s).ltx = s.ltx
      ∧ (moveReference s).line = s.line ∧ (moveReference s).pfs = s.pfs ∧ (moveReference s).cpa = s.cpa
      ∧ (moveReference s).lst = s.lst ∧ (moveReference s).bars = s.bars ∧ (moveReference s).rls = s.rls
      ∧ (moveReference s).mou.p = s.mou.p ∧ (moveReference s).mou.pLast = s.mou.pLast
      ∧ (moveReference s).mou.mode = s.mou.mode ∧ (moveReference s).mou.nipClosed = s.mou.nipClosed
      ∧ (moveReference s).mou.requested = s.mou.requested ∧ (moveReference s).mou.cause = s.mou.cause
      ∧ (moveReference s).mou.target = s.mou.target ∧ (moveReference s).mou.speed = s.mou.speed
      ∧ (moveReference s).mou.encA = s.mou.encA ∧ (moveReference s).mou.encB = s.mou.encB
      ∧ (moveReference s).mou.driveFault = s.mou.driveFault ∧ (moveReference s).htc = s.htc
      ∧ (moveReference s).tnc = s.tnc ∧ (moveReference s).alc = s.alc ∧ (moveReference s).choices = s.choices
      ∧ (moveReference s).pending = s.pending := by
  simp [moveReference]

/-- A change of mode or nothing (R97). -/
@[simp] theorem stopTest_frame (s : State) :
    (stopTest s).lrx.state = s.lrx.state ∧ (stopTest s).lrx.idle = s.lrx.idle
      ∧ (stopTest s).lrx.header = s.lrx.header ∧ (stopTest s).lrx.payload = s.lrx.payload
      ∧ (stopTest s).lrx.trailer = s.lrx.trailer ∧ (stopTest s).lrx.crc = s.lrx.crc
      ∧ (stopTest s).lrx.line = s.lrx.line ∧ (stopTest s).lrx.intake = s.lrx.intake
      ∧ (stopTest s).lrx.execute = s.lrx.execute ∧ (stopTest s).cmuSlot = s.cmuSlot ∧ (stopTest s).ltx = s.ltx
      ∧ (stopTest s).line = s.line ∧ (stopTest s).pfs = s.pfs ∧ (stopTest s).cpa = s.cpa
      ∧ (stopTest s).lst = s.lst ∧ (stopTest s).bars = s.bars ∧ (stopTest s).rls = s.rls
      ∧ (stopTest s).mou.p = s.mou.p ∧ (stopTest s).mou.pLast = s.mou.pLast
      ∧ (stopTest s).mou.requested = s.mou.requested ∧ (stopTest s).mou.cause = s.mou.cause
      ∧ (stopTest s).mou.speed = s.mou.speed ∧ (stopTest s).mou.encA = s.mou.encA
      ∧ (stopTest s).mou.encB = s.mou.encB ∧ (stopTest s).mou.driveFault = s.mou.driveFault
      ∧ (stopTest s).htc.group = s.htc.group ∧ (stopTest s).htc.zones = s.htc.zones
      ∧ (stopTest s).htc.grade = s.htc.grade ∧ (stopTest s).htc.pHigh = s.htc.pHigh ∧ (stopTest s).tnc = s.tnc
      ∧ (stopTest s).alc = s.alc ∧ (stopTest s).choices = s.choices ∧ (stopTest s).pending = s.pending := by
  generalize h : stopTest s = t
  simp only [stopTest] at h
  (repeat' split at h) <;> subst h <;> simp

/-- One record, and DWELL_SHORT (R101). -/
@[simp] theorem dwellRecord_frame (t : Tag) (s : State) :
    (dwellRecord s t).lrx = s.lrx ∧ (dwellRecord s t).cmuSlot = s.cmuSlot ∧ (dwellRecord s t).ltx = s.ltx
      ∧ (dwellRecord s t).line = s.line ∧ (dwellRecord s t).pfs = s.pfs ∧ (dwellRecord s t).cpa = s.cpa
      ∧ (dwellRecord s t).lst = s.lst ∧ (dwellRecord s t).bars = s.bars ∧ (dwellRecord s t).mou = s.mou
      ∧ (dwellRecord s t).htc = s.htc ∧ (dwellRecord s t).tnc = s.tnc
      ∧ (dwellRecord s t).alc.config = s.alc.config ∧ (dwellRecord s t).alc.holds = s.alc.holds
      ∧ (dwellRecord s t).alc.condCtx = s.alc.condCtx ∧ (dwellRecord s t).alc.stack = s.alc.stack
      ∧ (dwellRecord s t).alc.threshold = s.alc.threshold ∧ (dwellRecord s t).alc.firstAlert = s.alc.firstAlert
      ∧ (dwellRecord s t).alc.later = s.alc.later ∧ (dwellRecord s t).alc.reaction = s.alc.reaction
      ∧ (dwellRecord s t).alc.evalDue = s.alc.evalDue ∧ (dwellRecord s t).choices = s.choices
      ∧ (dwellRecord s t).pending = s.pending := by
  generalize h : dwellRecord s t = u
  simp only [dwellRecord] at h
  (repeat' split at h) <;> subst h <;> simp

/-- The records, and DWELL_SHORT (R101). -/
@[simp] theorem dwellSample_frame (s : State) :
    (dwellSample s).lrx = s.lrx ∧ (dwellSample s).cmuSlot = s.cmuSlot ∧ (dwellSample s).ltx = s.ltx
      ∧ (dwellSample s).line = s.line ∧ (dwellSample s).pfs = s.pfs ∧ (dwellSample s).cpa = s.cpa
      ∧ (dwellSample s).lst = s.lst ∧ (dwellSample s).bars = s.bars ∧ (dwellSample s).mou = s.mou
      ∧ (dwellSample s).htc = s.htc ∧ (dwellSample s).tnc = s.tnc ∧ (dwellSample s).alc.config = s.alc.config
      ∧ (dwellSample s).alc.holds = s.alc.holds ∧ (dwellSample s).alc.condCtx = s.alc.condCtx
      ∧ (dwellSample s).alc.stack = s.alc.stack ∧ (dwellSample s).alc.threshold = s.alc.threshold
      ∧ (dwellSample s).alc.firstAlert = s.alc.firstAlert ∧ (dwellSample s).alc.later = s.alc.later
      ∧ (dwellSample s).alc.reaction = s.alc.reaction ∧ (dwellSample s).alc.evalDue = s.alc.evalDue
      ∧ (dwellSample s).choices = s.choices ∧ (dwellSample s).pending = s.pending := by
  unfold dwellSample
  generalize s.rls.map Segment.tag = l
  induction l generalizing s with
  | nil => simp
  | cons t l ih => simp [ih]

/-- A line sample: motion, the dwell counters and the end of the stop. -/
@[simp] theorem sampleLine_frame (s : State) :
    (sampleLine s).lrx.state = s.lrx.state ∧ (sampleLine s).lrx.idle = s.lrx.idle
      ∧ (sampleLine s).lrx.header = s.lrx.header ∧ (sampleLine s).lrx.payload = s.lrx.payload
      ∧ (sampleLine s).lrx.trailer = s.lrx.trailer ∧ (sampleLine s).lrx.crc = s.lrx.crc
      ∧ (sampleLine s).lrx.line = s.lrx.line ∧ (sampleLine s).lrx.intake = s.lrx.intake
      ∧ (sampleLine s).lrx.execute = s.lrx.execute ∧ (sampleLine s).cmuSlot = s.cmuSlot
      ∧ (sampleLine s).ltx = s.ltx ∧ (sampleLine s).line = s.line ∧ (sampleLine s).pfs = s.pfs
      ∧ (sampleLine s).cpa = s.cpa ∧ (sampleLine s).lst = s.lst ∧ (sampleLine s).bars = s.bars
      ∧ (sampleLine s).mou.p = s.mou.p ∧ (sampleLine s).mou.requested = s.mou.requested
      ∧ (sampleLine s).mou.cause = s.mou.cause ∧ (sampleLine s).mou.encA = s.mou.encA
      ∧ (sampleLine s).mou.encB = s.mou.encB ∧ (sampleLine s).mou.driveFault = s.mou.driveFault
      ∧ (sampleLine s).htc.group = s.htc.group ∧ (sampleLine s).htc.zones = s.htc.zones
      ∧ (sampleLine s).htc.grade = s.htc.grade ∧ (sampleLine s).htc.pHigh = s.htc.pHigh
      ∧ (sampleLine s).tnc = s.tnc ∧ (sampleLine s).alc.config = s.alc.config
      ∧ (sampleLine s).alc.holds = s.alc.holds ∧ (sampleLine s).alc.condCtx = s.alc.condCtx
      ∧ (sampleLine s).alc.stack = s.alc.stack ∧ (sampleLine s).alc.threshold = s.alc.threshold
      ∧ (sampleLine s).alc.firstAlert = s.alc.firstAlert ∧ (sampleLine s).alc.later = s.alc.later
      ∧ (sampleLine s).alc.reaction = s.alc.reaction ∧ (sampleLine s).alc.evalDue = s.alc.evalDue
      ∧ (sampleLine s).choices = s.choices ∧ (sampleLine s).pending = s.pending := by
  simp [sampleLine]

/-! ### The receiver -/

/-- LRX without a frame keeps its control buffers and its timer, and is as given otherwise (R4). -/
@[simp] theorem Lrx.without_frame (l : Lrx) (x : RxState) (n : Nat) :
    (l.without x n).state = x ∧ (l.without x n).idle = n ∧ (l.without x n).header = [] ∧ (l.without x n).payload = []
      ∧ (l.without x n).trailer = [] ∧ (l.without x n).crc = 0xFFFF ∧ (l.without x n).line = .undecided
      ∧ (l.without x n).intake = l.intake ∧ (l.without x n).execute = l.execute
      ∧ (l.without x n).timer = l.timer := by
  exact ⟨rfl, rfl, rfl, rfl, rfl, rfl, rfl, rfl, rfl, rfl⟩

/-- The line entries alone (R12). -/
@[simp] theorem discardLine_frame (s : State) :
    (discardLine s).lrx = s.lrx ∧ (discardLine s).cmuSlot = s.cmuSlot ∧ (discardLine s).ltx = s.ltx
      ∧ (discardLine s).line = s.line ∧ (discardLine s).pfs = s.pfs ∧ (discardLine s).cpa = s.cpa
      ∧ (discardLine s).bars = s.bars ∧ (discardLine s).rls = s.rls ∧ (discardLine s).mou = s.mou
      ∧ (discardLine s).htc = s.htc ∧ (discardLine s).tnc = s.tnc ∧ (discardLine s).alc = s.alc
      ∧ (discardLine s).choices = s.choices ∧ (discardLine s).pending = s.pending := by
  generalize h : discardLine s = t
  simp only [discardLine] at h
  (repeat' split at h) <;> subst h <;> simp

/-- The frame in reception, its lines, and LINK_ERROR (R2). -/
@[simp] theorem framingError_frame (x : RxState) (n : Nat) (s : State) :
    (framingError x n s).lrx.intake = s.lrx.intake ∧ (framingError x n s).lrx.execute = s.lrx.execute
      ∧ (framingError x n s).lrx.timer = s.lrx.timer ∧ (framingError x n s).cmuSlot = s.cmuSlot
      ∧ (framingError x n s).ltx = s.ltx ∧ (framingError x n s).line = s.line ∧ (framingError x n s).pfs = s.pfs
      ∧ (framingError x n s).cpa = s.cpa ∧ (framingError x n s).bars = s.bars ∧ (framingError x n s).rls = s.rls
      ∧ (framingError x n s).mou = s.mou ∧ (framingError x n s).htc = s.htc ∧ (framingError x n s).tnc = s.tnc
      ∧ (framingError x n s).alc.config = s.alc.config ∧ (framingError x n s).alc.holds = s.alc.holds
      ∧ (framingError x n s).alc.condCtx = s.alc.condCtx ∧ (framingError x n s).alc.stack = s.alc.stack
      ∧ (framingError x n s).alc.threshold = s.alc.threshold
      ∧ (framingError x n s).alc.firstAlert = s.alc.firstAlert ∧ (framingError x n s).alc.later = s.alc.later
      ∧ (framingError x n s).alc.reaction = s.alc.reaction ∧ (framingError x n s).alc.evalDue = s.alc.evalDue
      ∧ (framingError x n s).choices = s.choices ∧ (framingError x n s).pending = s.pending := by
  simp [framingError]

/-- What is decided about the LINE frame, and LINK_ERROR (R10). -/
@[simp] theorem lineWithSlot_frame (line : LineRx) (s : State) :
    (lineWithSlot line s).lrx.state = s.lrx.state ∧ (lineWithSlot line s).lrx.idle = s.lrx.idle
      ∧ (lineWithSlot line s).lrx.header = s.lrx.header ∧ (lineWithSlot line s).lrx.payload = s.lrx.payload
      ∧ (lineWithSlot line s).lrx.trailer = s.lrx.trailer ∧ (lineWithSlot line s).lrx.crc = s.lrx.crc
      ∧ (lineWithSlot line s).lrx.intake = s.lrx.intake ∧ (lineWithSlot line s).lrx.execute = s.lrx.execute
      ∧ (lineWithSlot line s).lrx.timer = s.lrx.timer ∧ (lineWithSlot line s).cmuSlot = s.cmuSlot
      ∧ (lineWithSlot line s).ltx = s.ltx ∧ (lineWithSlot line s).line = s.line
      ∧ (lineWithSlot line s).pfs = s.pfs ∧ (lineWithSlot line s).cpa = s.cpa ∧ (lineWithSlot line s).lst = s.lst
      ∧ (lineWithSlot line s).bars = s.bars ∧ (lineWithSlot line s).rls = s.rls
      ∧ (lineWithSlot line s).mou = s.mou ∧ (lineWithSlot line s).htc = s.htc ∧ (lineWithSlot line s).tnc = s.tnc
      ∧ (lineWithSlot line s).alc.config = s.alc.config ∧ (lineWithSlot line s).alc.holds = s.alc.holds
      ∧ (lineWithSlot line s).alc.condCtx = s.alc.condCtx ∧ (lineWithSlot line s).alc.stack = s.alc.stack
      ∧ (lineWithSlot line s).alc.threshold = s.alc.threshold
      ∧ (lineWithSlot line s).alc.firstAlert = s.alc.firstAlert ∧ (lineWithSlot line s).alc.later = s.alc.later
      ∧ (lineWithSlot line s).alc.reaction = s.alc.reaction ∧ (lineWithSlot line s).alc.evalDue = s.alc.evalDue
      ∧ (lineWithSlot line s).choices = s.choices ∧ (lineWithSlot line s).pending = s.pending := by
  generalize h : lineWithSlot line s = t
  simp only [lineWithSlot] at h
  (repeat' split at h) <;> subst h <;> simp

/-- What is decided about the LINE frame, and its entry (R130). -/
@[simp] theorem acceptLine_frame (seg : Tag) (line offset count : Nat) (slot : Bool) (s : State) :
    (acceptLine seg line offset count slot s).lrx.state = s.lrx.state
      ∧ (acceptLine seg line offset count slot s).lrx.idle = s.lrx.idle
      ∧ (acceptLine seg line offset count slot s).lrx.header = s.lrx.header
      ∧ (acceptLine seg line offset count slot s).lrx.payload = s.lrx.payload
      ∧ (acceptLine seg line offset count slot s).lrx.trailer = s.lrx.trailer
      ∧ (acceptLine seg line offset count slot s).lrx.crc = s.lrx.crc
      ∧ (acceptLine seg line offset count slot s).lrx.intake = s.lrx.intake
      ∧ (acceptLine seg line offset count slot s).lrx.execute = s.lrx.execute
      ∧ (acceptLine seg line offset count slot s).lrx.timer = s.lrx.timer
      ∧ (acceptLine seg line offset count slot s).cmuSlot = s.cmuSlot
      ∧ (acceptLine seg line offset count slot s).ltx = s.ltx
      ∧ (acceptLine seg line offset count slot s).line = s.line
      ∧ (acceptLine seg line offset count slot s).pfs = s.pfs
      ∧ (acceptLine seg line offset count slot s).cpa = s.cpa
      ∧ (acceptLine seg line offset count slot s).bars = s.bars
      ∧ (acceptLine seg line offset count slot s).rls = s.rls
      ∧ (acceptLine seg line offset count slot s).mou = s.mou
      ∧ (acceptLine seg line offset count slot s).htc = s.htc
      ∧ (acceptLine seg line offset count slot s).tnc = s.tnc
      ∧ (acceptLine seg line offset count slot s).alc = s.alc
      ∧ (acceptLine seg line offset count slot s).choices = s.choices
      ∧ (acceptLine seg line offset count slot s).pending = s.pending := by
  generalize h : acceptLine seg line offset count slot s = t
  simp only [acceptLine] at h
  (repeat' split at h) <;> subst h <;> simp

/-- What is decided about the LINE frame, its entry, and LINK_ERROR (R8 to R10). -/
@[simp] theorem checkLine_frame (s : State) :
    (checkLine s).lrx.state = s.lrx.state ∧ (checkLine s).lrx.idle = s.lrx.idle
      ∧ (checkLine s).lrx.header = s.lrx.header ∧ (checkLine s).lrx.payload = s.lrx.payload
      ∧ (checkLine s).lrx.trailer = s.lrx.trailer ∧ (checkLine s).lrx.crc = s.lrx.crc
      ∧ (checkLine s).lrx.intake = s.lrx.intake ∧ (checkLine s).lrx.execute = s.lrx.execute
      ∧ (checkLine s).lrx.timer = s.lrx.timer ∧ (checkLine s).cmuSlot = s.cmuSlot ∧ (checkLine s).ltx = s.ltx
      ∧ (checkLine s).line = s.line ∧ (checkLine s).pfs = s.pfs ∧ (checkLine s).cpa = s.cpa
      ∧ (checkLine s).bars = s.bars ∧ (checkLine s).rls = s.rls ∧ (checkLine s).mou = s.mou
      ∧ (checkLine s).htc = s.htc ∧ (checkLine s).tnc = s.tnc ∧ (checkLine s).alc.config = s.alc.config
      ∧ (checkLine s).alc.holds = s.alc.holds ∧ (checkLine s).alc.condCtx = s.alc.condCtx
      ∧ (checkLine s).alc.stack = s.alc.stack ∧ (checkLine s).alc.threshold = s.alc.threshold
      ∧ (checkLine s).alc.firstAlert = s.alc.firstAlert ∧ (checkLine s).alc.later = s.alc.later
      ∧ (checkLine s).alc.reaction = s.alc.reaction ∧ (checkLine s).alc.evalDue = s.alc.evalDue
      ∧ (checkLine s).choices = s.choices ∧ (checkLine s).pending = s.pending := by
  generalize h : checkLine s = t
  simp only [checkLine] at h
  (repeat' split at h) <;> subst h <;> simp

/-- The line entries alone (R57). -/
@[simp] theorem takePixel_frame (s : State) :
    (takePixel s).lrx = s.lrx ∧ (takePixel s).cmuSlot = s.cmuSlot ∧ (takePixel s).ltx = s.ltx
      ∧ (takePixel s).line = s.line ∧ (takePixel s).pfs = s.pfs ∧ (takePixel s).cpa = s.cpa
      ∧ (takePixel s).bars = s.bars ∧ (takePixel s).rls = s.rls ∧ (takePixel s).mou = s.mou
      ∧ (takePixel s).htc = s.htc ∧ (takePixel s).tnc = s.tnc ∧ (takePixel s).alc = s.alc
      ∧ (takePixel s).choices = s.choices ∧ (takePixel s).pending = s.pending := by
  generalize h : takePixel s = t
  simp only [takePixel] at h
  (repeat' split at h) <;> subst h <;> simp

/-- As the checks of a LINE frame and its pixels. -/
@[simp] theorem linePayloadByte_frame (s : State) :
    (linePayloadByte s).lrx.state = s.lrx.state ∧ (linePayloadByte s).lrx.idle = s.lrx.idle
      ∧ (linePayloadByte s).lrx.header = s.lrx.header ∧ (linePayloadByte s).lrx.payload = s.lrx.payload
      ∧ (linePayloadByte s).lrx.trailer = s.lrx.trailer ∧ (linePayloadByte s).lrx.crc = s.lrx.crc
      ∧ (linePayloadByte s).lrx.intake = s.lrx.intake ∧ (linePayloadByte s).lrx.execute = s.lrx.execute
      ∧ (linePayloadByte s).lrx.timer = s.lrx.timer ∧ (linePayloadByte s).cmuSlot = s.cmuSlot
      ∧ (linePayloadByte s).ltx = s.ltx ∧ (linePayloadByte s).line = s.line ∧ (linePayloadByte s).pfs = s.pfs
      ∧ (linePayloadByte s).cpa = s.cpa ∧ (linePayloadByte s).bars = s.bars ∧ (linePayloadByte s).rls = s.rls
      ∧ (linePayloadByte s).mou = s.mou ∧ (linePayloadByte s).htc = s.htc ∧ (linePayloadByte s).tnc = s.tnc
      ∧ (linePayloadByte s).alc.config = s.alc.config ∧ (linePayloadByte s).alc.holds = s.alc.holds
      ∧ (linePayloadByte s).alc.condCtx = s.alc.condCtx ∧ (linePayloadByte s).alc.stack = s.alc.stack
      ∧ (linePayloadByte s).alc.threshold = s.alc.threshold
      ∧ (linePayloadByte s).alc.firstAlert = s.alc.firstAlert ∧ (linePayloadByte s).alc.later = s.alc.later
      ∧ (linePayloadByte s).alc.reaction = s.alc.reaction ∧ (linePayloadByte s).alc.evalDue = s.alc.evalDue
      ∧ (linePayloadByte s).choices = s.choices ∧ (linePayloadByte s).pending = s.pending := by
  generalize h : linePayloadByte s = t
  simp only [linePayloadByte] at h
  (repeat' split at h) <;> subst h <;> simp

/-- The frame in reception (R1). -/
@[simp] theorem takeHeaderByte_frame (b : Byte) (s : State) :
    (takeHeaderByte b s).lrx.intake = s.lrx.intake ∧ (takeHeaderByte b s).lrx.execute = s.lrx.execute
      ∧ (takeHeaderByte b s).lrx.timer = s.lrx.timer ∧ (takeHeaderByte b s).cmuSlot = s.cmuSlot
      ∧ (takeHeaderByte b s).ltx = s.ltx ∧ (takeHeaderByte b s).line = s.line ∧ (takeHeaderByte b s).pfs = s.pfs
      ∧ (takeHeaderByte b s).cpa = s.cpa ∧ (takeHeaderByte b s).bars = s.bars ∧ (takeHeaderByte b s).rls = s.rls
      ∧ (takeHeaderByte b s).mou = s.mou ∧ (takeHeaderByte b s).htc = s.htc ∧ (takeHeaderByte b s).tnc = s.tnc
      ∧ (takeHeaderByte b s).alc.config = s.alc.config ∧ (takeHeaderByte b s).alc.holds = s.alc.holds
      ∧ (takeHeaderByte b s).alc.condCtx = s.alc.condCtx ∧ (takeHeaderByte b s).alc.stack = s.alc.stack
      ∧ (takeHeaderByte b s).alc.threshold = s.alc.threshold
      ∧ (takeHeaderByte b s).alc.firstAlert = s.alc.firstAlert ∧ (takeHeaderByte b s).alc.later = s.alc.later
      ∧ (takeHeaderByte b s).alc.reaction = s.alc.reaction ∧ (takeHeaderByte b s).alc.evalDue = s.alc.evalDue
      ∧ (takeHeaderByte b s).choices = s.choices ∧ (takeHeaderByte b s).pending = s.pending := by
  generalize h : takeHeaderByte b s = t
  simp only [takeHeaderByte] at h
  (repeat' split at h) <;> subst h <;> simp

/-- The frame in reception (R1). -/
@[simp] theorem takePayloadByte_frame (b : Byte) (s : State) :
    (takePayloadByte b s).lrx.idle = s.lrx.idle ∧ (takePayloadByte b s).lrx.header = s.lrx.header
      ∧ (takePayloadByte b s).lrx.trailer = s.lrx.trailer ∧ (takePayloadByte b s).lrx.intake = s.lrx.intake
      ∧ (takePayloadByte b s).lrx.execute = s.lrx.execute ∧ (takePayloadByte b s).lrx.timer = s.lrx.timer
      ∧ (takePayloadByte b s).cmuSlot = s.cmuSlot ∧ (takePayloadByte b s).ltx = s.ltx
      ∧ (takePayloadByte b s).line = s.line ∧ (takePayloadByte b s).pfs = s.pfs
      ∧ (takePayloadByte b s).cpa = s.cpa ∧ (takePayloadByte b s).bars = s.bars
      ∧ (takePayloadByte b s).rls = s.rls ∧ (takePayloadByte b s).mou = s.mou ∧ (takePayloadByte b s).htc = s.htc
      ∧ (takePayloadByte b s).tnc = s.tnc ∧ (takePayloadByte b s).alc.config = s.alc.config
      ∧ (takePayloadByte b s).alc.holds = s.alc.holds ∧ (takePayloadByte b s).alc.condCtx = s.alc.condCtx
      ∧ (takePayloadByte b s).alc.stack = s.alc.stack ∧ (takePayloadByte b s).alc.threshold = s.alc.threshold
      ∧ (takePayloadByte b s).alc.firstAlert = s.alc.firstAlert ∧ (takePayloadByte b s).alc.later = s.alc.later
      ∧ (takePayloadByte b s).alc.reaction = s.alc.reaction ∧ (takePayloadByte b s).alc.evalDue = s.alc.evalDue
      ∧ (takePayloadByte b s).choices = s.choices ∧ (takePayloadByte b s).pending = s.pending := by
  generalize h : takePayloadByte b s = t
  simp only [takePayloadByte] at h
  (repeat' split at h) <;> subst h <;> simp

/-- The frame in reception (R1). -/
@[simp] theorem takeTrailerByte_frame (b : Byte) (s : State) :
    (takeTrailerByte b s).lrx.intake = s.lrx.intake ∧ (takeTrailerByte b s).lrx.execute = s.lrx.execute
      ∧ (takeTrailerByte b s).lrx.timer = s.lrx.timer ∧ (takeTrailerByte b s).cmuSlot = s.cmuSlot
      ∧ (takeTrailerByte b s).ltx = s.ltx ∧ (takeTrailerByte b s).line = s.line
      ∧ (takeTrailerByte b s).pfs = s.pfs ∧ (takeTrailerByte b s).cpa = s.cpa
      ∧ (takeTrailerByte b s).bars = s.bars ∧ (takeTrailerByte b s).rls = s.rls
      ∧ (takeTrailerByte b s).mou = s.mou ∧ (takeTrailerByte b s).htc = s.htc ∧ (takeTrailerByte b s).tnc = s.tnc
      ∧ (takeTrailerByte b s).alc.config = s.alc.config ∧ (takeTrailerByte b s).alc.holds = s.alc.holds
      ∧ (takeTrailerByte b s).alc.condCtx = s.alc.condCtx ∧ (takeTrailerByte b s).alc.stack = s.alc.stack
      ∧ (takeTrailerByte b s).alc.threshold = s.alc.threshold
      ∧ (takeTrailerByte b s).alc.firstAlert = s.alc.firstAlert ∧ (takeTrailerByte b s).alc.later = s.alc.later
      ∧ (takeTrailerByte b s).alc.reaction = s.alc.reaction ∧ (takeTrailerByte b s).alc.evalDue = s.alc.evalDue
      ∧ (takeTrailerByte b s).choices = s.choices ∧ (takeTrailerByte b s).pending = s.pending := by
  generalize h : takeTrailerByte b s = t
  simp only [takeTrailerByte] at h
  (repeat' split at h) <;> subst h <;> simp

/-- The frame in reception (R1). -/
@[simp] theorem takeData_frame (b : Byte) (s : State) :
    (takeData b s).lrx.intake = s.lrx.intake ∧ (takeData b s).lrx.execute = s.lrx.execute
      ∧ (takeData b s).lrx.timer = s.lrx.timer ∧ (takeData b s).cmuSlot = s.cmuSlot ∧ (takeData b s).ltx = s.ltx
      ∧ (takeData b s).line = s.line ∧ (takeData b s).pfs = s.pfs ∧ (takeData b s).cpa = s.cpa
      ∧ (takeData b s).bars = s.bars ∧ (takeData b s).rls = s.rls ∧ (takeData b s).mou = s.mou
      ∧ (takeData b s).htc = s.htc ∧ (takeData b s).tnc = s.tnc ∧ (takeData b s).alc.config = s.alc.config
      ∧ (takeData b s).alc.holds = s.alc.holds ∧ (takeData b s).alc.condCtx = s.alc.condCtx
      ∧ (takeData b s).alc.stack = s.alc.stack ∧ (takeData b s).alc.threshold = s.alc.threshold
      ∧ (takeData b s).alc.firstAlert = s.alc.firstAlert ∧ (takeData b s).alc.later = s.alc.later
      ∧ (takeData b s).alc.reaction = s.alc.reaction ∧ (takeData b s).alc.evalDue = s.alc.evalDue
      ∧ (takeData b s).choices = s.choices ∧ (takeData b s).pending = s.pending := by
  generalize h : takeData b s = t
  simp only [takeData] at h
  (repeat' split at h) <;> subst h <;> simp

/-- The frame in reception (R1, R2). -/
@[simp] theorem takeStart_frame (s : State) :
    (takeStart s).lrx.intake = s.lrx.intake ∧ (takeStart s).lrx.execute = s.lrx.execute
      ∧ (takeStart s).lrx.timer = s.lrx.timer ∧ (takeStart s).cmuSlot = s.cmuSlot ∧ (takeStart s).ltx = s.ltx
      ∧ (takeStart s).line = s.line ∧ (takeStart s).pfs = s.pfs ∧ (takeStart s).cpa = s.cpa
      ∧ (takeStart s).bars = s.bars ∧ (takeStart s).rls = s.rls ∧ (takeStart s).mou = s.mou
      ∧ (takeStart s).htc = s.htc ∧ (takeStart s).tnc = s.tnc ∧ (takeStart s).alc.config = s.alc.config
      ∧ (takeStart s).alc.holds = s.alc.holds ∧ (takeStart s).alc.condCtx = s.alc.condCtx
      ∧ (takeStart s).alc.stack = s.alc.stack ∧ (takeStart s).alc.threshold = s.alc.threshold
      ∧ (takeStart s).alc.firstAlert = s.alc.firstAlert ∧ (takeStart s).alc.later = s.alc.later
      ∧ (takeStart s).alc.reaction = s.alc.reaction ∧ (takeStart s).alc.evalDue = s.alc.evalDue
      ∧ (takeStart s).choices = s.choices ∧ (takeStart s).pending = s.pending := by
  generalize h : takeStart s = t
  simp only [takeStart] at h
  (repeat' split at h) <;> subst h <;> simp

/-- The link timer alone (R20). -/
@[simp] theorem restartTimer_frame (s : State) :
    (restartTimer s).lrx.state = s.lrx.state ∧ (restartTimer s).lrx.idle = s.lrx.idle
      ∧ (restartTimer s).lrx.header = s.lrx.header ∧ (restartTimer s).lrx.payload = s.lrx.payload
      ∧ (restartTimer s).lrx.trailer = s.lrx.trailer ∧ (restartTimer s).lrx.crc = s.lrx.crc
      ∧ (restartTimer s).lrx.line = s.lrx.line ∧ (restartTimer s).lrx.intake = s.lrx.intake
      ∧ (restartTimer s).lrx.execute = s.lrx.execute ∧ (restartTimer s).cmuSlot = s.cmuSlot
      ∧ (restartTimer s).ltx = s.ltx ∧ (restartTimer s).line = s.line ∧ (restartTimer s).pfs = s.pfs
      ∧ (restartTimer s).cpa = s.cpa ∧ (restartTimer s).lst = s.lst ∧ (restartTimer s).bars = s.bars
      ∧ (restartTimer s).rls = s.rls ∧ (restartTimer s).mou = s.mou ∧ (restartTimer s).htc = s.htc
      ∧ (restartTimer s).tnc = s.tnc ∧ (restartTimer s).alc = s.alc ∧ (restartTimer s).choices = s.choices
      ∧ (restartTimer s).pending = s.pending := by
  generalize h : restartTimer s = t
  simp only [restartTimer] at h
  (repeat' split at h) <;> subst h <;> simp

/-- The link timer and LINK_LOST (R20). -/
@[simp] theorem goodFrame_frame (s : State) :
    (goodFrame s).lrx.state = s.lrx.state ∧ (goodFrame s).lrx.idle = s.lrx.idle
      ∧ (goodFrame s).lrx.header = s.lrx.header ∧ (goodFrame s).lrx.payload = s.lrx.payload
      ∧ (goodFrame s).lrx.trailer = s.lrx.trailer ∧ (goodFrame s).lrx.crc = s.lrx.crc
      ∧ (goodFrame s).lrx.line = s.lrx.line ∧ (goodFrame s).lrx.intake = s.lrx.intake
      ∧ (goodFrame s).lrx.execute = s.lrx.execute ∧ (goodFrame s).cmuSlot = s.cmuSlot ∧ (goodFrame s).ltx = s.ltx
      ∧ (goodFrame s).line = s.line ∧ (goodFrame s).pfs = s.pfs ∧ (goodFrame s).cpa = s.cpa
      ∧ (goodFrame s).lst = s.lst ∧ (goodFrame s).bars = s.bars ∧ (goodFrame s).rls = s.rls
      ∧ (goodFrame s).mou = s.mou ∧ (goodFrame s).htc = s.htc ∧ (goodFrame s).tnc = s.tnc
      ∧ (goodFrame s).alc.config = s.alc.config ∧ (goodFrame s).alc.condCtx = s.alc.condCtx
      ∧ (goodFrame s).alc.occ = s.alc.occ ∧ (goodFrame s).alc.stack = s.alc.stack
      ∧ (goodFrame s).alc.threshold = s.alc.threshold ∧ (goodFrame s).alc.firstAlert = s.alc.firstAlert
      ∧ (goodFrame s).alc.later = s.alc.later ∧ (goodFrame s).alc.reaction = s.alc.reaction
      ∧ (goodFrame s).alc.fresh = s.alc.fresh ∧ (goodFrame s).alc.evalDue = s.alc.evalDue
      ∧ (goodFrame s).choices = s.choices ∧ (goodFrame s).pending = s.pending := by
  generalize h : goodFrame s = t
  simp only [goodFrame] at h
  (repeat' split at h) <;> subst h <;> simp

/-- The frame in reception and the link timer (R2, R20). -/
@[simp] theorem takeIdle_frame (s : State) :
    (takeIdle s).lrx.intake = s.lrx.intake ∧ (takeIdle s).lrx.execute = s.lrx.execute
      ∧ (takeIdle s).cmuSlot = s.cmuSlot ∧ (takeIdle s).ltx = s.ltx ∧ (takeIdle s).line = s.line
      ∧ (takeIdle s).pfs = s.pfs ∧ (takeIdle s).cpa = s.cpa ∧ (takeIdle s).bars = s.bars
      ∧ (takeIdle s).rls = s.rls ∧ (takeIdle s).mou = s.mou ∧ (takeIdle s).htc = s.htc ∧ (takeIdle s).tnc = s.tnc
      ∧ (takeIdle s).alc.config = s.alc.config ∧ (takeIdle s).alc.holds = s.alc.holds
      ∧ (takeIdle s).alc.condCtx = s.alc.condCtx ∧ (takeIdle s).alc.stack = s.alc.stack
      ∧ (takeIdle s).alc.threshold = s.alc.threshold ∧ (takeIdle s).alc.firstAlert = s.alc.firstAlert
      ∧ (takeIdle s).alc.later = s.alc.later ∧ (takeIdle s).alc.reaction = s.alc.reaction
      ∧ (takeIdle s).alc.evalDue = s.alc.evalDue ∧ (takeIdle s).choices = s.choices
      ∧ (takeIdle s).pending = s.pending := by
  generalize h : takeIdle s = t
  simp only [takeIdle] at h
  (repeat' split at h) <;> subst h <;> simp

/-- The frame in reception and the intake buffer (R4). -/
@[simp] theorem takeAbort_frame (s : State) :
    (takeAbort s).lrx.execute = s.lrx.execute ∧ (takeAbort s).lrx.timer = s.lrx.timer
      ∧ (takeAbort s).cmuSlot = s.cmuSlot ∧ (takeAbort s).ltx = s.ltx ∧ (takeAbort s).line = s.line
      ∧ (takeAbort s).pfs = s.pfs ∧ (takeAbort s).cpa = s.cpa ∧ (takeAbort s).bars = s.bars
      ∧ (takeAbort s).rls = s.rls ∧ (takeAbort s).mou = s.mou ∧ (takeAbort s).htc = s.htc
      ∧ (takeAbort s).tnc = s.tnc ∧ (takeAbort s).alc = s.alc ∧ (takeAbort s).choices = s.choices
      ∧ (takeAbort s).pending = s.pending := by
  simp [takeAbort]

/-! ### The line store and the bars -/

/-- The line entries alone (R132). -/
@[simp] theorem freeEntries_frame (s : State) :
    (freeEntries s).lrx = s.lrx ∧ (freeEntries s).cmuSlot = s.cmuSlot ∧ (freeEntries s).ltx = s.ltx
      ∧ (freeEntries s).line = s.line ∧ (freeEntries s).pfs = s.pfs ∧ (freeEntries s).cpa = s.cpa
      ∧ (freeEntries s).bars = s.bars ∧ (freeEntries s).rls = s.rls ∧ (freeEntries s).mou = s.mou
      ∧ (freeEntries s).htc = s.htc ∧ (freeEntries s).tnc = s.tnc ∧ (freeEntries s).alc = s.alc
      ∧ (freeEntries s).choices = s.choices ∧ (freeEntries s).pending = s.pending := by
  simp [freeEntries]

/-- The record and the fill cursor (R52). -/
@[simp] theorem sealSegment_frame (t : Tag) (s : State) :
    (sealSegment t s).lrx = s.lrx ∧ (sealSegment t s).cmuSlot = s.cmuSlot ∧ (sealSegment t s).ltx = s.ltx
      ∧ (sealSegment t s).line = s.line ∧ (sealSegment t s).pfs = s.pfs ∧ (sealSegment t s).lst = s.lst
      ∧ (sealSegment t s).bars = s.bars ∧ (sealSegment t s).mou = s.mou ∧ (sealSegment t s).htc = s.htc
      ∧ (sealSegment t s).tnc = s.tnc ∧ (sealSegment t s).alc = s.alc ∧ (sealSegment t s).choices = s.choices
      ∧ (sealSegment t s).pending = s.pending := by
  generalize h : sealSegment t s = t
  simp only [sealSegment] at h
  (repeat' split at h) <;> subst h <;> simp

/-- The record and the fill cursor (R53, R54). -/
@[simp] theorem fillNextLine_frame (t : Tag) (n lines : Nat) (s : State) :
    (fillNextLine t n lines s).lrx = s.lrx ∧ (fillNextLine t n lines s).cmuSlot = s.cmuSlot
      ∧ (fillNextLine t n lines s).ltx = s.ltx ∧ (fillNextLine t n lines s).line = s.line
      ∧ (fillNextLine t n lines s).pfs = s.pfs ∧ (fillNextLine t n lines s).lst = s.lst
      ∧ (fillNextLine t n lines s).bars = s.bars ∧ (fillNextLine t n lines s).mou = s.mou
      ∧ (fillNextLine t n lines s).htc = s.htc ∧ (fillNextLine t n lines s).tnc = s.tnc
      ∧ (fillNextLine t n lines s).alc = s.alc ∧ (fillNextLine t n lines s).choices = s.choices
      ∧ (fillNextLine t n lines s).pending = s.pending := by
  generalize h : fillNextLine t n lines s = t
  simp only [fillNextLine] at h
  (repeat' split at h) <;> subst h <;> simp

/-- The line entries, the record and the fill cursor (R11). -/
@[simp] theorem commitLine_frame (seg : Tag) (line offset count : Nat) (s : State) :
    (commitLine seg line offset count s).lrx = s.lrx ∧ (commitLine seg line offset count s).cmuSlot = s.cmuSlot
      ∧ (commitLine seg line offset count s).ltx = s.ltx ∧ (commitLine seg line offset count s).line = s.line
      ∧ (commitLine seg line offset count s).pfs = s.pfs ∧ (commitLine seg line offset count s).bars = s.bars
      ∧ (commitLine seg line offset count s).mou = s.mou ∧ (commitLine seg line offset count s).htc = s.htc
      ∧ (commitLine seg line offset count s).tnc = s.tnc ∧ (commitLine seg line offset count s).alc = s.alc
      ∧ (commitLine seg line offset count s).choices = s.choices
      ∧ (commitLine seg line offset count s).pending = s.pending := by
  generalize h : commitLine seg line offset count s = t
  simp only [commitLine] at h
  (repeat' split at h) <;> subst h <;> simp

/-- The answer queue alone (R16). -/
@[simp] theorem queueAnswer_frame (a : Answer) (s : State) :
    (queueAnswer a s).lrx = s.lrx ∧ (queueAnswer a s).cmuSlot = s.cmuSlot ∧ (queueAnswer a s).ltx.tx = s.ltx.tx
      ∧ (queueAnswer a s).ltx.notices = s.ltx.notices ∧ (queueAnswer a s).ltx.overrun = s.ltx.overrun
      ∧ (queueAnswer a s).ltx.flowHeld = s.ltx.flowHeld ∧ (queueAnswer a s).line = s.line
      ∧ (queueAnswer a s).pfs = s.pfs ∧ (queueAnswer a s).cpa = s.cpa ∧ (queueAnswer a s).lst = s.lst
      ∧ (queueAnswer a s).bars = s.bars ∧ (queueAnswer a s).rls = s.rls ∧ (queueAnswer a s).mou = s.mou
      ∧ (queueAnswer a s).htc = s.htc ∧ (queueAnswer a s).tnc = s.tnc ∧ (queueAnswer a s).alc = s.alc
      ∧ (queueAnswer a s).choices = s.choices ∧ (queueAnswer a s).pending = s.pending := by
  simp [queueAnswer]

/-- The frame in reception, its lines and its answer (R10, R11). -/
@[simp] theorem completeLine_frame (s : State) :
    (completeLine s).lrx.intake = s.lrx.intake ∧ (completeLine s).lrx.execute = s.lrx.execute
      ∧ (completeLine s).lrx.timer = s.lrx.timer ∧ (completeLine s).cmuSlot = s.cmuSlot
      ∧ (completeLine s).ltx.tx = s.ltx.tx ∧ (completeLine s).ltx.notices = s.ltx.notices
      ∧ (completeLine s).ltx.overrun = s.ltx.overrun ∧ (completeLine s).ltx.flowHeld = s.ltx.flowHeld
      ∧ (completeLine s).line = s.line ∧ (completeLine s).pfs = s.pfs ∧ (completeLine s).bars = s.bars
      ∧ (completeLine s).mou = s.mou ∧ (completeLine s).htc = s.htc ∧ (completeLine s).tnc = s.tnc
      ∧ (completeLine s).alc = s.alc ∧ (completeLine s).choices = s.choices ∧ (completeLine s).pending = s.pending := by
  generalize h : completeLine s = t
  simp only [completeLine] at h
  (repeat' split at h) <;> subst h <;> simp

/-- What is decided about the LINE frame, and LINK_ERROR (R13). -/
@[simp] theorem overtake_frame (code : AnswerCode) (s : State) :
    (overtake code s).lrx.state = s.lrx.state ∧ (overtake code s).lrx.idle = s.lrx.idle
      ∧ (overtake code s).lrx.header = s.lrx.header ∧ (overtake code s).lrx.payload = s.lrx.payload
      ∧ (overtake code s).lrx.trailer = s.lrx.trailer ∧ (overtake code s).lrx.crc = s.lrx.crc
      ∧ (overtake code s).lrx.intake = s.lrx.intake ∧ (overtake code s).lrx.execute = s.lrx.execute
      ∧ (overtake code s).lrx.timer = s.lrx.timer ∧ (overtake code s).cmuSlot = s.cmuSlot
      ∧ (overtake code s).ltx = s.ltx ∧ (overtake code s).line = s.line ∧ (overtake code s).pfs = s.pfs
      ∧ (overtake code s).cpa = s.cpa ∧ (overtake code s).lst = s.lst ∧ (overtake code s).bars = s.bars
      ∧ (overtake code s).rls = s.rls ∧ (overtake code s).mou = s.mou ∧ (overtake code s).htc = s.htc
      ∧ (overtake code s).tnc = s.tnc ∧ (overtake code s).alc.config = s.alc.config
      ∧ (overtake code s).alc.holds = s.alc.holds ∧ (overtake code s).alc.condCtx = s.alc.condCtx
      ∧ (overtake code s).alc.stack = s.alc.stack ∧ (overtake code s).alc.threshold = s.alc.threshold
      ∧ (overtake code s).alc.firstAlert = s.alc.firstAlert ∧ (overtake code s).alc.later = s.alc.later
      ∧ (overtake code s).alc.reaction = s.alc.reaction ∧ (overtake code s).alc.evalDue = s.alc.evalDue
      ∧ (overtake code s).choices = s.choices ∧ (overtake code s).pending = s.pending := by
  generalize h : overtake code s = t
  simp only [overtake] at h
  (repeat' split at h) <;> subst h <;> simp

/-- As an overtaking (R13). -/
@[simp] theorem overtakeOf_frame (t : Tag) (code : AnswerCode) (s : State) :
    (overtakeOf t code s).lrx.state = s.lrx.state ∧ (overtakeOf t code s).lrx.idle = s.lrx.idle
      ∧ (overtakeOf t code s).lrx.header = s.lrx.header ∧ (overtakeOf t code s).lrx.payload = s.lrx.payload
      ∧ (overtakeOf t code s).lrx.trailer = s.lrx.trailer ∧ (overtakeOf t code s).lrx.crc = s.lrx.crc
      ∧ (overtakeOf t code s).lrx.intake = s.lrx.intake ∧ (overtakeOf t code s).lrx.execute = s.lrx.execute
      ∧ (overtakeOf t code s).lrx.timer = s.lrx.timer ∧ (overtakeOf t code s).cmuSlot = s.cmuSlot
      ∧ (overtakeOf t code s).ltx = s.ltx ∧ (overtakeOf t code s).line = s.line
      ∧ (overtakeOf t code s).pfs = s.pfs ∧ (overtakeOf t code s).cpa = s.cpa ∧ (overtakeOf t code s).lst = s.lst
      ∧ (overtakeOf t code s).bars = s.bars ∧ (overtakeOf t code s).rls = s.rls
      ∧ (overtakeOf t code s).mou = s.mou ∧ (overtakeOf t code s).htc = s.htc ∧ (overtakeOf t code s).tnc = s.tnc
      ∧ (overtakeOf t code s).alc.config = s.alc.config ∧ (overtakeOf t code s).alc.holds = s.alc.holds
      ∧ (overtakeOf t code s).alc.condCtx = s.alc.condCtx ∧ (overtakeOf t code s).alc.stack = s.alc.stack
      ∧ (overtakeOf t code s).alc.threshold = s.alc.threshold
      ∧ (overtakeOf t code s).alc.firstAlert = s.alc.firstAlert ∧ (overtakeOf t code s).alc.later = s.alc.later
      ∧ (overtakeOf t code s).alc.reaction = s.alc.reaction ∧ (overtakeOf t code s).alc.evalDue = s.alc.evalDue
      ∧ (overtakeOf t code s).choices = s.choices ∧ (overtakeOf t code s).pending = s.pending := by
  generalize h : overtakeOf t code s = t
  simp only [overtakeOf] at h
  (repeat' split at h) <;> subst h <;> simp

/-- The line entries, the record, the fill cursor, the LINE frame and LINE_LOST (R138). -/
@[simp] theorem declareLost_frame (r : Segment) (n : Nat) (s : State) :
    (declareLost r n s).lrx.state = s.lrx.state ∧ (declareLost r n s).lrx.idle = s.lrx.idle
      ∧ (declareLost r n s).lrx.header = s.lrx.header ∧ (declareLost r n s).lrx.payload = s.lrx.payload
      ∧ (declareLost r n s).lrx.trailer = s.lrx.trailer ∧ (declareLost r n s).lrx.crc = s.lrx.crc
      ∧ (declareLost r n s).lrx.intake = s.lrx.intake ∧ (declareLost r n s).lrx.execute = s.lrx.execute
      ∧ (declareLost r n s).lrx.timer = s.lrx.timer ∧ (declareLost r n s).cmuSlot = s.cmuSlot
      ∧ (declareLost r n s).ltx = s.ltx ∧ (declareLost r n s).line = s.line ∧ (declareLost r n s).pfs = s.pfs
      ∧ (declareLost r n s).bars = s.bars ∧ (declareLost r n s).mou = s.mou ∧ (declareLost r n s).htc = s.htc
      ∧ (declareLost r n s).tnc = s.tnc ∧ (declareLost r n s).alc.config = s.alc.config
      ∧ (declareLost r n s).alc.holds = s.alc.holds ∧ (declareLost r n s).alc.condCtx = s.alc.condCtx
      ∧ (declareLost r n s).alc.stack = s.alc.stack ∧ (declareLost r n s).alc.threshold = s.alc.threshold
      ∧ (declareLost r n s).alc.firstAlert = s.alc.firstAlert ∧ (declareLost r n s).alc.later = s.alc.later
      ∧ (declareLost r n s).alc.reaction = s.alc.reaction ∧ (declareLost r n s).alc.evalDue = s.alc.evalDue
      ∧ (declareLost r n s).choices = s.choices ∧ (declareLost r n s).pending = s.pending := by
  simp [declareLost]

/-- The bar's port and the record (R136, R141). -/
@[simp] theorem fireOrMiss_frame (k : Bar) (r : Segment) (n : Nat) (s : State) :
    (fireOrMiss k r n s).lrx = s.lrx ∧ (fireOrMiss k r n s).cmuSlot = s.cmuSlot
      ∧ (fireOrMiss k r n s).ltx = s.ltx ∧ (fireOrMiss k r n s).line = s.line ∧ (fireOrMiss k r n s).pfs = s.pfs
      ∧ (fireOrMiss k r n s).cpa = s.cpa ∧ (fireOrMiss k r n s).lst = s.lst ∧ (fireOrMiss k r n s).mou = s.mou
      ∧ (fireOrMiss k r n s).htc = s.htc ∧ (fireOrMiss k r n s).tnc = s.tnc ∧ (fireOrMiss k r n s).alc = s.alc
      ∧ (fireOrMiss k r n s).choices = s.choices ∧ (fireOrMiss k r n s).pending = s.pending := by
  generalize h : fireOrMiss k r n s = t
  simp only [fireOrMiss] at h
  (repeat' split at h) <;> subst h <;> simp

/-- The record alone (R113, R114). -/
@[simp] theorem reportHandling_frame (k : Bar) (t : Tag) (n : Nat) (s : State) :
    (reportHandling k t n s).lrx = s.lrx ∧ (reportHandling k t n s).cmuSlot = s.cmuSlot
      ∧ (reportHandling k t n s).ltx = s.ltx ∧ (reportHandling k t n s).line = s.line
      ∧ (reportHandling k t n s).pfs = s.pfs ∧ (reportHandling k t n s).cpa = s.cpa
      ∧ (reportHandling k t n s).lst = s.lst ∧ (reportHandling k t n s).bars = s.bars
      ∧ (reportHandling k t n s).mou = s.mou ∧ (reportHandling k t n s).htc = s.htc
      ∧ (reportHandling k t n s).tnc = s.tnc ∧ (reportHandling k t n s).alc = s.alc
      ∧ (reportHandling k t n s).choices = s.choices ∧ (reportHandling k t n s).pending = s.pending := by
  simp [reportHandling]

/-- A handling: the loss, the firing, the report and the cursor. -/
@[simp] theorem handleLine_frame (k : Bar) (r : Segment) (n : Nat) (s : State) :
    (handleLine k r n s).lrx.state = s.lrx.state ∧ (handleLine k r n s).lrx.idle = s.lrx.idle
      ∧ (handleLine k r n s).lrx.header = s.lrx.header ∧ (handleLine k r n s).lrx.payload = s.lrx.payload
      ∧ (handleLine k r n s).lrx.trailer = s.lrx.trailer ∧ (handleLine k r n s).lrx.crc = s.lrx.crc
      ∧ (handleLine k r n s).lrx.intake = s.lrx.intake ∧ (handleLine k r n s).lrx.execute = s.lrx.execute
      ∧ (handleLine k r n s).lrx.timer = s.lrx.timer ∧ (handleLine k r n s).cmuSlot = s.cmuSlot
      ∧ (handleLine k r n s).ltx = s.ltx ∧ (handleLine k r n s).line = s.line ∧ (handleLine k r n s).pfs = s.pfs
      ∧ (handleLine k r n s).mou = s.mou ∧ (handleLine k r n s).htc = s.htc ∧ (handleLine k r n s).tnc = s.tnc
      ∧ (handleLine k r n s).alc.config = s.alc.config ∧ (handleLine k r n s).alc.holds = s.alc.holds
      ∧ (handleLine k r n s).alc.condCtx = s.alc.condCtx ∧ (handleLine k r n s).alc.stack = s.alc.stack
      ∧ (handleLine k r n s).alc.threshold = s.alc.threshold
      ∧ (handleLine k r n s).alc.firstAlert = s.alc.firstAlert ∧ (handleLine k r n s).alc.later = s.alc.later
      ∧ (handleLine k r n s).alc.reaction = s.alc.reaction ∧ (handleLine k r n s).alc.evalDue = s.alc.evalDue
      ∧ (handleLine k r n s).choices = s.choices ∧ (handleLine k r n s).pending = s.pending := by
  generalize h : handleLine k r n s = t
  simp only [handleLine] at h
  (repeat' split at h) <;> subst h <;> simp

/-- As the handlings it is made of. -/
@[simp] theorem handleDue_frame (k : Bar) (fuel : Nat) (s : State) :
    (handleDue k fuel s).lrx.state = s.lrx.state ∧ (handleDue k fuel s).lrx.idle = s.lrx.idle
      ∧ (handleDue k fuel s).lrx.header = s.lrx.header ∧ (handleDue k fuel s).lrx.payload = s.lrx.payload
      ∧ (handleDue k fuel s).lrx.trailer = s.lrx.trailer ∧ (handleDue k fuel s).lrx.crc = s.lrx.crc
      ∧ (handleDue k fuel s).lrx.intake = s.lrx.intake ∧ (handleDue k fuel s).lrx.execute = s.lrx.execute
      ∧ (handleDue k fuel s).lrx.timer = s.lrx.timer ∧ (handleDue k fuel s).cmuSlot = s.cmuSlot
      ∧ (handleDue k fuel s).ltx = s.ltx ∧ (handleDue k fuel s).line = s.line ∧ (handleDue k fuel s).pfs = s.pfs
      ∧ (handleDue k fuel s).mou = s.mou ∧ (handleDue k fuel s).htc = s.htc ∧ (handleDue k fuel s).tnc = s.tnc
      ∧ (handleDue k fuel s).alc.config = s.alc.config ∧ (handleDue k fuel s).alc.holds = s.alc.holds
      ∧ (handleDue k fuel s).alc.condCtx = s.alc.condCtx ∧ (handleDue k fuel s).alc.stack = s.alc.stack
      ∧ (handleDue k fuel s).alc.threshold = s.alc.threshold
      ∧ (handleDue k fuel s).alc.firstAlert = s.alc.firstAlert ∧ (handleDue k fuel s).alc.later = s.alc.later
      ∧ (handleDue k fuel s).alc.reaction = s.alc.reaction ∧ (handleDue k fuel s).alc.evalDue = s.alc.evalDue
      ∧ (handleDue k fuel s).choices = s.choices ∧ (handleDue k fuel s).pending = s.pending := by
  induction fuel generalizing s with
  | zero => simp [handleDue]
  | succ n ih =>
    simp only [handleDue]
    split
    · simp
    · split
      · simp
      · split <;> simp [ih]

/-- As the handlings it is made of. -/
@[simp] theorem barAdvance_frame (k : Bar) (s : State) :
    (barAdvance s k).lrx.state = s.lrx.state ∧ (barAdvance s k).lrx.idle = s.lrx.idle
      ∧ (barAdvance s k).lrx.header = s.lrx.header ∧ (barAdvance s k).lrx.payload = s.lrx.payload
      ∧ (barAdvance s k).lrx.trailer = s.lrx.trailer ∧ (barAdvance s k).lrx.crc = s.lrx.crc
      ∧ (barAdvance s k).lrx.intake = s.lrx.intake ∧ (barAdvance s k).lrx.execute = s.lrx.execute
      ∧ (barAdvance s k).lrx.timer = s.lrx.timer ∧ (barAdvance s k).cmuSlot = s.cmuSlot
      ∧ (barAdvance s k).ltx = s.ltx ∧ (barAdvance s k).line = s.line ∧ (barAdvance s k).pfs = s.pfs
      ∧ (barAdvance s k).mou = s.mou ∧ (barAdvance s k).htc = s.htc ∧ (barAdvance s k).tnc = s.tnc
      ∧ (barAdvance s k).alc.config = s.alc.config ∧ (barAdvance s k).alc.holds = s.alc.holds
      ∧ (barAdvance s k).alc.condCtx = s.alc.condCtx ∧ (barAdvance s k).alc.stack = s.alc.stack
      ∧ (barAdvance s k).alc.threshold = s.alc.threshold ∧ (barAdvance s k).alc.firstAlert = s.alc.firstAlert
      ∧ (barAdvance s k).alc.later = s.alc.later ∧ (barAdvance s k).alc.reaction = s.alc.reaction
      ∧ (barAdvance s k).alc.evalDue = s.alc.evalDue ∧ (barAdvance s k).choices = s.choices
      ∧ (barAdvance s k).pending = s.pending := by
  generalize h : barAdvance s k = u
  simp only [barAdvance] at h
  split at h <;> subst h <;> simp

/-- As the handlings it is made of. -/
@[simp] theorem barsAdvance_frame (s : State) :
    (barsAdvance s).lrx.state = s.lrx.state ∧ (barsAdvance s).lrx.idle = s.lrx.idle
      ∧ (barsAdvance s).lrx.header = s.lrx.header ∧ (barsAdvance s).lrx.payload = s.lrx.payload
      ∧ (barsAdvance s).lrx.trailer = s.lrx.trailer ∧ (barsAdvance s).lrx.crc = s.lrx.crc
      ∧ (barsAdvance s).lrx.intake = s.lrx.intake ∧ (barsAdvance s).lrx.execute = s.lrx.execute
      ∧ (barsAdvance s).lrx.timer = s.lrx.timer ∧ (barsAdvance s).cmuSlot = s.cmuSlot
      ∧ (barsAdvance s).ltx = s.ltx ∧ (barsAdvance s).line = s.line ∧ (barsAdvance s).pfs = s.pfs
      ∧ (barsAdvance s).mou = s.mou ∧ (barsAdvance s).htc = s.htc ∧ (barsAdvance s).tnc = s.tnc
      ∧ (barsAdvance s).alc.config = s.alc.config ∧ (barsAdvance s).alc.holds = s.alc.holds
      ∧ (barsAdvance s).alc.condCtx = s.alc.condCtx ∧ (barsAdvance s).alc.stack = s.alc.stack
      ∧ (barsAdvance s).alc.threshold = s.alc.threshold ∧ (barsAdvance s).alc.firstAlert = s.alc.firstAlert
      ∧ (barsAdvance s).alc.later = s.alc.later ∧ (barsAdvance s).alc.reaction = s.alc.reaction
      ∧ (barsAdvance s).alc.evalDue = s.alc.evalDue ∧ (barsAdvance s).choices = s.choices
      ∧ (barsAdvance s).pending = s.pending := by
  simp [barsAdvance, allBars]

/-- BAR_FAULT (R142). -/
@[simp] theorem judgeBarFault_frame (before : Vector BarUnit 6) (s : State) :
    (judgeBarFault before s).lrx = s.lrx ∧ (judgeBarFault before s).cmuSlot = s.cmuSlot
      ∧ (judgeBarFault before s).ltx = s.ltx ∧ (judgeBarFault before s).line = s.line
      ∧ (judgeBarFault before s).pfs = s.pfs ∧ (judgeBarFault before s).cpa = s.cpa
      ∧ (judgeBarFault before s).lst = s.lst ∧ (judgeBarFault before s).bars = s.bars
      ∧ (judgeBarFault before s).rls = s.rls ∧ (judgeBarFault before s).mou = s.mou
      ∧ (judgeBarFault before s).htc = s.htc ∧ (judgeBarFault before s).tnc = s.tnc
      ∧ (judgeBarFault before s).alc.config = s.alc.config ∧ (judgeBarFault before s).alc.occ = s.alc.occ
      ∧ (judgeBarFault before s).alc.stack = s.alc.stack
      ∧ (judgeBarFault before s).alc.threshold = s.alc.threshold
      ∧ (judgeBarFault before s).alc.firstAlert = s.alc.firstAlert
      ∧ (judgeBarFault before s).alc.later = s.alc.later ∧ (judgeBarFault before s).alc.reaction = s.alc.reaction
      ∧ (judgeBarFault before s).alc.evalDue = s.alc.evalDue ∧ (judgeBarFault before s).pending = s.pending := by
  generalize h : judgeBarFault before s = t
  simp only [judgeBarFault] at h
  (repeat' split at h) <;> subst h <;> simp

/-- The bars, BAR_FAULT, the print states and the line entries (R143). -/
@[simp] theorem barConfigEffect_frame (en : Vector Bool 6) (s : State) :
    (barConfigEffect en s).lrx = s.lrx ∧ (barConfigEffect en s).cmuSlot = s.cmuSlot
      ∧ (barConfigEffect en s).ltx = s.ltx ∧ (barConfigEffect en s).line = s.line
      ∧ (barConfigEffect en s).pfs = s.pfs ∧ (barConfigEffect en s).cpa = s.cpa
      ∧ (barConfigEffect en s).mou = s.mou ∧ (barConfigEffect en s).htc = s.htc
      ∧ (barConfigEffect en s).tnc = s.tnc ∧ (barConfigEffect en s).alc.config = s.alc.config
      ∧ (barConfigEffect en s).alc.occ = s.alc.occ ∧ (barConfigEffect en s).alc.stack = s.alc.stack
      ∧ (barConfigEffect en s).alc.threshold = s.alc.threshold
      ∧ (barConfigEffect en s).alc.firstAlert = s.alc.firstAlert ∧ (barConfigEffect en s).alc.later = s.alc.later
      ∧ (barConfigEffect en s).alc.reaction = s.alc.reaction ∧ (barConfigEffect en s).alc.evalDue = s.alc.evalDue
      ∧ (barConfigEffect en s).pending = s.pending := by
  simp [barConfigEffect]

/-- The line entries and the bars (R147). -/
@[simp] theorem clearStore_frame (s : State) :
    (clearStore s).lrx = s.lrx ∧ (clearStore s).cmuSlot = s.cmuSlot ∧ (clearStore s).ltx = s.ltx
      ∧ (clearStore s).line = s.line ∧ (clearStore s).pfs = s.pfs ∧ (clearStore s).cpa = s.cpa
      ∧ (clearStore s).rls = s.rls ∧ (clearStore s).mou = s.mou ∧ (clearStore s).htc = s.htc
      ∧ (clearStore s).tnc = s.tnc ∧ (clearStore s).alc = s.alc ∧ (clearStore s).choices = s.choices
      ∧ (clearStore s).pending = s.pending := by
  simp [clearStore]

/-! ### Tension -/

/-- A fabric slot (R69). -/
@[simp] theorem modSegs_frame (slot : Fin 16) (f : Nat → Nat) (s : State) :
    (modSegs slot f s).lrx = s.lrx ∧ (modSegs slot f s).cmuSlot = s.cmuSlot ∧ (modSegs slot f s).ltx = s.ltx
      ∧ (modSegs slot f s).line = s.line ∧ (modSegs slot f s).pfs = s.pfs ∧ (modSegs slot f s).cpa = s.cpa
      ∧ (modSegs slot f s).lst = s.lst ∧ (modSegs slot f s).bars = s.bars ∧ (modSegs slot f s).rls = s.rls
      ∧ (modSegs slot f s).mou = s.mou ∧ (modSegs slot f s).htc = s.htc
      ∧ (modSegs slot f s).tnc.intake = s.tnc.intake ∧ (modSegs slot f s).tnc.source = s.tnc.source
      ∧ (modSegs slot f s).tnc.tension = s.tnc.tension ∧ (modSegs slot f s).tnc.taper = s.tnc.taper
      ∧ (modSegs slot f s).tnc.zones = s.tnc.zones ∧ (modSegs slot f s).tnc.group = s.tnc.group
      ∧ (modSegs slot f s).alc = s.alc ∧ (modSegs slot f s).choices = s.choices
      ∧ (modSegs slot f s).pending = s.pending := by
  simp [modSegs]

/-- The tension fabric and the taper (R73, R74). -/
@[simp] theorem setTension_frame (new : Option (Fin 16)) (t0 : Int) (s : State) :
    (setTension new t0 s).lrx = s.lrx ∧ (setTension new t0 s).cmuSlot = s.cmuSlot
      ∧ (setTension new t0 s).ltx = s.ltx ∧ (setTension new t0 s).line = s.line
      ∧ (setTension new t0 s).pfs = s.pfs ∧ (setTension new t0 s).cpa = s.cpa ∧ (setTension new t0 s).lst = s.lst
      ∧ (setTension new t0 s).bars = s.bars ∧ (setTension new t0 s).rls = s.rls
      ∧ (setTension new t0 s).mou = s.mou ∧ (setTension new t0 s).htc = s.htc
      ∧ (setTension new t0 s).tnc.fabrics = s.tnc.fabrics ∧ (setTension new t0 s).tnc.intake = s.tnc.intake
      ∧ (setTension new t0 s).tnc.source = s.tnc.source ∧ (setTension new t0 s).tnc.zones = s.tnc.zones
      ∧ (setTension new t0 s).tnc.group = s.tnc.group ∧ (setTension new t0 s).alc = s.alc
      ∧ (setTension new t0 s).choices = s.choices ∧ (setTension new t0 s).pending = s.pending := by
  simp only [setTension, State.modTnc_tnc]
  (repeat' split) <;> simp

/-- The taper (R75). -/
@[simp] theorem advanceTaper_frame (s : State) :
    (advanceTaper s).lrx = s.lrx ∧ (advanceTaper s).cmuSlot = s.cmuSlot ∧ (advanceTaper s).ltx = s.ltx
      ∧ (advanceTaper s).line = s.line ∧ (advanceTaper s).pfs = s.pfs ∧ (advanceTaper s).cpa = s.cpa
      ∧ (advanceTaper s).lst = s.lst ∧ (advanceTaper s).bars = s.bars ∧ (advanceTaper s).rls = s.rls
      ∧ (advanceTaper s).mou = s.mou ∧ (advanceTaper s).htc = s.htc ∧ (advanceTaper s).tnc.fabrics = s.tnc.fabrics
      ∧ (advanceTaper s).tnc.intake = s.tnc.intake ∧ (advanceTaper s).tnc.source = s.tnc.source
      ∧ (advanceTaper s).tnc.tension = s.tnc.tension ∧ (advanceTaper s).tnc.zones = s.tnc.zones
      ∧ (advanceTaper s).tnc.group = s.tnc.group ∧ (advanceTaper s).alc = s.alc
      ∧ (advanceTaper s).choices = s.choices ∧ (advanceTaper s).pending = s.pending := by
  simp only [advanceTaper, State.modTnc_tnc]
  (repeat' split) <;> simp

/-- The source, the tension fabric and the taper (R73). -/
@[simp] theorem sourceBecomes_frame (r : Segment) (t0 : Int) (s : State) :
    (sourceBecomes r t0 s).lrx = s.lrx ∧ (sourceBecomes r t0 s).cmuSlot = s.cmuSlot
      ∧ (sourceBecomes r t0 s).ltx = s.ltx ∧ (sourceBecomes r t0 s).line = s.line
      ∧ (sourceBecomes r t0 s).pfs = s.pfs ∧ (sourceBecomes r t0 s).cpa = s.cpa
      ∧ (sourceBecomes r t0 s).lst = s.lst ∧ (sourceBecomes r t0 s).bars = s.bars
      ∧ (sourceBecomes r t0 s).rls = s.rls ∧ (sourceBecomes r t0 s).mou = s.mou
      ∧ (sourceBecomes r t0 s).htc = s.htc ∧ (sourceBecomes r t0 s).tnc.fabrics = s.tnc.fabrics
      ∧ (sourceBecomes r t0 s).tnc.intake = s.tnc.intake ∧ (sourceBecomes r t0 s).tnc.zones = s.tnc.zones
      ∧ (sourceBecomes r t0 s).tnc.group = s.tnc.group ∧ (sourceBecomes r t0 s).alc = s.alc
      ∧ (sourceBecomes r t0 s).choices = s.choices ∧ (sourceBecomes r t0 s).pending = s.pending := by
  simp [sourceBecomes]

/-- The source, the tension fabric and the taper (R73). -/
@[simp] theorem tensionQualify_frame (s : State) :
    (tensionQualify s).lrx = s.lrx ∧ (tensionQualify s).cmuSlot = s.cmuSlot ∧ (tensionQualify s).ltx = s.ltx
      ∧ (tensionQualify s).line = s.line ∧ (tensionQualify s).pfs = s.pfs ∧ (tensionQualify s).cpa = s.cpa
      ∧ (tensionQualify s).lst = s.lst ∧ (tensionQualify s).bars = s.bars ∧ (tensionQualify s).rls = s.rls
      ∧ (tensionQualify s).mou = s.mou ∧ (tensionQualify s).htc = s.htc
      ∧ (tensionQualify s).tnc.fabrics = s.tnc.fabrics ∧ (tensionQualify s).tnc.intake = s.tnc.intake
      ∧ (tensionQualify s).tnc.zones = s.tnc.zones ∧ (tensionQualify s).tnc.group = s.tnc.group
      ∧ (tensionQualify s).alc = s.alc ∧ (tensionQualify s).choices = s.choices
      ∧ (tensionQualify s).pending = s.pending := by
  generalize h : tensionQualify s = t
  simp only [tensionQualify] at h
  (repeat' split at h) <;> subst h <;> simp

/-- The source, the tension fabric and the taper (R73). -/
@[simp] theorem tensionReleased_frame (t : Tag) (s : State) :
    (tensionReleased t s).lrx = s.lrx ∧ (tensionReleased t s).cmuSlot = s.cmuSlot
      ∧ (tensionReleased t s).ltx = s.ltx ∧ (tensionReleased t s).line = s.line
      ∧ (tensionReleased t s).pfs = s.pfs ∧ (tensionReleased t s).cpa = s.cpa ∧ (tensionReleased t s).lst = s.lst
      ∧ (tensionReleased t s).bars = s.bars ∧ (tensionReleased t s).rls = s.rls
      ∧ (tensionReleased t s).mou = s.mou ∧ (tensionReleased t s).htc = s.htc
      ∧ (tensionReleased t s).tnc.fabrics = s.tnc.fabrics ∧ (tensionReleased t s).tnc.intake = s.tnc.intake
      ∧ (tensionReleased t s).tnc.zones = s.tnc.zones ∧ (tensionReleased t s).tnc.group = s.tnc.group
      ∧ (tensionReleased t s).alc = s.alc ∧ (tensionReleased t s).choices = s.choices
      ∧ (tensionReleased t s).pending = s.pending := by
  generalize h : tensionReleased t s = t
  simp only [tensionReleased] at h
  (repeat' split at h) <;> subst h <;> simp

/-- The zone (R77). -/
@[simp] theorem takeReading_frame (z : TensionZone) (reading : Nat) (s : State) :
    (takeReading z reading s).lrx = s.lrx ∧ (takeReading z reading s).cmuSlot = s.cmuSlot
      ∧ (takeReading z reading s).ltx = s.ltx ∧ (takeReading z reading s).line = s.line
      ∧ (takeReading z reading s).pfs = s.pfs ∧ (takeReading z reading s).cpa = s.cpa
      ∧ (takeReading z reading s).lst = s.lst ∧ (takeReading z reading s).bars = s.bars
      ∧ (takeReading z reading s).rls = s.rls ∧ (takeReading z reading s).mou = s.mou
      ∧ (takeReading z reading s).htc = s.htc ∧ (takeReading z reading s).tnc.fabrics = s.tnc.fabrics
      ∧ (takeReading z reading s).tnc.intake = s.tnc.intake ∧ (takeReading z reading s).tnc.source = s.tnc.source
      ∧ (takeReading z reading s).tnc.tension = s.tnc.tension ∧ (takeReading z reading s).tnc.taper = s.tnc.taper
      ∧ (takeReading z reading s).tnc.group = s.tnc.group ∧ (takeReading z reading s).alc = s.alc
      ∧ (takeReading z reading s).choices = s.choices ∧ (takeReading z reading s).pending = s.pending := by
  simp [takeReading]

/-- TENSION_WINDOW and WEB_BREAK (R79, R80). -/
@[simp] theorem judgeTension_frame (z : TensionZone) (before : Tnc) (s : State) :
    (judgeTension z before s).lrx = s.lrx ∧ (judgeTension z before s).cmuSlot = s.cmuSlot
      ∧ (judgeTension z before s).ltx = s.ltx ∧ (judgeTension z before s).line = s.line
      ∧ (judgeTension z before s).pfs = s.pfs ∧ (judgeTension z before s).cpa = s.cpa
      ∧ (judgeTension z before s).lst = s.lst ∧ (judgeTension z before s).bars = s.bars
      ∧ (judgeTension z before s).rls = s.rls ∧ (judgeTension z before s).mou = s.mou
      ∧ (judgeTension z before s).htc = s.htc ∧ (judgeTension z before s).tnc = s.tnc
      ∧ (judgeTension z before s).alc.config = s.alc.config ∧ (judgeTension z before s).alc.occ = s.alc.occ
      ∧ (judgeTension z before s).alc.stack = s.alc.stack
      ∧ (judgeTension z before s).alc.threshold = s.alc.threshold
      ∧ (judgeTension z before s).alc.firstAlert = s.alc.firstAlert
      ∧ (judgeTension z before s).alc.later = s.alc.later
      ∧ (judgeTension z before s).alc.reaction = s.alc.reaction
      ∧ (judgeTension z before s).alc.evalDue = s.alc.evalDue ∧ (judgeTension z before s).choices = s.choices
      ∧ (judgeTension z before s).pending = s.pending := by
  simp [judgeTension]

/-- The zone and its conditions. -/
@[simp] theorem tensionReadingEvent_frame (z : TensionZone) (reading : Nat) (s : State) :
    (tensionReadingEvent z reading s).lrx = s.lrx ∧ (tensionReadingEvent z reading s).cmuSlot = s.cmuSlot
      ∧ (tensionReadingEvent z reading s).ltx = s.ltx ∧ (tensionReadingEvent z reading s).line = s.line
      ∧ (tensionReadingEvent z reading s).pfs = s.pfs ∧ (tensionReadingEvent z reading s).cpa = s.cpa
      ∧ (tensionReadingEvent z reading s).lst = s.lst ∧ (tensionReadingEvent z reading s).bars = s.bars
      ∧ (tensionReadingEvent z reading s).rls = s.rls ∧ (tensionReadingEvent z reading s).mou = s.mou
      ∧ (tensionReadingEvent z reading s).htc = s.htc
      ∧ (tensionReadingEvent z reading s).tnc.fabrics = s.tnc.fabrics
      ∧ (tensionReadingEvent z reading s).tnc.intake = s.tnc.intake
      ∧ (tensionReadingEvent z reading s).tnc.source = s.tnc.source
      ∧ (tensionReadingEvent z reading s).tnc.tension = s.tnc.tension
      ∧ (tensionReadingEvent z reading s).tnc.taper = s.tnc.taper
      ∧ (tensionReadingEvent z reading s).tnc.group = s.tnc.group
      ∧ (tensionReadingEvent z reading s).alc.config = s.alc.config
      ∧ (tensionReadingEvent z reading s).alc.occ = s.alc.occ
      ∧ (tensionReadingEvent z reading s).alc.stack = s.alc.stack
      ∧ (tensionReadingEvent z reading s).alc.threshold = s.alc.threshold
      ∧ (tensionReadingEvent z reading s).alc.firstAlert = s.alc.firstAlert
      ∧ (tensionReadingEvent z reading s).alc.later = s.alc.later
      ∧ (tensionReadingEvent z reading s).alc.reaction = s.alc.reaction
      ∧ (tensionReadingEvent z reading s).alc.evalDue = s.alc.evalDue
      ∧ (tensionReadingEvent z reading s).choices = s.choices
      ∧ (tensionReadingEvent z reading s).pending = s.pending := by
  simp [tensionReadingEvent]

/-- The zone and its conditions (R81). -/
@[simp] theorem missingExpired_frame (z : TensionZone) (s : State) :
    (missingExpired z s).lrx = s.lrx ∧ (missingExpired z s).cmuSlot = s.cmuSlot
      ∧ (missingExpired z s).ltx = s.ltx ∧ (missingExpired z s).line = s.line ∧ (missingExpired z s).pfs = s.pfs
      ∧ (missingExpired z s).cpa = s.cpa ∧ (missingExpired z s).lst = s.lst ∧ (missingExpired z s).bars = s.bars
      ∧ (missingExpired z s).rls = s.rls ∧ (missingExpired z s).mou = s.mou ∧ (missingExpired z s).htc = s.htc
      ∧ (missingExpired z s).tnc.fabrics = s.tnc.fabrics ∧ (missingExpired z s).tnc.intake = s.tnc.intake
      ∧ (missingExpired z s).tnc.source = s.tnc.source ∧ (missingExpired z s).tnc.tension = s.tnc.tension
      ∧ (missingExpired z s).tnc.taper = s.tnc.taper ∧ (missingExpired z s).tnc.group = s.tnc.group
      ∧ (missingExpired z s).alc.config = s.alc.config ∧ (missingExpired z s).alc.occ = s.alc.occ
      ∧ (missingExpired z s).alc.stack = s.alc.stack ∧ (missingExpired z s).alc.threshold = s.alc.threshold
      ∧ (missingExpired z s).alc.firstAlert = s.alc.firstAlert ∧ (missingExpired z s).alc.later = s.alc.later
      ∧ (missingExpired z s).alc.reaction = s.alc.reaction ∧ (missingExpired z s).alc.evalDue = s.alc.evalDue
      ∧ (missingExpired z s).choices = s.choices ∧ (missingExpired z s).pending = s.pending := by
  generalize h : missingExpired z s = t
  simp only [missingExpired] at h
  (repeat' split at h) <;> subst h <;> simp

/-- The segment counts, the source and the taper (R83). -/
@[simp] theorem clearTnc_frame (s : State) :
    (clearTnc s).lrx = s.lrx ∧ (clearTnc s).cmuSlot = s.cmuSlot ∧ (clearTnc s).ltx = s.ltx
      ∧ (clearTnc s).line = s.line ∧ (clearTnc s).pfs = s.pfs ∧ (clearTnc s).cpa = s.cpa
      ∧ (clearTnc s).lst = s.lst ∧ (clearTnc s).bars = s.bars ∧ (clearTnc s).rls = s.rls
      ∧ (clearTnc s).mou = s.mou ∧ (clearTnc s).htc = s.htc ∧ (clearTnc s).tnc.intake = s.tnc.intake
      ∧ (clearTnc s).tnc.zones = s.tnc.zones ∧ (clearTnc s).tnc.group = s.tnc.group ∧ (clearTnc s).alc = s.alc
      ∧ (clearTnc s).choices = s.choices ∧ (clearTnc s).pending = s.pending := by
  simp [clearTnc]

/-! ### The run list -/

/-- The cursors (R134). -/
@[simp] theorem cursorsOpen_frame (t : Tag) (s : State) :
    (cursorsOpen t s).lrx = s.lrx ∧ (cursorsOpen t s).cmuSlot = s.cmuSlot ∧ (cursorsOpen t s).ltx = s.ltx
      ∧ (cursorsOpen t s).line = s.line ∧ (cursorsOpen t s).pfs = s.pfs ∧ (cursorsOpen t s).cpa = s.cpa
      ∧ (cursorsOpen t s).lst = s.lst ∧ (cursorsOpen t s).rls = s.rls ∧ (cursorsOpen t s).mou = s.mou
      ∧ (cursorsOpen t s).htc = s.htc ∧ (cursorsOpen t s).tnc = s.tnc ∧ (cursorsOpen t s).alc = s.alc
      ∧ (cursorsOpen t s).choices = s.choices ∧ (cursorsOpen t s).pending = s.pending := by
  simp [cursorsOpen]

/-- The cursors (R134). -/
@[simp] theorem cursorsLeave_frame (t : Tag) (s : State) :
    (cursorsLeave t s).lrx = s.lrx ∧ (cursorsLeave t s).cmuSlot = s.cmuSlot ∧ (cursorsLeave t s).ltx = s.ltx
      ∧ (cursorsLeave t s).line = s.line ∧ (cursorsLeave t s).pfs = s.pfs ∧ (cursorsLeave t s).cpa = s.cpa
      ∧ (cursorsLeave t s).lst = s.lst ∧ (cursorsLeave t s).rls = s.rls ∧ (cursorsLeave t s).mou = s.mou
      ∧ (cursorsLeave t s).htc = s.htc ∧ (cursorsLeave t s).tnc = s.tnc ∧ (cursorsLeave t s).alc = s.alc
      ∧ (cursorsLeave t s).choices = s.choices ∧ (cursorsLeave t s).pending = s.pending := by
  simp [cursorsLeave]

/-- A bank (R47). -/
@[simp] theorem bindBank_frame (slot : Fin 8) (id : BankId) (s : State) :
    (bindBank slot id s).lrx = s.lrx ∧ (bindBank slot id s).cmuSlot = s.cmuSlot
      ∧ (bindBank slot id s).ltx = s.ltx ∧ (bindBank slot id s).line = s.line
      ∧ (bindBank slot id s).pfs.check = s.pfs.check ∧ (bindBank slot id s).cpa = s.cpa
      ∧ (bindBank slot id s).lst = s.lst ∧ (bindBank slot id s).bars = s.bars ∧ (bindBank slot id s).rls = s.rls
      ∧ (bindBank slot id s).mou = s.mou ∧ (bindBank slot id s).htc = s.htc ∧ (bindBank slot id s).tnc = s.tnc
      ∧ (bindBank slot id s).alc = s.alc ∧ (bindBank slot id s).choices = s.choices
      ∧ (bindBank slot id s).pending = s.pending := by
  simp [bindBank]

/-- A bank (R47). -/
@[simp] theorem releaseBank_frame (slot : Fin 8) (id : BankId) (s : State) :
    (releaseBank slot id s).lrx = s.lrx ∧ (releaseBank slot id s).cmuSlot = s.cmuSlot
      ∧ (releaseBank slot id s).ltx = s.ltx ∧ (releaseBank slot id s).line = s.line
      ∧ (releaseBank slot id s).pfs.check = s.pfs.check ∧ (releaseBank slot id s).cpa = s.cpa
      ∧ (releaseBank slot id s).lst = s.lst ∧ (releaseBank slot id s).bars = s.bars
      ∧ (releaseBank slot id s).rls = s.rls ∧ (releaseBank slot id s).mou = s.mou
      ∧ (releaseBank slot id s).htc = s.htc ∧ (releaseBank slot id s).tnc = s.tnc
      ∧ (releaseBank slot id s).alc = s.alc ∧ (releaseBank slot id s).choices = s.choices
      ∧ (releaseBank slot id s).pending = s.pending := by
  simp [releaseBank]

/-- A new record and what follows from it (R108). -/
@[simp] theorem addSegment_frame (r : Segment) (s : State) :
    (addSegment r s).lrx = s.lrx ∧ (addSegment r s).cmuSlot = s.cmuSlot ∧ (addSegment r s).ltx = s.ltx
      ∧ (addSegment r s).line = s.line ∧ (addSegment r s).pfs.check = s.pfs.check ∧ (addSegment r s).lst = s.lst
      ∧ (addSegment r s).mou.p = s.mou.p ∧ (addSegment r s).mou.pLast = s.mou.pLast
      ∧ (addSegment r s).mou.mode = s.mou.mode ∧ (addSegment r s).mou.nipClosed = s.mou.nipClosed
      ∧ (addSegment r s).mou.requested = s.mou.requested ∧ (addSegment r s).mou.cause = s.mou.cause
      ∧ (addSegment r s).mou.speed = s.mou.speed ∧ (addSegment r s).mou.encA = s.mou.encA
      ∧ (addSegment r s).mou.encB = s.mou.encB ∧ (addSegment r s).mou.driveFault = s.mou.driveFault
      ∧ (addSegment r s).htc.group = s.htc.group ∧ (addSegment r s).htc.zones = s.htc.zones
      ∧ (addSegment r s).htc.grade = s.htc.grade ∧ (addSegment r s).htc.pHigh = s.htc.pHigh
      ∧ (addSegment r s).tnc.intake = s.tnc.intake ∧ (addSegment r s).tnc.zones = s.tnc.zones
      ∧ (addSegment r s).tnc.group = s.tnc.group ∧ (addSegment r s).alc = s.alc
      ∧ (addSegment r s).choices = s.choices ∧ (addSegment r s).pending = s.pending := by
  simp only [addSegment]
  split <;> simp

/-- As a new record (R108). -/
@[simp] theorem openEffect_frame (slot : Fin 8) (tag : Tag) (lines gap : Nat) (s : State) :
    (openEffect slot tag lines gap s).lrx = s.lrx ∧ (openEffect slot tag lines gap s).cmuSlot = s.cmuSlot
      ∧ (openEffect slot tag lines gap s).ltx = s.ltx ∧ (openEffect slot tag lines gap s).line = s.line
      ∧ (openEffect slot tag lines gap s).pfs.check = s.pfs.check ∧ (openEffect slot tag lines gap s).lst = s.lst
      ∧ (openEffect slot tag lines gap s).mou.p = s.mou.p
      ∧ (openEffect slot tag lines gap s).mou.pLast = s.mou.pLast
      ∧ (openEffect slot tag lines gap s).mou.mode = s.mou.mode
      ∧ (openEffect slot tag lines gap s).mou.nipClosed = s.mou.nipClosed
      ∧ (openEffect slot tag lines gap s).mou.requested = s.mou.requested
      ∧ (openEffect slot tag lines gap s).mou.cause = s.mou.cause
      ∧ (openEffect slot tag lines gap s).mou.speed = s.mou.speed
      ∧ (openEffect slot tag lines gap s).mou.encA = s.mou.encA
      ∧ (openEffect slot tag lines gap s).mou.encB = s.mou.encB
      ∧ (openEffect slot tag lines gap s).mou.driveFault = s.mou.driveFault
      ∧ (openEffect slot tag lines gap s).htc.group = s.htc.group
      ∧ (openEffect slot tag lines gap s).htc.zones = s.htc.zones
      ∧ (openEffect slot tag lines gap s).htc.grade = s.htc.grade
      ∧ (openEffect slot tag lines gap s).htc.pHigh = s.htc.pHigh
      ∧ (openEffect slot tag lines gap s).tnc.intake = s.tnc.intake
      ∧ (openEffect slot tag lines gap s).tnc.zones = s.tnc.zones
      ∧ (openEffect slot tag lines gap s).tnc.group = s.tnc.group ∧ (openEffect slot tag lines gap s).alc = s.alc
      ∧ (openEffect slot tag lines gap s).choices = s.choices
      ∧ (openEffect slot tag lines gap s).pending = s.pending := by
  generalize h : openEffect slot tag lines gap s = t
  simp only [openEffect] at h
  (repeat' split at h) <;> subst h <;> simp

/-- A bank and a fabric slot (R118). -/
@[simp] theorem releaseRefs_frame (r : Segment) (s : State) :
    (releaseRefs r s).lrx = s.lrx ∧ (releaseRefs r s).cmuSlot = s.cmuSlot ∧ (releaseRefs r s).ltx = s.ltx
      ∧ (releaseRefs r s).line = s.line ∧ (releaseRefs r s).pfs.check = s.pfs.check
      ∧ (releaseRefs r s).cpa = s.cpa ∧ (releaseRefs r s).lst = s.lst ∧ (releaseRefs r s).bars = s.bars
      ∧ (releaseRefs r s).rls = s.rls ∧ (releaseRefs r s).mou = s.mou ∧ (releaseRefs r s).htc = s.htc
      ∧ (releaseRefs r s).tnc.intake = s.tnc.intake ∧ (releaseRefs r s).tnc.source = s.tnc.source
      ∧ (releaseRefs r s).tnc.tension = s.tnc.tension ∧ (releaseRefs r s).tnc.taper = s.tnc.taper
      ∧ (releaseRefs r s).tnc.zones = s.tnc.zones ∧ (releaseRefs r s).tnc.group = s.tnc.group
      ∧ (releaseRefs r s).alc = s.alc ∧ (releaseRefs r s).choices = s.choices
      ∧ (releaseRefs r s).pending = s.pending := by
  simp [releaseRefs]

/-- The list and the cursors (R106). -/
@[simp] theorem removeSegment_frame (t : Tag) (s : State) :
    (removeSegment t s).lrx = s.lrx ∧ (removeSegment t s).cmuSlot = s.cmuSlot ∧ (removeSegment t s).ltx = s.ltx
      ∧ (removeSegment t s).line = s.line ∧ (removeSegment t s).pfs = s.pfs ∧ (removeSegment t s).cpa = s.cpa
      ∧ (removeSegment t s).lst = s.lst ∧ (removeSegment t s).mou = s.mou ∧ (removeSegment t s).htc = s.htc
      ∧ (removeSegment t s).tnc = s.tnc ∧ (removeSegment t s).alc = s.alc
      ∧ (removeSegment t s).choices = s.choices ∧ (removeSegment t s).pending = s.pending := by
  simp [removeSegment]

/-- The list and the cursors (R125). -/
@[simp] theorem traceDone_frame (t : Tag) (s : State) :
    (traceDone t s).lrx = s.lrx ∧ (traceDone t s).cmuSlot = s.cmuSlot ∧ (traceDone t s).ltx = s.ltx
      ∧ (traceDone t s).line = s.line ∧ (traceDone t s).pfs = s.pfs ∧ (traceDone t s).cpa = s.cpa
      ∧ (traceDone t s).lst = s.lst ∧ (traceDone t s).mou = s.mou ∧ (traceDone t s).htc = s.htc
      ∧ (traceDone t s).tnc = s.tnc ∧ (traceDone t s).alc = s.alc ∧ (traceDone t s).choices = s.choices
      ∧ (traceDone t s).pending = s.pending := by
  generalize h : traceDone t s = t
  simp only [traceDone] at h
  (repeat' split at h) <;> subst h <;> simp

/-- The removal of a record (R121). -/
@[simp] theorem abortWaiting_frame (r : Segment) (s : State) :
    (abortWaiting r s).lrx.state = s.lrx.state ∧ (abortWaiting r s).lrx.idle = s.lrx.idle
      ∧ (abortWaiting r s).lrx.header = s.lrx.header ∧ (abortWaiting r s).lrx.payload = s.lrx.payload
      ∧ (abortWaiting r s).lrx.trailer = s.lrx.trailer ∧ (abortWaiting r s).lrx.crc = s.lrx.crc
      ∧ (abortWaiting r s).lrx.intake = s.lrx.intake ∧ (abortWaiting r s).lrx.execute = s.lrx.execute
      ∧ (abortWaiting r s).lrx.timer = s.lrx.timer ∧ (abortWaiting r s).cmuSlot = s.cmuSlot
      ∧ (abortWaiting r s).ltx = s.ltx ∧ (abortWaiting r s).line = s.line
      ∧ (abortWaiting r s).pfs.check = s.pfs.check ∧ (abortWaiting r s).mou.p = s.mou.p
      ∧ (abortWaiting r s).mou.pLast = s.mou.pLast ∧ (abortWaiting r s).mou.mode = s.mou.mode
      ∧ (abortWaiting r s).mou.nipClosed = s.mou.nipClosed ∧ (abortWaiting r s).mou.requested = s.mou.requested
      ∧ (abortWaiting r s).mou.cause = s.mou.cause ∧ (abortWaiting r s).mou.speed = s.mou.speed
      ∧ (abortWaiting r s).mou.encA = s.mou.encA ∧ (abortWaiting r s).mou.encB = s.mou.encB
      ∧ (abortWaiting r s).mou.driveFault = s.mou.driveFault ∧ (abortWaiting r s).htc.group = s.htc.group
      ∧ (abortWaiting r s).htc.zones = s.htc.zones ∧ (abortWaiting r s).htc.grade = s.htc.grade
      ∧ (abortWaiting r s).htc.pHigh = s.htc.pHigh ∧ (abortWaiting r s).tnc.intake = s.tnc.intake
      ∧ (abortWaiting r s).tnc.zones = s.tnc.zones ∧ (abortWaiting r s).tnc.group = s.tnc.group
      ∧ (abortWaiting r s).alc.config = s.alc.config ∧ (abortWaiting r s).alc.holds = s.alc.holds
      ∧ (abortWaiting r s).alc.condCtx = s.alc.condCtx ∧ (abortWaiting r s).alc.stack = s.alc.stack
      ∧ (abortWaiting r s).alc.threshold = s.alc.threshold ∧ (abortWaiting r s).alc.firstAlert = s.alc.firstAlert
      ∧ (abortWaiting r s).alc.later = s.alc.later ∧ (abortWaiting r s).alc.reaction = s.alc.reaction
      ∧ (abortWaiting r s).alc.evalDue = s.alc.evalDue ∧ (abortWaiting r s).choices = s.choices
      ∧ (abortWaiting r s).pending = s.pending := by
  generalize h : abortWaiting r s = t
  simp only [abortWaiting] at h
  split at h <;> subst h <;> simp

/-- The record (R119). -/
@[simp] theorem abortFlags_frame (t : Tag) (s : State) :
    (abortFlags t s).lrx = s.lrx ∧ (abortFlags t s).cmuSlot = s.cmuSlot ∧ (abortFlags t s).ltx = s.ltx
      ∧ (abortFlags t s).line = s.line ∧ (abortFlags t s).pfs = s.pfs ∧ (abortFlags t s).cpa = s.cpa
      ∧ (abortFlags t s).lst = s.lst ∧ (abortFlags t s).bars = s.bars ∧ (abortFlags t s).mou = s.mou
      ∧ (abortFlags t s).htc = s.htc ∧ (abortFlags t s).tnc = s.tnc ∧ (abortFlags t s).alc = s.alc
      ∧ (abortFlags t s).choices = s.choices ∧ (abortFlags t s).pending = s.pending := by
  simp [abortFlags]

/-- The record, its FILLING entry, the cursor and the LINE frame (R122). -/
@[simp] theorem abortPrinting_frame (r : Segment) (s : State) :
    (abortPrinting r s).lrx.state = s.lrx.state ∧ (abortPrinting r s).lrx.idle = s.lrx.idle
      ∧ (abortPrinting r s).lrx.header = s.lrx.header ∧ (abortPrinting r s).lrx.payload = s.lrx.payload
      ∧ (abortPrinting r s).lrx.trailer = s.lrx.trailer ∧ (abortPrinting r s).lrx.crc = s.lrx.crc
      ∧ (abortPrinting r s).lrx.intake = s.lrx.intake ∧ (abortPrinting r s).lrx.execute = s.lrx.execute
      ∧ (abortPrinting r s).lrx.timer = s.lrx.timer ∧ (abortPrinting r s).cmuSlot = s.cmuSlot
      ∧ (abortPrinting r s).ltx = s.ltx ∧ (abortPrinting r s).line = s.line ∧ (abortPrinting r s).pfs = s.pfs
      ∧ (abortPrinting r s).bars = s.bars ∧ (abortPrinting r s).mou = s.mou ∧ (abortPrinting r s).htc = s.htc
      ∧ (abortPrinting r s).tnc = s.tnc ∧ (abortPrinting r s).alc.config = s.alc.config
      ∧ (abortPrinting r s).alc.holds = s.alc.holds ∧ (abortPrinting r s).alc.condCtx = s.alc.condCtx
      ∧ (abortPrinting r s).alc.stack = s.alc.stack ∧ (abortPrinting r s).alc.threshold = s.alc.threshold
      ∧ (abortPrinting r s).alc.firstAlert = s.alc.firstAlert ∧ (abortPrinting r s).alc.later = s.alc.later
      ∧ (abortPrinting r s).alc.reaction = s.alc.reaction ∧ (abortPrinting r s).alc.evalDue = s.alc.evalDue
      ∧ (abortPrinting r s).choices = s.choices ∧ (abortPrinting r s).pending = s.pending := by
  generalize h : abortPrinting r s = t
  simp only [abortPrinting] at h
  (repeat' split at h) <;> subst h <;> simp

/-- As the abort of the print state (R120). -/
@[simp] theorem abortEffect_frame (t : Tag) (s : State) :
    (abortEffect t s).lrx.state = s.lrx.state ∧ (abortEffect t s).lrx.idle = s.lrx.idle
      ∧ (abortEffect t s).lrx.header = s.lrx.header ∧ (abortEffect t s).lrx.payload = s.lrx.payload
      ∧ (abortEffect t s).lrx.trailer = s.lrx.trailer ∧ (abortEffect t s).lrx.crc = s.lrx.crc
      ∧ (abortEffect t s).lrx.intake = s.lrx.intake ∧ (abortEffect t s).lrx.execute = s.lrx.execute
      ∧ (abortEffect t s).lrx.timer = s.lrx.timer ∧ (abortEffect t s).cmuSlot = s.cmuSlot
      ∧ (abortEffect t s).ltx = s.ltx ∧ (abortEffect t s).line = s.line
      ∧ (abortEffect t s).pfs.check = s.pfs.check ∧ (abortEffect t s).mou.p = s.mou.p
      ∧ (abortEffect t s).mou.pLast = s.mou.pLast ∧ (abortEffect t s).mou.mode = s.mou.mode
      ∧ (abortEffect t s).mou.nipClosed = s.mou.nipClosed ∧ (abortEffect t s).mou.requested = s.mou.requested
      ∧ (abortEffect t s).mou.cause = s.mou.cause ∧ (abortEffect t s).mou.speed = s.mou.speed
      ∧ (abortEffect t s).mou.encA = s.mou.encA ∧ (abortEffect t s).mou.encB = s.mou.encB
      ∧ (abortEffect t s).mou.driveFault = s.mou.driveFault ∧ (abortEffect t s).htc.group = s.htc.group
      ∧ (abortEffect t s).htc.zones = s.htc.zones ∧ (abortEffect t s).htc.grade = s.htc.grade
      ∧ (abortEffect t s).htc.pHigh = s.htc.pHigh ∧ (abortEffect t s).tnc.intake = s.tnc.intake
      ∧ (abortEffect t s).tnc.zones = s.tnc.zones ∧ (abortEffect t s).tnc.group = s.tnc.group
      ∧ (abortEffect t s).alc.config = s.alc.config ∧ (abortEffect t s).alc.holds = s.alc.holds
      ∧ (abortEffect t s).alc.condCtx = s.alc.condCtx ∧ (abortEffect t s).alc.stack = s.alc.stack
      ∧ (abortEffect t s).alc.threshold = s.alc.threshold ∧ (abortEffect t s).alc.firstAlert = s.alc.firstAlert
      ∧ (abortEffect t s).alc.later = s.alc.later ∧ (abortEffect t s).alc.reaction = s.alc.reaction
      ∧ (abortEffect t s).alc.evalDue = s.alc.evalDue ∧ (abortEffect t s).choices = s.choices
      ∧ (abortEffect t s).pending = s.pending := by
  generalize h : abortEffect t s = t
  simp only [abortEffect] at h
  (repeat' split at h) <;> subst h <;> simp

/-- The record (R116). -/
@[simp] theorem enterArc_frame (t : Tag) (s : State) :
    (enterArc t s).lrx = s.lrx ∧ (enterArc t s).cmuSlot = s.cmuSlot ∧ (enterArc t s).ltx = s.ltx
      ∧ (enterArc t s).line = s.line ∧ (enterArc t s).pfs = s.pfs ∧ (enterArc t s).cpa = s.cpa
      ∧ (enterArc t s).lst = s.lst ∧ (enterArc t s).bars = s.bars ∧ (enterArc t s).mou = s.mou
      ∧ (enterArc t s).htc = s.htc ∧ (enterArc t s).tnc = s.tnc ∧ (enterArc t s).alc = s.alc
      ∧ (enterArc t s).choices = s.choices ∧ (enterArc t s).pending = s.pending := by
  simp [enterArc]

/-- The record, its references and the tension source (R117). -/
@[simp] theorem retireAt_frame (t : Tag) (s : State) :
    (retireAt t s).lrx = s.lrx ∧ (retireAt t s).cmuSlot = s.cmuSlot ∧ (retireAt t s).ltx = s.ltx
      ∧ (retireAt t s).line = s.line ∧ (retireAt t s).pfs.check = s.pfs.check ∧ (retireAt t s).cpa = s.cpa
      ∧ (retireAt t s).lst = s.lst ∧ (retireAt t s).bars = s.bars ∧ (retireAt t s).mou = s.mou
      ∧ (retireAt t s).htc = s.htc ∧ (retireAt t s).tnc.intake = s.tnc.intake
      ∧ (retireAt t s).tnc.zones = s.tnc.zones ∧ (retireAt t s).tnc.group = s.tnc.group
      ∧ (retireAt t s).alc = s.alc ∧ (retireAt t s).choices = s.choices ∧ (retireAt t s).pending = s.pending := by
  generalize h : retireAt t s = t
  simp only [retireAt] at h
  (repeat' split at h) <;> subst h <;> simp

/-- As the transitions it is made of (R106). -/
@[simp] theorem calenderAdvance_frame (s : State) :
    (calenderAdvance s).lrx = s.lrx ∧ (calenderAdvance s).cmuSlot = s.cmuSlot ∧ (calenderAdvance s).ltx = s.ltx
      ∧ (calenderAdvance s).line = s.line ∧ (calenderAdvance s).pfs.check = s.pfs.check
      ∧ (calenderAdvance s).cpa = s.cpa ∧ (calenderAdvance s).lst = s.lst ∧ (calenderAdvance s).bars = s.bars
      ∧ (calenderAdvance s).mou = s.mou ∧ (calenderAdvance s).htc = s.htc
      ∧ (calenderAdvance s).tnc.intake = s.tnc.intake ∧ (calenderAdvance s).tnc.zones = s.tnc.zones
      ∧ (calenderAdvance s).tnc.group = s.tnc.group ∧ (calenderAdvance s).alc = s.alc
      ∧ (calenderAdvance s).choices = s.choices ∧ (calenderAdvance s).pending = s.pending := by
  unfold calenderAdvance
  generalize s.rls.map Segment.tag = l
  induction l generalizing s with
  | nil => simp
  | cons t l ih => simp [ih]

/-- P_high (R152). -/
@[simp] theorem raiseHigh_frame (s : State) :
    (raiseHigh s).lrx = s.lrx ∧ (raiseHigh s).cmuSlot = s.cmuSlot ∧ (raiseHigh s).ltx = s.ltx
      ∧ (raiseHigh s).line = s.line ∧ (raiseHigh s).pfs = s.pfs ∧ (raiseHigh s).cpa = s.cpa
      ∧ (raiseHigh s).lst = s.lst ∧ (raiseHigh s).bars = s.bars ∧ (raiseHigh s).rls = s.rls
      ∧ (raiseHigh s).mou = s.mou ∧ (raiseHigh s).htc.group = s.htc.group ∧ (raiseHigh s).htc.zones = s.htc.zones
      ∧ (raiseHigh s).htc.grade = s.htc.grade ∧ (raiseHigh s).htc.target = s.htc.target
      ∧ (raiseHigh s).htc.band = s.htc.band ∧ (raiseHigh s).htc.source = s.htc.source ∧ (raiseHigh s).tnc = s.tnc
      ∧ (raiseHigh s).alc = s.alc ∧ (raiseHigh s).choices = s.choices ∧ (raiseHigh s).pending = s.pending := by
  simp [raiseHigh]

/-- The position-keyed blocks (R86). -/
@[simp] theorem increaseOfP_frame (s : State) :
    (increaseOfP s).lrx.state = s.lrx.state ∧ (increaseOfP s).lrx.idle = s.lrx.idle
      ∧ (increaseOfP s).lrx.header = s.lrx.header ∧ (increaseOfP s).lrx.payload = s.lrx.payload
      ∧ (increaseOfP s).lrx.trailer = s.lrx.trailer ∧ (increaseOfP s).lrx.crc = s.lrx.crc
      ∧ (increaseOfP s).lrx.intake = s.lrx.intake ∧ (increaseOfP s).lrx.execute = s.lrx.execute
      ∧ (increaseOfP s).lrx.timer = s.lrx.timer ∧ (increaseOfP s).cmuSlot = s.cmuSlot
      ∧ (increaseOfP s).ltx = s.ltx ∧ (increaseOfP s).line = s.line ∧ (increaseOfP s).pfs.check = s.pfs.check
      ∧ (increaseOfP s).mou.pLast = s.mou.pLast ∧ (increaseOfP s).mou.mode = s.mou.mode
      ∧ (increaseOfP s).mou.nipClosed = s.mou.nipClosed ∧ (increaseOfP s).mou.requested = s.mou.requested
      ∧ (increaseOfP s).mou.cause = s.mou.cause ∧ (increaseOfP s).mou.speed = s.mou.speed
      ∧ (increaseOfP s).mou.encA = s.mou.encA ∧ (increaseOfP s).mou.encB = s.mou.encB
      ∧ (increaseOfP s).mou.driveFault = s.mou.driveFault ∧ (increaseOfP s).htc.group = s.htc.group
      ∧ (increaseOfP s).htc.zones = s.htc.zones ∧ (increaseOfP s).htc.grade = s.htc.grade
      ∧ (increaseOfP s).tnc.intake = s.tnc.intake ∧ (increaseOfP s).tnc.zones = s.tnc.zones
      ∧ (increaseOfP s).tnc.group = s.tnc.group ∧ (increaseOfP s).alc.config = s.alc.config
      ∧ (increaseOfP s).alc.holds = s.alc.holds ∧ (increaseOfP s).alc.condCtx = s.alc.condCtx
      ∧ (increaseOfP s).alc.stack = s.alc.stack ∧ (increaseOfP s).alc.threshold = s.alc.threshold
      ∧ (increaseOfP s).alc.firstAlert = s.alc.firstAlert ∧ (increaseOfP s).alc.later = s.alc.later
      ∧ (increaseOfP s).alc.reaction = s.alc.reaction ∧ (increaseOfP s).alc.evalDue = s.alc.evalDue
      ∧ (increaseOfP s).choices = s.choices ∧ (increaseOfP s).pending = s.pending := by
  generalize h : increaseOfP s = t
  simp only [increaseOfP] at h
  (repeat' split at h) <;> subst h <;> simp

/-- P and P_last (R104). -/
@[simp] theorem clearMou_frame (s : State) :
    (clearMou s).lrx = s.lrx ∧ (clearMou s).cmuSlot = s.cmuSlot ∧ (clearMou s).ltx = s.ltx
      ∧ (clearMou s).line = s.line ∧ (clearMou s).pfs = s.pfs ∧ (clearMou s).cpa = s.cpa
      ∧ (clearMou s).lst = s.lst ∧ (clearMou s).bars = s.bars ∧ (clearMou s).rls = s.rls
      ∧ (clearMou s).mou.mode = s.mou.mode ∧ (clearMou s).mou.nipClosed = s.mou.nipClosed
      ∧ (clearMou s).mou.requested = s.mou.requested ∧ (clearMou s).mou.cause = s.mou.cause
      ∧ (clearMou s).mou.target = s.mou.target ∧ (clearMou s).mou.reference = s.mou.reference
      ∧ (clearMou s).mou.speed = s.mou.speed ∧ (clearMou s).mou.encA = s.mou.encA
      ∧ (clearMou s).mou.encB = s.mou.encB ∧ (clearMou s).mou.driveFault = s.mou.driveFault
      ∧ (clearMou s).htc = s.htc ∧ (clearMou s).tnc = s.tnc ∧ (clearMou s).alc = s.alc
      ∧ (clearMou s).choices = s.choices ∧ (clearMou s).pending = s.pending := by
  simp [clearMou]

/-- The occurrences (R189). -/
@[simp] theorem clearAlc_frame (s : State) :
    (clearAlc s).lrx = s.lrx ∧ (clearAlc s).cmuSlot = s.cmuSlot ∧ (clearAlc s).ltx = s.ltx
      ∧ (clearAlc s).line = s.line ∧ (clearAlc s).pfs = s.pfs ∧ (clearAlc s).cpa = s.cpa
      ∧ (clearAlc s).lst = s.lst ∧ (clearAlc s).bars = s.bars ∧ (clearAlc s).rls = s.rls
      ∧ (clearAlc s).mou = s.mou ∧ (clearAlc s).htc = s.htc ∧ (clearAlc s).tnc = s.tnc
      ∧ (clearAlc s).alc.config = s.alc.config ∧ (clearAlc s).alc.holds = s.alc.holds
      ∧ (clearAlc s).alc.condCtx = s.alc.condCtx ∧ (clearAlc s).alc.stack = s.alc.stack
      ∧ (clearAlc s).alc.threshold = s.alc.threshold ∧ (clearAlc s).alc.firstAlert = s.alc.firstAlert
      ∧ (clearAlc s).alc.later = s.alc.later ∧ (clearAlc s).alc.reaction = s.alc.reaction
      ∧ (clearAlc s).choices = s.choices ∧ (clearAlc s).pending = s.pending := by
  simp [clearAlc]

/-- The heat counters, the grade and P_high (R166). -/
@[simp] theorem clearHtc_frame (s : State) :
    (clearHtc s).lrx = s.lrx ∧ (clearHtc s).cmuSlot = s.cmuSlot ∧ (clearHtc s).ltx = s.ltx
      ∧ (clearHtc s).line = s.line ∧ (clearHtc s).pfs = s.pfs ∧ (clearHtc s).cpa = s.cpa
      ∧ (clearHtc s).lst = s.lst ∧ (clearHtc s).bars = s.bars ∧ (clearHtc s).rls = s.rls
      ∧ (clearHtc s).mou = s.mou ∧ (clearHtc s).htc.group = s.htc.group ∧ (clearHtc s).htc.target = s.htc.target
      ∧ (clearHtc s).htc.band = s.htc.band ∧ (clearHtc s).htc.source = s.htc.source ∧ (clearHtc s).tnc = s.tnc
      ∧ (clearHtc s).alc = s.alc ∧ (clearHtc s).choices = s.choices ∧ (clearHtc s).pending = s.pending := by
  simp [clearHtc, clearSat]

/-- The banks (R50). -/
@[simp] theorem clearPfs_frame (s : State) :
    (clearPfs s).lrx = s.lrx ∧ (clearPfs s).cmuSlot = s.cmuSlot ∧ (clearPfs s).ltx = s.ltx
      ∧ (clearPfs s).line = s.line ∧ (clearPfs s).pfs.check = s.pfs.check ∧ (clearPfs s).cpa = s.cpa
      ∧ (clearPfs s).lst = s.lst ∧ (clearPfs s).bars = s.bars ∧ (clearPfs s).rls = s.rls
      ∧ (clearPfs s).mou = s.mou ∧ (clearPfs s).htc = s.htc ∧ (clearPfs s).tnc = s.tnc ∧ (clearPfs s).alc = s.alc
      ∧ (clearPfs s).choices = s.choices ∧ (clearPfs s).pending = s.pending := by
  simp [clearPfs]

/-- Every block that CLEAR_LINE reaches (R127). -/
@[simp] theorem clearEffect_frame (s : State) :
    (clearEffect s).lrx.state = s.lrx.state ∧ (clearEffect s).lrx.idle = s.lrx.idle
      ∧ (clearEffect s).lrx.header = s.lrx.header ∧ (clearEffect s).lrx.payload = s.lrx.payload
      ∧ (clearEffect s).lrx.trailer = s.lrx.trailer ∧ (clearEffect s).lrx.crc = s.lrx.crc
      ∧ (clearEffect s).lrx.intake = s.lrx.intake ∧ (clearEffect s).lrx.execute = s.lrx.execute
      ∧ (clearEffect s).lrx.timer = s.lrx.timer ∧ (clearEffect s).cmuSlot = s.cmuSlot
      ∧ (clearEffect s).ltx = s.ltx ∧ (clearEffect s).line = s.line ∧ (clearEffect s).pfs.check = s.pfs.check
      ∧ (clearEffect s).mou.mode = s.mou.mode ∧ (clearEffect s).mou.nipClosed = s.mou.nipClosed
      ∧ (clearEffect s).mou.requested = s.mou.requested ∧ (clearEffect s).mou.cause = s.mou.cause
      ∧ (clearEffect s).mou.speed = s.mou.speed ∧ (clearEffect s).mou.encA = s.mou.encA
      ∧ (clearEffect s).mou.encB = s.mou.encB ∧ (clearEffect s).mou.driveFault = s.mou.driveFault
      ∧ (clearEffect s).htc.group = s.htc.group ∧ (clearEffect s).tnc.intake = s.tnc.intake
      ∧ (clearEffect s).tnc.zones = s.tnc.zones ∧ (clearEffect s).tnc.group = s.tnc.group
      ∧ (clearEffect s).alc.config = s.alc.config ∧ (clearEffect s).alc.holds = s.alc.holds
      ∧ (clearEffect s).alc.condCtx = s.alc.condCtx ∧ (clearEffect s).alc.stack = s.alc.stack
      ∧ (clearEffect s).alc.threshold = s.alc.threshold ∧ (clearEffect s).alc.firstAlert = s.alc.firstAlert
      ∧ (clearEffect s).alc.later = s.alc.later ∧ (clearEffect s).alc.reaction = s.alc.reaction
      ∧ (clearEffect s).choices = s.choices ∧ (clearEffect s).pending = s.pending := by
  simp [clearEffect]

/-! ### The path events -/

/-- As an increase of P, or P alone (R85). -/
@[simp] theorem countEdge_frame (e : Edge) (s : State) :
    (countEdge e s).lrx.state = s.lrx.state ∧ (countEdge e s).lrx.idle = s.lrx.idle
      ∧ (countEdge e s).lrx.header = s.lrx.header ∧ (countEdge e s).lrx.payload = s.lrx.payload
      ∧ (countEdge e s).lrx.trailer = s.lrx.trailer ∧ (countEdge e s).lrx.crc = s.lrx.crc
      ∧ (countEdge e s).lrx.intake = s.lrx.intake ∧ (countEdge e s).lrx.execute = s.lrx.execute
      ∧ (countEdge e s).lrx.timer = s.lrx.timer ∧ (countEdge e s).cmuSlot = s.cmuSlot
      ∧ (countEdge e s).ltx = s.ltx ∧ (countEdge e s).line = s.line ∧ (countEdge e s).pfs.check = s.pfs.check
      ∧ (countEdge e s).mou.pLast = s.mou.pLast ∧ (countEdge e s).mou.mode = s.mou.mode
      ∧ (countEdge e s).mou.nipClosed = s.mou.nipClosed ∧ (countEdge e s).mou.requested = s.mou.requested
      ∧ (countEdge e s).mou.cause = s.mou.cause ∧ (countEdge e s).mou.speed = s.mou.speed
      ∧ (countEdge e s).mou.encA = s.mou.encA ∧ (countEdge e s).mou.encB = s.mou.encB
      ∧ (countEdge e s).mou.driveFault = s.mou.driveFault ∧ (countEdge e s).htc.group = s.htc.group
      ∧ (countEdge e s).htc.zones = s.htc.zones ∧ (countEdge e s).htc.grade = s.htc.grade
      ∧ (countEdge e s).tnc.intake = s.tnc.intake ∧ (countEdge e s).tnc.zones = s.tnc.zones
      ∧ (countEdge e s).tnc.group = s.tnc.group ∧ (countEdge e s).alc.config = s.alc.config
      ∧ (countEdge e s).alc.holds = s.alc.holds ∧ (countEdge e s).alc.condCtx = s.alc.condCtx
      ∧ (countEdge e s).alc.stack = s.alc.stack ∧ (countEdge e s).alc.threshold = s.alc.threshold
      ∧ (countEdge e s).alc.firstAlert = s.alc.firstAlert ∧ (countEdge e s).alc.later = s.alc.later
      ∧ (countEdge e s).alc.reaction = s.alc.reaction ∧ (countEdge e s).alc.evalDue = s.alc.evalDue
      ∧ (countEdge e s).choices = s.choices ∧ (countEdge e s).pending = s.pending := by
  generalize h : countEdge e s = t
  simp only [countEdge] at h
  (repeat' split at h) <;> subst h <;> simp

/-- As an increase of P, with the levels (R85). -/
@[simp] theorem encoderLevels_frame (a b : Bool) (s : State) :
    (encoderLevels a b s).lrx.state = s.lrx.state ∧ (encoderLevels a b s).lrx.idle = s.lrx.idle
      ∧ (encoderLevels a b s).lrx.header = s.lrx.header ∧ (encoderLevels a b s).lrx.payload = s.lrx.payload
      ∧ (encoderLevels a b s).lrx.trailer = s.lrx.trailer ∧ (encoderLevels a b s).lrx.crc = s.lrx.crc
      ∧ (encoderLevels a b s).lrx.intake = s.lrx.intake ∧ (encoderLevels a b s).lrx.execute = s.lrx.execute
      ∧ (encoderLevels a b s).lrx.timer = s.lrx.timer ∧ (encoderLevels a b s).cmuSlot = s.cmuSlot
      ∧ (encoderLevels a b s).ltx = s.ltx ∧ (encoderLevels a b s).line = s.line
      ∧ (encoderLevels a b s).pfs.check = s.pfs.check ∧ (encoderLevels a b s).mou.pLast = s.mou.pLast
      ∧ (encoderLevels a b s).mou.mode = s.mou.mode ∧ (encoderLevels a b s).mou.nipClosed = s.mou.nipClosed
      ∧ (encoderLevels a b s).mou.requested = s.mou.requested ∧ (encoderLevels a b s).mou.cause = s.mou.cause
      ∧ (encoderLevels a b s).mou.speed = s.mou.speed ∧ (encoderLevels a b s).mou.driveFault = s.mou.driveFault
      ∧ (encoderLevels a b s).htc.group = s.htc.group ∧ (encoderLevels a b s).htc.zones = s.htc.zones
      ∧ (encoderLevels a b s).htc.grade = s.htc.grade ∧ (encoderLevels a b s).tnc.intake = s.tnc.intake
      ∧ (encoderLevels a b s).tnc.zones = s.tnc.zones ∧ (encoderLevels a b s).tnc.group = s.tnc.group
      ∧ (encoderLevels a b s).alc.config = s.alc.config ∧ (encoderLevels a b s).alc.holds = s.alc.holds
      ∧ (encoderLevels a b s).alc.condCtx = s.alc.condCtx ∧ (encoderLevels a b s).alc.stack = s.alc.stack
      ∧ (encoderLevels a b s).alc.threshold = s.alc.threshold
      ∧ (encoderLevels a b s).alc.firstAlert = s.alc.firstAlert ∧ (encoderLevels a b s).alc.later = s.alc.later
      ∧ (encoderLevels a b s).alc.reaction = s.alc.reaction ∧ (encoderLevels a b s).alc.evalDue = s.alc.evalDue
      ∧ (encoderLevels a b s).choices = s.choices ∧ (encoderLevels a b s).pending = s.pending := by
  simp [encoderLevels]

/-- The input and its condition (R102). -/
@[simp] theorem driveFaultLevel_frame (x : Bool) (s : State) :
    (driveFaultLevel x s).lrx = s.lrx ∧ (driveFaultLevel x s).cmuSlot = s.cmuSlot
      ∧ (driveFaultLevel x s).ltx = s.ltx ∧ (driveFaultLevel x s).line = s.line
      ∧ (driveFaultLevel x s).pfs = s.pfs ∧ (driveFaultLevel x s).cpa = s.cpa ∧ (driveFaultLevel x s).lst = s.lst
      ∧ (driveFaultLevel x s).bars = s.bars ∧ (driveFaultLevel x s).rls = s.rls
      ∧ (driveFaultLevel x s).mou.p = s.mou.p ∧ (driveFaultLevel x s).mou.pLast = s.mou.pLast
      ∧ (driveFaultLevel x s).mou.mode = s.mou.mode ∧ (driveFaultLevel x s).mou.nipClosed = s.mou.nipClosed
      ∧ (driveFaultLevel x s).mou.requested = s.mou.requested ∧ (driveFaultLevel x s).mou.cause = s.mou.cause
      ∧ (driveFaultLevel x s).mou.target = s.mou.target ∧ (driveFaultLevel x s).mou.reference = s.mou.reference
      ∧ (driveFaultLevel x s).mou.speed = s.mou.speed ∧ (driveFaultLevel x s).mou.encA = s.mou.encA
      ∧ (driveFaultLevel x s).mou.encB = s.mou.encB ∧ (driveFaultLevel x s).htc = s.htc
      ∧ (driveFaultLevel x s).tnc = s.tnc ∧ (driveFaultLevel x s).alc.config = s.alc.config
      ∧ (driveFaultLevel x s).alc.occ = s.alc.occ ∧ (driveFaultLevel x s).alc.stack = s.alc.stack
      ∧ (driveFaultLevel x s).alc.threshold = s.alc.threshold
      ∧ (driveFaultLevel x s).alc.firstAlert = s.alc.firstAlert ∧ (driveFaultLevel x s).alc.later = s.alc.later
      ∧ (driveFaultLevel x s).alc.reaction = s.alc.reaction ∧ (driveFaultLevel x s).alc.evalDue = s.alc.evalDue
      ∧ (driveFaultLevel x s).choices = s.choices ∧ (driveFaultLevel x s).pending = s.pending := by
  generalize h : driveFaultLevel x s = t
  simp only [driveFaultLevel] at h
  (repeat' split at h) <;> subst h <;> simp

/-- The bar and BAR_FAULT (R140). -/
@[simp] theorem barFaultLevel_frame (k : Bar) (x : Bool) (s : State) :
    (barFaultLevel k x s).lrx = s.lrx ∧ (barFaultLevel k x s).cmuSlot = s.cmuSlot
      ∧ (barFaultLevel k x s).ltx = s.ltx ∧ (barFaultLevel k x s).line = s.line
      ∧ (barFaultLevel k x s).pfs = s.pfs ∧ (barFaultLevel k x s).cpa = s.cpa ∧ (barFaultLevel k x s).lst = s.lst
      ∧ (barFaultLevel k x s).rls = s.rls ∧ (barFaultLevel k x s).mou = s.mou ∧ (barFaultLevel k x s).htc = s.htc
      ∧ (barFaultLevel k x s).tnc = s.tnc ∧ (barFaultLevel k x s).alc.config = s.alc.config
      ∧ (barFaultLevel k x s).alc.occ = s.alc.occ ∧ (barFaultLevel k x s).alc.stack = s.alc.stack
      ∧ (barFaultLevel k x s).alc.threshold = s.alc.threshold
      ∧ (barFaultLevel k x s).alc.firstAlert = s.alc.firstAlert ∧ (barFaultLevel k x s).alc.later = s.alc.later
      ∧ (barFaultLevel k x s).alc.reaction = s.alc.reaction ∧ (barFaultLevel k x s).alc.evalDue = s.alc.evalDue
      ∧ (barFaultLevel k x s).pending = s.pending := by
  simp [barFaultLevel]

/-- The zone steps touch the zones alone (R149). -/
@[simp] theorem heatZoneSteps_frame (entries : Vector (Option Int) 4) (h : Htc) :
    (heatZoneSteps entries h).group = h.group ∧ (heatZoneSteps entries h).grade = h.grade
      ∧ (heatZoneSteps entries h).pHigh = h.pHigh ∧ (heatZoneSteps entries h).target = h.target
      ∧ (heatZoneSteps entries h).band = h.band ∧ (heatZoneSteps entries h).source = h.source := by
  simp [heatZoneSteps, allHeatZones, heatZoneStep]

/-- One condition (R155, R158). -/
@[simp] theorem judgeHeatFlag_frame (src : AlertSource) (flag : HeatZone → Bool) (before : Htc) (s : State) :
    (judgeHeatFlag src flag before s).lrx = s.lrx ∧ (judgeHeatFlag src flag before s).cmuSlot = s.cmuSlot
      ∧ (judgeHeatFlag src flag before s).ltx = s.ltx ∧ (judgeHeatFlag src flag before s).line = s.line
      ∧ (judgeHeatFlag src flag before s).pfs = s.pfs ∧ (judgeHeatFlag src flag before s).cpa = s.cpa
      ∧ (judgeHeatFlag src flag before s).lst = s.lst ∧ (judgeHeatFlag src flag before s).bars = s.bars
      ∧ (judgeHeatFlag src flag before s).rls = s.rls ∧ (judgeHeatFlag src flag before s).mou = s.mou
      ∧ (judgeHeatFlag src flag before s).htc = s.htc ∧ (judgeHeatFlag src flag before s).tnc = s.tnc
      ∧ (judgeHeatFlag src flag before s).alc.config = s.alc.config
      ∧ (judgeHeatFlag src flag before s).alc.occ = s.alc.occ
      ∧ (judgeHeatFlag src flag before s).alc.stack = s.alc.stack
      ∧ (judgeHeatFlag src flag before s).alc.threshold = s.alc.threshold
      ∧ (judgeHeatFlag src flag before s).alc.firstAlert = s.alc.firstAlert
      ∧ (judgeHeatFlag src flag before s).alc.later = s.alc.later
      ∧ (judgeHeatFlag src flag before s).alc.reaction = s.alc.reaction
      ∧ (judgeHeatFlag src flag before s).alc.evalDue = s.alc.evalDue
      ∧ (judgeHeatFlag src flag before s).pending = s.pending := by
  generalize h : judgeHeatFlag src flag before s = t
  simp only [judgeHeatFlag] at h
  (repeat' split at h) <;> subst h <;> simp

/-- The records (R159). -/
@[simp] theorem flagOffBand_frame (s : State) :
    (flagOffBand s).lrx = s.lrx ∧ (flagOffBand s).cmuSlot = s.cmuSlot ∧ (flagOffBand s).ltx = s.ltx
      ∧ (flagOffBand s).line = s.line ∧ (flagOffBand s).pfs = s.pfs ∧ (flagOffBand s).cpa = s.cpa
      ∧ (flagOffBand s).lst = s.lst ∧ (flagOffBand s).bars = s.bars ∧ (flagOffBand s).mou = s.mou
      ∧ (flagOffBand s).htc = s.htc ∧ (flagOffBand s).tnc = s.tnc ∧ (flagOffBand s).alc = s.alc
      ∧ (flagOffBand s).choices = s.choices ∧ (flagOffBand s).pending = s.pending := by
  simp [flagOffBand]

/-- HEAT_OFF_BAND (R160). -/
@[simp] theorem judgeOffBand_frame (l : List Segment) (s : State) :
    (judgeOffBand l s).lrx = s.lrx ∧ (judgeOffBand l s).cmuSlot = s.cmuSlot ∧ (judgeOffBand l s).ltx = s.ltx
      ∧ (judgeOffBand l s).line = s.line ∧ (judgeOffBand l s).pfs = s.pfs ∧ (judgeOffBand l s).cpa = s.cpa
      ∧ (judgeOffBand l s).lst = s.lst ∧ (judgeOffBand l s).bars = s.bars ∧ (judgeOffBand l s).rls = s.rls
      ∧ (judgeOffBand l s).mou = s.mou ∧ (judgeOffBand l s).htc = s.htc ∧ (judgeOffBand l s).tnc = s.tnc
      ∧ (judgeOffBand l s).alc.config = s.alc.config ∧ (judgeOffBand l s).alc.occ = s.alc.occ
      ∧ (judgeOffBand l s).alc.stack = s.alc.stack ∧ (judgeOffBand l s).alc.threshold = s.alc.threshold
      ∧ (judgeOffBand l s).alc.firstAlert = s.alc.firstAlert ∧ (judgeOffBand l s).alc.later = s.alc.later
      ∧ (judgeOffBand l s).alc.reaction = s.alc.reaction ∧ (judgeOffBand l s).alc.evalDue = s.alc.evalDue
      ∧ (judgeOffBand l s).choices = s.choices ∧ (judgeOffBand l s).pending = s.pending := by
  generalize h : judgeOffBand l s = t
  simp only [judgeOffBand] at h
  (repeat' split at h) <;> subst h <;> simp

/-- A change of mode or nothing (R161). -/
@[simp] theorem warmupTest_frame (s : State) :
    (warmupTest s).lrx.state = s.lrx.state ∧ (warmupTest s).lrx.idle = s.lrx.idle
      ∧ (warmupTest s).lrx.header = s.lrx.header ∧ (warmupTest s).lrx.payload = s.lrx.payload
      ∧ (warmupTest s).lrx.trailer = s.lrx.trailer ∧ (warmupTest s).lrx.crc = s.lrx.crc
      ∧ (warmupTest s).lrx.line = s.lrx.line ∧ (warmupTest s).lrx.intake = s.lrx.intake
      ∧ (warmupTest s).lrx.execute = s.lrx.execute ∧ (warmupTest s).cmuSlot = s.cmuSlot
      ∧ (warmupTest s).ltx = s.ltx ∧ (warmupTest s).line = s.line ∧ (warmupTest s).pfs = s.pfs
      ∧ (warmupTest s).cpa = s.cpa ∧ (warmupTest s).lst = s.lst ∧ (warmupTest s).bars = s.bars
      ∧ (warmupTest s).rls = s.rls ∧ (warmupTest s).mou.p = s.mou.p ∧ (warmupTest s).mou.pLast = s.mou.pLast
      ∧ (warmupTest s).mou.requested = s.mou.requested ∧ (warmupTest s).mou.cause = s.mou.cause
      ∧ (warmupTest s).mou.speed = s.mou.speed ∧ (warmupTest s).mou.encA = s.mou.encA
      ∧ (warmupTest s).mou.encB = s.mou.encB ∧ (warmupTest s).mou.driveFault = s.mou.driveFault
      ∧ (warmupTest s).htc.group = s.htc.group ∧ (warmupTest s).htc.zones = s.htc.zones
      ∧ (warmupTest s).htc.grade = s.htc.grade ∧ (warmupTest s).htc.pHigh = s.htc.pHigh
      ∧ (warmupTest s).tnc = s.tnc ∧ (warmupTest s).alc = s.alc ∧ (warmupTest s).choices = s.choices
      ∧ (warmupTest s).pending = s.pending := by
  generalize h : warmupTest s = t
  simp only [warmupTest] at h
  (repeat' split at h) <;> subst h <;> simp

/-- The counters, the grade and GRADE_CHANGE (R162, R163). -/
@[simp] theorem gradeTest_frame (s : State) :
    (gradeTest s).lrx = s.lrx ∧ (gradeTest s).cmuSlot = s.cmuSlot ∧ (gradeTest s).ltx = s.ltx
      ∧ (gradeTest s).line = s.line ∧ (gradeTest s).pfs = s.pfs ∧ (gradeTest s).cpa = s.cpa
      ∧ (gradeTest s).lst = s.lst ∧ (gradeTest s).bars = s.bars ∧ (gradeTest s).rls = s.rls
      ∧ (gradeTest s).mou = s.mou ∧ (gradeTest s).htc.group = s.htc.group ∧ (gradeTest s).htc.pHigh = s.htc.pHigh
      ∧ (gradeTest s).htc.target = s.htc.target ∧ (gradeTest s).htc.band = s.htc.band
      ∧ (gradeTest s).htc.source = s.htc.source ∧ (gradeTest s).tnc = s.tnc
      ∧ (gradeTest s).alc.config = s.alc.config ∧ (gradeTest s).alc.holds = s.alc.holds
      ∧ (gradeTest s).alc.condCtx = s.alc.condCtx ∧ (gradeTest s).alc.stack = s.alc.stack
      ∧ (gradeTest s).alc.threshold = s.alc.threshold ∧ (gradeTest s).alc.firstAlert = s.alc.firstAlert
      ∧ (gradeTest s).alc.later = s.alc.later ∧ (gradeTest s).alc.reaction = s.alc.reaction
      ∧ (gradeTest s).alc.evalDue = s.alc.evalDue ∧ (gradeTest s).choices = s.choices
      ∧ (gradeTest s).pending = s.pending := by
  generalize h : gradeTest s = t
  simp only [gradeTest] at h
  (repeat' split at h) <;> subst h <;> simp [clearSat, clearRecov]

/-- A heat sample: the zones, their conditions, the records, the mode and the grade (R149). -/
@[simp] theorem heatSampleEvent_frame (entries : Vector (Option Int) 4) (s : State) :
    (heatSampleEvent entries s).lrx.state = s.lrx.state ∧ (heatSampleEvent entries s).lrx.idle = s.lrx.idle
      ∧ (heatSampleEvent entries s).lrx.header = s.lrx.header
      ∧ (heatSampleEvent entries s).lrx.payload = s.lrx.payload
      ∧ (heatSampleEvent entries s).lrx.trailer = s.lrx.trailer ∧ (heatSampleEvent entries s).lrx.crc = s.lrx.crc
      ∧ (heatSampleEvent entries s).lrx.line = s.lrx.line ∧ (heatSampleEvent entries s).lrx.intake = s.lrx.intake
      ∧ (heatSampleEvent entries s).lrx.execute = s.lrx.execute ∧ (heatSampleEvent entries s).cmuSlot = s.cmuSlot
      ∧ (heatSampleEvent entries s).ltx = s.ltx ∧ (heatSampleEvent entries s).line = s.line
      ∧ (heatSampleEvent entries s).pfs = s.pfs ∧ (heatSampleEvent entries s).cpa = s.cpa
      ∧ (heatSampleEvent entries s).lst = s.lst ∧ (heatSampleEvent entries s).bars = s.bars
      ∧ (heatSampleEvent entries s).mou.p = s.mou.p ∧ (heatSampleEvent entries s).mou.pLast = s.mou.pLast
      ∧ (heatSampleEvent entries s).mou.requested = s.mou.requested
      ∧ (heatSampleEvent entries s).mou.cause = s.mou.cause ∧ (heatSampleEvent entries s).mou.speed = s.mou.speed
      ∧ (heatSampleEvent entries s).mou.encA = s.mou.encA ∧ (heatSampleEvent entries s).mou.encB = s.mou.encB
      ∧ (heatSampleEvent entries s).mou.driveFault = s.mou.driveFault
      ∧ (heatSampleEvent entries s).htc.group = s.htc.group ∧ (heatSampleEvent entries s).htc.pHigh = s.htc.pHigh
      ∧ (heatSampleEvent entries s).tnc = s.tnc ∧ (heatSampleEvent entries s).alc.config = s.alc.config
      ∧ (heatSampleEvent entries s).alc.stack = s.alc.stack
      ∧ (heatSampleEvent entries s).alc.threshold = s.alc.threshold
      ∧ (heatSampleEvent entries s).alc.firstAlert = s.alc.firstAlert
      ∧ (heatSampleEvent entries s).alc.later = s.alc.later
      ∧ (heatSampleEvent entries s).alc.reaction = s.alc.reaction
      ∧ (heatSampleEvent entries s).alc.evalDue = s.alc.evalDue ∧ (heatSampleEvent entries s).pending = s.pending := by
  simp [heatSampleEvent]

/-- The transmitter, and a traced record (R14, R125). -/
@[simp] theorem frameSent_frame (s : State) :
    (frameSent s).lrx = s.lrx ∧ (frameSent s).cmuSlot = s.cmuSlot ∧ (frameSent s).ltx.answers = s.ltx.answers
      ∧ (frameSent s).ltx.notices = s.ltx.notices ∧ (frameSent s).ltx.overrun = s.ltx.overrun
      ∧ (frameSent s).ltx.flowHeld = s.ltx.flowHeld ∧ (frameSent s).line = s.line ∧ (frameSent s).pfs = s.pfs
      ∧ (frameSent s).cpa = s.cpa ∧ (frameSent s).lst = s.lst ∧ (frameSent s).mou = s.mou
      ∧ (frameSent s).htc = s.htc ∧ (frameSent s).tnc = s.tnc ∧ (frameSent s).alc = s.alc
      ∧ (frameSent s).choices = s.choices ∧ (frameSent s).pending = s.pending := by
  generalize h : frameSent s = t
  simp only [frameSent] at h
  (repeat' split at h) <;> subst h <;> simp

/-- The transmitter (R14). -/
@[simp] theorem gapEnd_frame (s : State) :
    (gapEnd s).lrx = s.lrx ∧ (gapEnd s).cmuSlot = s.cmuSlot ∧ (gapEnd s).ltx.answers = s.ltx.answers
      ∧ (gapEnd s).ltx.notices = s.ltx.notices ∧ (gapEnd s).ltx.overrun = s.ltx.overrun
      ∧ (gapEnd s).ltx.flowHeld = s.ltx.flowHeld ∧ (gapEnd s).line = s.line ∧ (gapEnd s).pfs = s.pfs
      ∧ (gapEnd s).cpa = s.cpa ∧ (gapEnd s).lst = s.lst ∧ (gapEnd s).bars = s.bars ∧ (gapEnd s).rls = s.rls
      ∧ (gapEnd s).mou = s.mou ∧ (gapEnd s).htc = s.htc ∧ (gapEnd s).tnc = s.tnc ∧ (gapEnd s).alc = s.alc
      ∧ (gapEnd s).choices = s.choices ∧ (gapEnd s).pending = s.pending := by
  generalize h : gapEnd s = t
  simp only [gapEnd] at h
  (repeat' split at h) <;> subst h <;> simp

/-- The link timer and LINK_LOST (R20). -/
@[simp] theorem linkExpired_frame (s : State) :
    (linkExpired s).lrx.state = s.lrx.state ∧ (linkExpired s).lrx.idle = s.lrx.idle
      ∧ (linkExpired s).lrx.header = s.lrx.header ∧ (linkExpired s).lrx.payload = s.lrx.payload
      ∧ (linkExpired s).lrx.trailer = s.lrx.trailer ∧ (linkExpired s).lrx.crc = s.lrx.crc
      ∧ (linkExpired s).lrx.line = s.lrx.line ∧ (linkExpired s).lrx.intake = s.lrx.intake
      ∧ (linkExpired s).lrx.execute = s.lrx.execute ∧ (linkExpired s).cmuSlot = s.cmuSlot
      ∧ (linkExpired s).ltx = s.ltx ∧ (linkExpired s).line = s.line ∧ (linkExpired s).pfs = s.pfs
      ∧ (linkExpired s).cpa = s.cpa ∧ (linkExpired s).lst = s.lst ∧ (linkExpired s).bars = s.bars
      ∧ (linkExpired s).rls = s.rls ∧ (linkExpired s).mou = s.mou ∧ (linkExpired s).htc = s.htc
      ∧ (linkExpired s).tnc = s.tnc ∧ (linkExpired s).alc.config = s.alc.config
      ∧ (linkExpired s).alc.occ = s.alc.occ ∧ (linkExpired s).alc.stack = s.alc.stack
      ∧ (linkExpired s).alc.threshold = s.alc.threshold ∧ (linkExpired s).alc.firstAlert = s.alc.firstAlert
      ∧ (linkExpired s).alc.later = s.alc.later ∧ (linkExpired s).alc.reaction = s.alc.reaction
      ∧ (linkExpired s).alc.evalDue = s.alc.evalDue ∧ (linkExpired s).choices = s.choices
      ∧ (linkExpired s).pending = s.pending := by
  generalize h : linkExpired s = t
  simp only [linkExpired] at h
  (repeat' split at h) <;> subst h <;> simp

/-! ### The command unit -/

/-- A bank (R39). -/
@[simp] theorem tableEffect_frame (slot : Fin 8) (piece : Nat) (body : TableBody) (s : State) :
    (tableEffect slot piece body s).lrx = s.lrx ∧ (tableEffect slot piece body s).cmuSlot = s.cmuSlot
      ∧ (tableEffect slot piece body s).ltx = s.ltx ∧ (tableEffect slot piece body s).line = s.line
      ∧ (tableEffect slot piece body s).pfs.check = s.pfs.check ∧ (tableEffect slot piece body s).cpa = s.cpa
      ∧ (tableEffect slot piece body s).lst = s.lst ∧ (tableEffect slot piece body s).bars = s.bars
      ∧ (tableEffect slot piece body s).rls = s.rls ∧ (tableEffect slot piece body s).mou = s.mou
      ∧ (tableEffect slot piece body s).htc = s.htc ∧ (tableEffect slot piece body s).tnc = s.tnc
      ∧ (tableEffect slot piece body s).alc = s.alc ∧ (tableEffect slot piece body s).choices = s.choices
      ∧ (tableEffect slot piece body s).pending = s.pending := by
  simp [tableEffect]

/-- A bank (R46). -/
@[simp] theorem discardEffect_frame (slot : Fin 8) (s : State) :
    (discardEffect slot s).lrx = s.lrx ∧ (discardEffect slot s).cmuSlot = s.cmuSlot
      ∧ (discardEffect slot s).ltx = s.ltx ∧ (discardEffect slot s).line = s.line
      ∧ (discardEffect slot s).pfs.check = s.pfs.check ∧ (discardEffect slot s).cpa = s.cpa
      ∧ (discardEffect slot s).lst = s.lst ∧ (discardEffect slot s).bars = s.bars
      ∧ (discardEffect slot s).rls = s.rls ∧ (discardEffect slot s).mou = s.mou
      ∧ (discardEffect slot s).htc = s.htc ∧ (discardEffect slot s).tnc = s.tnc
      ∧ (discardEffect slot s).alc = s.alc ∧ (discardEffect slot s).choices = s.choices
      ∧ (discardEffect slot s).pending = s.pending := by
  simp [discardEffect]

/-- The profile store (R41). -/
@[simp] theorem commitEffect_frame (slot : Fin 8) (s : State) :
    (commitEffect slot s).lrx = s.lrx ∧ (commitEffect slot s).cmuSlot = s.cmuSlot
      ∧ (commitEffect slot s).ltx = s.ltx ∧ (commitEffect slot s).line = s.line
      ∧ (commitEffect slot s).cpa = s.cpa ∧ (commitEffect slot s).lst = s.lst
      ∧ (commitEffect slot s).bars = s.bars ∧ (commitEffect slot s).rls = s.rls
      ∧ (commitEffect slot s).mou = s.mou ∧ (commitEffect slot s).htc = s.htc ∧ (commitEffect slot s).tnc = s.tnc
      ∧ (commitEffect slot s).alc = s.alc ∧ (commitEffect slot s).choices = s.choices
      ∧ (commitEffect slot s).pending = s.pending := by
  simp [commitEffect]

/-- A source's configuration (R168, R169). -/
@[simp] theorem alertConfigEffect_frame (source level grade mode : Nat) (s : State) :
    (alertConfigEffect source level grade mode s).lrx = s.lrx
      ∧ (alertConfigEffect source level grade mode s).cmuSlot = s.cmuSlot
      ∧ (alertConfigEffect source level grade mode s).ltx = s.ltx
      ∧ (alertConfigEffect source level grade mode s).line = s.line
      ∧ (alertConfigEffect source level grade mode s).pfs = s.pfs
      ∧ (alertConfigEffect source level grade mode s).cpa = s.cpa
      ∧ (alertConfigEffect source level grade mode s).lst = s.lst
      ∧ (alertConfigEffect source level grade mode s).bars = s.bars
      ∧ (alertConfigEffect source level grade mode s).rls = s.rls
      ∧ (alertConfigEffect source level grade mode s).mou = s.mou
      ∧ (alertConfigEffect source level grade mode s).htc = s.htc
      ∧ (alertConfigEffect source level grade mode s).tnc = s.tnc
      ∧ (alertConfigEffect source level grade mode s).alc.holds = s.alc.holds
      ∧ (alertConfigEffect source level grade mode s).alc.condCtx = s.alc.condCtx
      ∧ (alertConfigEffect source level grade mode s).alc.stack = s.alc.stack
      ∧ (alertConfigEffect source level grade mode s).alc.threshold = s.alc.threshold
      ∧ (alertConfigEffect source level grade mode s).alc.firstAlert = s.alc.firstAlert
      ∧ (alertConfigEffect source level grade mode s).alc.later = s.alc.later
      ∧ (alertConfigEffect source level grade mode s).alc.reaction = s.alc.reaction
      ∧ (alertConfigEffect source level grade mode s).choices = s.choices
      ∧ (alertConfigEffect source level grade mode s).pending = s.pending := by
  simp [alertConfigEffect]

/-- The threshold (R175). -/
@[simp] theorem alertHoldEffect_frame (n : Nat) (s : State) :
    (alertHoldEffect n s).lrx = s.lrx ∧ (alertHoldEffect n s).cmuSlot = s.cmuSlot
      ∧ (alertHoldEffect n s).ltx = s.ltx ∧ (alertHoldEffect n s).line = s.line
      ∧ (alertHoldEffect n s).pfs = s.pfs ∧ (alertHoldEffect n s).cpa = s.cpa ∧ (alertHoldEffect n s).lst = s.lst
      ∧ (alertHoldEffect n s).bars = s.bars ∧ (alertHoldEffect n s).rls = s.rls
      ∧ (alertHoldEffect n s).mou = s.mou ∧ (alertHoldEffect n s).htc = s.htc ∧ (alertHoldEffect n s).tnc = s.tnc
      ∧ (alertHoldEffect n s).alc.config = s.alc.config ∧ (alertHoldEffect n s).alc.holds = s.alc.holds
      ∧ (alertHoldEffect n s).alc.condCtx = s.alc.condCtx ∧ (alertHoldEffect n s).alc.occ = s.alc.occ
      ∧ (alertHoldEffect n s).alc.stack = s.alc.stack ∧ (alertHoldEffect n s).alc.firstAlert = s.alc.firstAlert
      ∧ (alertHoldEffect n s).alc.later = s.alc.later ∧ (alertHoldEffect n s).alc.reaction = s.alc.reaction
      ∧ (alertHoldEffect n s).alc.fresh = s.alc.fresh ∧ (alertHoldEffect n s).choices = s.choices
      ∧ (alertHoldEffect n s).pending = s.pending := by
  simp [alertHoldEffect]

/-- The stack (R181). -/
@[simp] theorem alertClearEffect_frame (s : State) :
    (alertClearEffect s).lrx = s.lrx ∧ (alertClearEffect s).cmuSlot = s.cmuSlot
      ∧ (alertClearEffect s).ltx = s.ltx ∧ (alertClearEffect s).line = s.line ∧ (alertClearEffect s).pfs = s.pfs
      ∧ (alertClearEffect s).cpa = s.cpa ∧ (alertClearEffect s).lst = s.lst ∧ (alertClearEffect s).bars = s.bars
      ∧ (alertClearEffect s).rls = s.rls ∧ (alertClearEffect s).mou = s.mou ∧ (alertClearEffect s).htc = s.htc
      ∧ (alertClearEffect s).tnc = s.tnc ∧ (alertClearEffect s).alc.config = s.alc.config
      ∧ (alertClearEffect s).alc.holds = s.alc.holds ∧ (alertClearEffect s).alc.condCtx = s.alc.condCtx
      ∧ (alertClearEffect s).alc.occ = s.alc.occ ∧ (alertClearEffect s).alc.threshold = s.alc.threshold
      ∧ (alertClearEffect s).alc.firstAlert = s.alc.firstAlert ∧ (alertClearEffect s).alc.later = s.alc.later
      ∧ (alertClearEffect s).alc.reaction = s.alc.reaction ∧ (alertClearEffect s).choices = s.choices
      ∧ (alertClearEffect s).pending = s.pending := by
  simp only [alertClearEffect, State.modAlc_alc]
  (repeat' split) <;> simp

/-- The log (R174). -/
@[simp] theorem alertLogResetEffect_frame (s : State) :
    (alertLogResetEffect s).lrx = s.lrx ∧ (alertLogResetEffect s).cmuSlot = s.cmuSlot
      ∧ (alertLogResetEffect s).ltx = s.ltx ∧ (alertLogResetEffect s).line = s.line
      ∧ (alertLogResetEffect s).pfs = s.pfs ∧ (alertLogResetEffect s).cpa = s.cpa
      ∧ (alertLogResetEffect s).lst = s.lst ∧ (alertLogResetEffect s).bars = s.bars
      ∧ (alertLogResetEffect s).rls = s.rls ∧ (alertLogResetEffect s).mou = s.mou
      ∧ (alertLogResetEffect s).htc = s.htc ∧ (alertLogResetEffect s).tnc = s.tnc
      ∧ (alertLogResetEffect s).alc.config = s.alc.config ∧ (alertLogResetEffect s).alc.holds = s.alc.holds
      ∧ (alertLogResetEffect s).alc.condCtx = s.alc.condCtx ∧ (alertLogResetEffect s).alc.occ = s.alc.occ
      ∧ (alertLogResetEffect s).alc.stack = s.alc.stack ∧ (alertLogResetEffect s).alc.threshold = s.alc.threshold
      ∧ (alertLogResetEffect s).alc.reaction = s.alc.reaction ∧ (alertLogResetEffect s).alc.fresh = s.alc.fresh
      ∧ (alertLogResetEffect s).alc.evalDue = s.alc.evalDue ∧ (alertLogResetEffect s).choices = s.choices
      ∧ (alertLogResetEffect s).pending = s.pending := by
  simp [alertLogResetEffect]

/-- A fabric slot (R70). -/
@[simp] theorem fabricLoadEffect_frame (c : FabricFields) (s : State) :
    (fabricLoadEffect c s).lrx = s.lrx ∧ (fabricLoadEffect c s).cmuSlot = s.cmuSlot
      ∧ (fabricLoadEffect c s).ltx = s.ltx ∧ (fabricLoadEffect c s).line = s.line
      ∧ (fabricLoadEffect c s).pfs = s.pfs ∧ (fabricLoadEffect c s).cpa = s.cpa
      ∧ (fabricLoadEffect c s).lst = s.lst ∧ (fabricLoadEffect c s).bars = s.bars
      ∧ (fabricLoadEffect c s).rls = s.rls ∧ (fabricLoadEffect c s).mou = s.mou
      ∧ (fabricLoadEffect c s).htc = s.htc ∧ (fabricLoadEffect c s).tnc.intake = s.tnc.intake
      ∧ (fabricLoadEffect c s).tnc.source = s.tnc.source ∧ (fabricLoadEffect c s).tnc.tension = s.tnc.tension
      ∧ (fabricLoadEffect c s).tnc.taper = s.tnc.taper ∧ (fabricLoadEffect c s).tnc.zones = s.tnc.zones
      ∧ (fabricLoadEffect c s).tnc.group = s.tnc.group ∧ (fabricLoadEffect c s).alc = s.alc
      ∧ (fabricLoadEffect c s).choices = s.choices ∧ (fabricLoadEffect c s).pending = s.pending := by
  simp [fabricLoadEffect]

/-- The intake fabric, the tension fabric and the taper (R71). -/
@[simp] theorem spliceEffect_frame (slot : Fin 16) (s : State) :
    (spliceEffect slot s).lrx = s.lrx ∧ (spliceEffect slot s).cmuSlot = s.cmuSlot
      ∧ (spliceEffect slot s).ltx = s.ltx ∧ (spliceEffect slot s).line = s.line
      ∧ (spliceEffect slot s).pfs = s.pfs ∧ (spliceEffect slot s).cpa = s.cpa ∧ (spliceEffect slot s).lst = s.lst
      ∧ (spliceEffect slot s).bars = s.bars ∧ (spliceEffect slot s).rls = s.rls
      ∧ (spliceEffect slot s).mou = s.mou ∧ (spliceEffect slot s).htc = s.htc
      ∧ (spliceEffect slot s).tnc.fabrics = s.tnc.fabrics ∧ (spliceEffect slot s).tnc.source = s.tnc.source
      ∧ (spliceEffect slot s).tnc.zones = s.tnc.zones ∧ (spliceEffect slot s).tnc.group = s.tnc.group
      ∧ (spliceEffect slot s).alc = s.alc ∧ (spliceEffect slot s).choices = s.choices
      ∧ (spliceEffect slot s).pending = s.pending := by
  generalize h : spliceEffect slot s = t
  simp only [spliceEffect] at h
  (repeat' split at h) <;> subst h <;> simp

/-- The tension group (R78). -/
@[simp] theorem tensionConfigEffect_frame (c : TensionFields) (s : State) :
    (tensionConfigEffect c s).lrx = s.lrx ∧ (tensionConfigEffect c s).cmuSlot = s.cmuSlot
      ∧ (tensionConfigEffect c s).ltx = s.ltx ∧ (tensionConfigEffect c s).line = s.line
      ∧ (tensionConfigEffect c s).pfs = s.pfs ∧ (tensionConfigEffect c s).cpa = s.cpa
      ∧ (tensionConfigEffect c s).lst = s.lst ∧ (tensionConfigEffect c s).bars = s.bars
      ∧ (tensionConfigEffect c s).rls = s.rls ∧ (tensionConfigEffect c s).mou = s.mou
      ∧ (tensionConfigEffect c s).htc = s.htc ∧ (tensionConfigEffect c s).tnc.fabrics = s.tnc.fabrics
      ∧ (tensionConfigEffect c s).tnc.intake = s.tnc.intake ∧ (tensionConfigEffect c s).tnc.source = s.tnc.source
      ∧ (tensionConfigEffect c s).tnc.tension = s.tnc.tension ∧ (tensionConfigEffect c s).tnc.taper = s.tnc.taper
      ∧ (tensionConfigEffect c s).tnc.zones = s.tnc.zones ∧ (tensionConfigEffect c s).alc = s.alc
      ∧ (tensionConfigEffect c s).choices = s.choices ∧ (tensionConfigEffect c s).pending = s.pending := by
  simp [tensionConfigEffect]

/-- The heat group and the targets (R150). -/
@[simp] theorem heatConfigEffect_frame (c : HeatFields) (s : State) :
    (heatConfigEffect c s).lrx = s.lrx ∧ (heatConfigEffect c s).cmuSlot = s.cmuSlot
      ∧ (heatConfigEffect c s).ltx = s.ltx ∧ (heatConfigEffect c s).line = s.line
      ∧ (heatConfigEffect c s).pfs = s.pfs ∧ (heatConfigEffect c s).cpa = s.cpa
      ∧ (heatConfigEffect c s).lst = s.lst ∧ (heatConfigEffect c s).bars = s.bars
      ∧ (heatConfigEffect c s).rls = s.rls ∧ (heatConfigEffect c s).mou.p = s.mou.p
      ∧ (heatConfigEffect c s).mou.pLast = s.mou.pLast ∧ (heatConfigEffect c s).mou.mode = s.mou.mode
      ∧ (heatConfigEffect c s).mou.nipClosed = s.mou.nipClosed
      ∧ (heatConfigEffect c s).mou.requested = s.mou.requested ∧ (heatConfigEffect c s).mou.cause = s.mou.cause
      ∧ (heatConfigEffect c s).mou.speed = s.mou.speed ∧ (heatConfigEffect c s).mou.encA = s.mou.encA
      ∧ (heatConfigEffect c s).mou.encB = s.mou.encB ∧ (heatConfigEffect c s).mou.driveFault = s.mou.driveFault
      ∧ (heatConfigEffect c s).htc.zones = s.htc.zones ∧ (heatConfigEffect c s).htc.grade = s.htc.grade
      ∧ (heatConfigEffect c s).htc.pHigh = s.htc.pHigh ∧ (heatConfigEffect c s).tnc = s.tnc
      ∧ (heatConfigEffect c s).alc = s.alc ∧ (heatConfigEffect c s).choices = s.choices
      ∧ (heatConfigEffect c s).pending = s.pending := by
  generalize h : heatConfigEffect c s = t
  simp only [heatConfigEffect] at h
  (repeat' split at h) <;> subst h <;> simp

/-- The line group (R88). -/
@[simp] theorem lineConfigEffect_frame (c : LineFields) (s : State) :
    (lineConfigEffect c s).lrx = s.lrx ∧ (lineConfigEffect c s).cmuSlot = s.cmuSlot
      ∧ (lineConfigEffect c s).ltx = s.ltx ∧ (lineConfigEffect c s).pfs = s.pfs
      ∧ (lineConfigEffect c s).cpa = s.cpa ∧ (lineConfigEffect c s).lst = s.lst
      ∧ (lineConfigEffect c s).bars = s.bars ∧ (lineConfigEffect c s).rls = s.rls
      ∧ (lineConfigEffect c s).mou = s.mou ∧ (lineConfigEffect c s).htc = s.htc
      ∧ (lineConfigEffect c s).tnc = s.tnc ∧ (lineConfigEffect c s).alc = s.alc
      ∧ (lineConfigEffect c s).choices = s.choices ∧ (lineConfigEffect c s).pending = s.pending := by
  simp [lineConfigEffect]

/-- An execution leaves the buffers, the slot and the transmitter (R21). -/
@[simp] theorem perform_frame (r : Request) (s : State) :
    (perform r s).1.lrx.state = s.lrx.state ∧ (perform r s).1.lrx.idle = s.lrx.idle
      ∧ (perform r s).1.lrx.header = s.lrx.header ∧ (perform r s).1.lrx.payload = s.lrx.payload
      ∧ (perform r s).1.lrx.trailer = s.lrx.trailer ∧ (perform r s).1.lrx.crc = s.lrx.crc
      ∧ (perform r s).1.lrx.intake = s.lrx.intake ∧ (perform r s).1.lrx.execute = s.lrx.execute
      ∧ (perform r s).1.cmuSlot = s.cmuSlot ∧ (perform r s).1.ltx = s.ltx ∧ (perform r s).1.pending = s.pending := by
  cases r <;> simp [perform]

/-- An execution leaves the buffers, the slot and the transmitter (R21). -/
@[simp] theorem executeFrame_frame (f : Frame) (s : State) :
    (executeFrame f s).1.lrx.state = s.lrx.state ∧ (executeFrame f s).1.lrx.idle = s.lrx.idle
      ∧ (executeFrame f s).1.lrx.header = s.lrx.header ∧ (executeFrame f s).1.lrx.payload = s.lrx.payload
      ∧ (executeFrame f s).1.lrx.trailer = s.lrx.trailer ∧ (executeFrame f s).1.lrx.crc = s.lrx.crc
      ∧ (executeFrame f s).1.lrx.intake = s.lrx.intake ∧ (executeFrame f s).1.lrx.execute = s.lrx.execute
      ∧ (executeFrame f s).1.cmuSlot = s.cmuSlot ∧ (executeFrame f s).1.ltx = s.ltx
      ∧ (executeFrame f s).1.pending = s.pending := by
  generalize h : executeFrame f s = t
  simp only [executeFrame] at h
  (repeat' split at h) <;> subst h <;> simp

/-- The control buffers (R5). -/
@[simp] theorem advanceBuffers_frame (s : State) :
    (advanceBuffers s).lrx.state = s.lrx.state ∧ (advanceBuffers s).lrx.idle = s.lrx.idle
      ∧ (advanceBuffers s).lrx.header = s.lrx.header ∧ (advanceBuffers s).lrx.payload = s.lrx.payload
      ∧ (advanceBuffers s).lrx.trailer = s.lrx.trailer ∧ (advanceBuffers s).lrx.crc = s.lrx.crc
      ∧ (advanceBuffers s).lrx.line = s.lrx.line ∧ (advanceBuffers s).lrx.timer = s.lrx.timer
      ∧ (advanceBuffers s).cmuSlot = s.cmuSlot ∧ (advanceBuffers s).ltx = s.ltx ∧ (advanceBuffers s).line = s.line
      ∧ (advanceBuffers s).pfs = s.pfs ∧ (advanceBuffers s).cpa = s.cpa ∧ (advanceBuffers s).lst = s.lst
      ∧ (advanceBuffers s).bars = s.bars ∧ (advanceBuffers s).rls = s.rls ∧ (advanceBuffers s).mou = s.mou
      ∧ (advanceBuffers s).htc = s.htc ∧ (advanceBuffers s).tnc = s.tnc ∧ (advanceBuffers s).alc = s.alc
      ∧ (advanceBuffers s).choices = s.choices ∧ (advanceBuffers s).pending = s.pending := by
  simp [advanceBuffers]

/-- The answer and the control buffers (R6). -/
@[simp] theorem finishExecution_frame (f : Frame) (code : AnswerCode) (detail : Nat) (reply : List Byte) (s : State) :
    (finishExecution f code detail reply s).lrx.state = s.lrx.state
      ∧ (finishExecution f code detail reply s).lrx.idle = s.lrx.idle
      ∧ (finishExecution f code detail reply s).lrx.header = s.lrx.header
      ∧ (finishExecution f code detail reply s).lrx.payload = s.lrx.payload
      ∧ (finishExecution f code detail reply s).lrx.trailer = s.lrx.trailer
      ∧ (finishExecution f code detail reply s).lrx.crc = s.lrx.crc
      ∧ (finishExecution f code detail reply s).lrx.line = s.lrx.line
      ∧ (finishExecution f code detail reply s).lrx.timer = s.lrx.timer
      ∧ (finishExecution f code detail reply s).ltx.tx = s.ltx.tx
      ∧ (finishExecution f code detail reply s).ltx.notices = s.ltx.notices
      ∧ (finishExecution f code detail reply s).ltx.overrun = s.ltx.overrun
      ∧ (finishExecution f code detail reply s).ltx.flowHeld = s.ltx.flowHeld
      ∧ (finishExecution f code detail reply s).line = s.line
      ∧ (finishExecution f code detail reply s).pfs = s.pfs ∧ (finishExecution f code detail reply s).cpa = s.cpa
      ∧ (finishExecution f code detail reply s).lst = s.lst
      ∧ (finishExecution f code detail reply s).bars = s.bars
      ∧ (finishExecution f code detail reply s).rls = s.rls ∧ (finishExecution f code detail reply s).mou = s.mou
      ∧ (finishExecution f code detail reply s).htc = s.htc ∧ (finishExecution f code detail reply s).tnc = s.tnc
      ∧ (finishExecution f code detail reply s).alc = s.alc
      ∧ (finishExecution f code detail reply s).choices = s.choices
      ∧ (finishExecution f code detail reply s).pending = s.pending := by
  simp [finishExecution]

/-- The control buffers, an answer, or LINK_ERROR (R5). -/
@[simp] theorem intakeFrame_frame (f : Frame) (s : State) :
    (intakeFrame f s).lrx.state = s.lrx.state ∧ (intakeFrame f s).lrx.idle = s.lrx.idle
      ∧ (intakeFrame f s).lrx.header = s.lrx.header ∧ (intakeFrame f s).lrx.payload = s.lrx.payload
      ∧ (intakeFrame f s).lrx.trailer = s.lrx.trailer ∧ (intakeFrame f s).lrx.crc = s.lrx.crc
      ∧ (intakeFrame f s).lrx.line = s.lrx.line ∧ (intakeFrame f s).lrx.timer = s.lrx.timer
      ∧ (intakeFrame f s).cmuSlot = s.cmuSlot ∧ (intakeFrame f s).ltx.tx = s.ltx.tx
      ∧ (intakeFrame f s).ltx.notices = s.ltx.notices ∧ (intakeFrame f s).ltx.overrun = s.ltx.overrun
      ∧ (intakeFrame f s).ltx.flowHeld = s.ltx.flowHeld ∧ (intakeFrame f s).line = s.line
      ∧ (intakeFrame f s).pfs = s.pfs ∧ (intakeFrame f s).cpa = s.cpa ∧ (intakeFrame f s).lst = s.lst
      ∧ (intakeFrame f s).bars = s.bars ∧ (intakeFrame f s).rls = s.rls ∧ (intakeFrame f s).mou = s.mou
      ∧ (intakeFrame f s).htc = s.htc ∧ (intakeFrame f s).tnc = s.tnc
      ∧ (intakeFrame f s).alc.config = s.alc.config ∧ (intakeFrame f s).alc.holds = s.alc.holds
      ∧ (intakeFrame f s).alc.condCtx = s.alc.condCtx ∧ (intakeFrame f s).alc.stack = s.alc.stack
      ∧ (intakeFrame f s).alc.threshold = s.alc.threshold ∧ (intakeFrame f s).alc.firstAlert = s.alc.firstAlert
      ∧ (intakeFrame f s).alc.later = s.alc.later ∧ (intakeFrame f s).alc.reaction = s.alc.reaction
      ∧ (intakeFrame f s).alc.evalDue = s.alc.evalDue ∧ (intakeFrame f s).choices = s.choices
      ∧ (intakeFrame f s).pending = s.pending := by
  generalize h : intakeFrame f s = t
  simp only [intakeFrame] at h
  (repeat' split at h) <;> subst h <;> simp

/-- The slot's banks (R43). -/
@[simp] theorem commitBank_frame (slot : Fin 8) (id : BankId) (s : State) :
    (commitBank slot id s).lrx = s.lrx ∧ (commitBank slot id s).cmuSlot = s.cmuSlot
      ∧ (commitBank slot id s).ltx = s.ltx ∧ (commitBank slot id s).line = s.line
      ∧ (commitBank slot id s).pfs.check = s.pfs.check ∧ (commitBank slot id s).cpa = s.cpa
      ∧ (commitBank slot id s).lst = s.lst ∧ (commitBank slot id s).bars = s.bars
      ∧ (commitBank slot id s).rls = s.rls ∧ (commitBank slot id s).mou = s.mou
      ∧ (commitBank slot id s).htc = s.htc ∧ (commitBank slot id s).tnc = s.tnc
      ∧ (commitBank slot id s).alc = s.alc ∧ (commitBank slot id s).choices = s.choices
      ∧ (commitBank slot id s).pending = s.pending := by
  simp [commitBank]

/-- A bank (R44). -/
@[simp] theorem revertBank_frame (slot : Fin 8) (id : BankId) (s : State) :
    (revertBank slot id s).lrx = s.lrx ∧ (revertBank slot id s).cmuSlot = s.cmuSlot
      ∧ (revertBank slot id s).ltx = s.ltx ∧ (revertBank slot id s).line = s.line
      ∧ (revertBank slot id s).pfs.check = s.pfs.check ∧ (revertBank slot id s).cpa = s.cpa
      ∧ (revertBank slot id s).lst = s.lst ∧ (revertBank slot id s).bars = s.bars
      ∧ (revertBank slot id s).rls = s.rls ∧ (revertBank slot id s).mou = s.mou
      ∧ (revertBank slot id s).htc = s.htc ∧ (revertBank slot id s).tnc = s.tnc
      ∧ (revertBank slot id s).alc = s.alc ∧ (revertBank slot id s).choices = s.choices
      ∧ (revertBank slot id s).pending = s.pending := by
  simp [revertBank]

/-- The check, the answer and the control buffers (R43, R44). -/
@[simp] theorem endCheck_frame (slot : Fin 8) (id : BankId) (f : Frame) (s : State) :
    (endCheck slot id f s).lrx.state = s.lrx.state ∧ (endCheck slot id f s).lrx.idle = s.lrx.idle
      ∧ (endCheck slot id f s).lrx.header = s.lrx.header ∧ (endCheck slot id f s).lrx.payload = s.lrx.payload
      ∧ (endCheck slot id f s).lrx.trailer = s.lrx.trailer ∧ (endCheck slot id f s).lrx.crc = s.lrx.crc
      ∧ (endCheck slot id f s).lrx.line = s.lrx.line ∧ (endCheck slot id f s).lrx.timer = s.lrx.timer
      ∧ (endCheck slot id f s).ltx.tx = s.ltx.tx ∧ (endCheck slot id f s).ltx.notices = s.ltx.notices
      ∧ (endCheck slot id f s).ltx.overrun = s.ltx.overrun ∧ (endCheck slot id f s).ltx.flowHeld = s.ltx.flowHeld
      ∧ (endCheck slot id f s).line = s.line ∧ (endCheck slot id f s).cpa = s.cpa
      ∧ (endCheck slot id f s).lst = s.lst ∧ (endCheck slot id f s).bars = s.bars
      ∧ (endCheck slot id f s).rls = s.rls ∧ (endCheck slot id f s).mou = s.mou
      ∧ (endCheck slot id f s).htc = s.htc ∧ (endCheck slot id f s).tnc = s.tnc
      ∧ (endCheck slot id f s).alc.config = s.alc.config ∧ (endCheck slot id f s).alc.holds = s.alc.holds
      ∧ (endCheck slot id f s).alc.condCtx = s.alc.condCtx ∧ (endCheck slot id f s).alc.stack = s.alc.stack
      ∧ (endCheck slot id f s).alc.threshold = s.alc.threshold
      ∧ (endCheck slot id f s).alc.firstAlert = s.alc.firstAlert ∧ (endCheck slot id f s).alc.later = s.alc.later
      ∧ (endCheck slot id f s).alc.reaction = s.alc.reaction ∧ (endCheck slot id f s).alc.evalDue = s.alc.evalDue
      ∧ (endCheck slot id f s).choices = s.choices ∧ (endCheck slot id f s).pending = s.pending := by
  generalize h : endCheck slot id f s = t
  simp only [endCheck] at h
  (repeat' split at h) <;> subst h <;> simp

/-- The conditions that hold at the reset (R188). -/
@[simp] theorem beginAtReset_frame (s : State) :
    (beginAtReset s).lrx = s.lrx ∧ (beginAtReset s).cmuSlot = s.cmuSlot ∧ (beginAtReset s).ltx = s.ltx
      ∧ (beginAtReset s).line = s.line ∧ (beginAtReset s).pfs = s.pfs ∧ (beginAtReset s).cpa = s.cpa
      ∧ (beginAtReset s).lst = s.lst ∧ (beginAtReset s).bars = s.bars ∧ (beginAtReset s).rls = s.rls
      ∧ (beginAtReset s).mou = s.mou ∧ (beginAtReset s).htc = s.htc ∧ (beginAtReset s).tnc = s.tnc
      ∧ (beginAtReset s).alc.config = s.alc.config ∧ (beginAtReset s).alc.occ = s.alc.occ
      ∧ (beginAtReset s).alc.stack = s.alc.stack ∧ (beginAtReset s).alc.threshold = s.alc.threshold
      ∧ (beginAtReset s).alc.firstAlert = s.alc.firstAlert ∧ (beginAtReset s).alc.later = s.alc.later
      ∧ (beginAtReset s).alc.reaction = s.alc.reaction ∧ (beginAtReset s).pending = s.pending := by
  generalize h : beginAtReset s = t
  simp only [beginAtReset] at h
  split at h <;> subst h <;> simp

end Sys2Proof.Machine
end

section
/-! SUPPORT and the settling of O2. How an invariant is carried over what a command leaves: over each event, over the
stages that END_MARK, a control frame and the end of a bank check are made of (R3, R5, R6, R43), and over `settle`. -/

namespace Sys2Proof.Machine

/-! ### The stages of END_MARK, of a control frame and of the end of a bank check -/

/-- A property `Q` of a state between events, which an execution may weaken to `P`, after an execution (R6, R21). -/
theorem startExecution_keeps {P Q : State → Prop} (hweak : ∀ s, Q s → P s) (hbetween : ∀ s x, Q s → Q (s.setCmuSlot x))
    (hslot : ∀ s x, P s → P (s.setCmuSlot x)) (hanswer : ∀ s a, P s → P (queueAnswer a s))
    (hadvance : ∀ s, P s → P (advanceBuffers s)) (herror : ∀ s sub k t, P s → P (raiseLinkError sub k t s))
    (hperform : ∀ s r, Q s → s.pfs.check = none → refusal s r = none → P (perform r s).1)
    (f : Frame) (s : State) (hcheck : s.pfs.check = none) (hs : Q s) : P (startExecution f s) := by
  have hexecute : P (executeFrame f (s.setCmuSlot true)).1 := by
    unfold executeFrame
    split
    · exact hweak _ (hbetween _ _ hs)
    · next r _ =>
      split
      · exact hweak _ (hbetween _ _ hs)
      · next hpass => exact hperform _ r (hbetween _ _ hs) hcheck hpass
  unfold startExecution
  split
  · split
    · next s1 code detail reply heq =>
      rw [heq] at hexecute
      exact hadvance _ (hanswer _ _ (hslot _ _ hexecute))
    · next s1 heq =>
      rw [heq] at hexecute
      exact hexecute
  · exact herror _ _ _ _ (hadvance _ (hweak _ hs))

/-- A property `Q` between events, weakened to `P` inside one and put right again by `settle`, is kept by every command
that each event and each stage carries from `Q` or `P` to `P`. -/
theorem taken_restores {P Q : State → Prop} (hweak : ∀ s, Q s → P s) (hsettle : ∀ s, P s → Q (settle s))
    (hclosed : ∀ s x n, Q s → Q (s.modLrx fun l => l.without x n)) (hbetween : ∀ s x, Q s → Q (s.setCmuSlot x))
    (hevent : ∀ s t, Q s → Event s t → P t)
    (hwithout : ∀ s x n, P s → P (s.modLrx fun l => l.without x n)) (hdiscard : ∀ s, P s → P (discardLine s))
    (herror : ∀ s sub k t, P s → P (raiseLinkError sub k t s)) (hgood : ∀ s, P s → P (goodFrame s))
    (hline : ∀ s, P s → P (completeLine s)) (hintake : ∀ s f, P s → P (intakeFrame f s))
    (hslot : ∀ s x, P s → P (s.setCmuSlot x)) (hanswer : ∀ s a, P s → P (queueAnswer a s))
    (hadvance : ∀ s, P s → P (advanceBuffers s))
    (hperform : ∀ s r, Q s → s.pfs.check = none → refusal s r = none → P (perform r s).1)
    (hcheck : ∀ s slot id f, Q s → s.pfs.check = some (slot, id) → P (endCheck slot id f s))
    (s t : State) (hs : Q s) (h : Taken s t) : Q t := by
  have hrun : ∀ s, Q s → Q (runExecute s) := by
    intro s hs
    unfold runExecute
    split
    · next hc _ =>
      exact hsettle _ (startExecution_keeps hweak hbetween hslot hanswer hadvance herror hperform _ _ hc hs)
    · exact hs
  have hcontrol : ∀ f s, P s → Q (takeControl f s) := by
    intro f s hs
    unfold takeControl
    split
    · exact hrun _ (hsettle _ (hintake _ _ hs))
    · exact hsettle _ (hintake _ _ hs)
  have hdropped : ∀ s sub k t, Q s → Q (settle (raiseLinkError sub k t
      ((discardLine s).modLrx fun l => l.without .hunt 0))) := fun s sub k t hs =>
    hsettle _ (herror _ _ _ _ (hwithout _ _ _ (hdiscard _ (hweak _ hs))))
  cases h with
  | event h => exact hsettle _ (hevent _ _ hs h)
  | endMark =>
    unfold takeEnd
    split
    · exact hs
    · exact hclosed _ _ _ hs
    · exact hdropped _ _ _ _ hs
    · exact hdropped _ _ _ _ hs
    · split
      · exact hdropped _ _ _ _ hs
      · split
        · split
          · exact hsettle _ (hline _ (hgood _ (hweak _ hs)))
          · exact hcontrol _ _ (hwithout _ _ _ (hgood _ (hweak _ hs)))
        · exact hdropped _ _ _ _ hs
  | control f => exact hcontrol _ _ (hweak _ hs)
  | bankCheckEnd =>
    unfold checkEnds
    split
    · next hc _ => exact hrun _ (hsettle _ (hcheck _ _ _ _ hs hc))
    · exact hs

/-- A property that every event, every stage and `settle` keep is kept by every command. -/
theorem taken_keeps {P : State → Prop} (hsettle : ∀ s, P s → P (settle s)) (hevent : ∀ s t, P s → Event s t → P t)
    (hwithout : ∀ s x n, P s → P (s.modLrx fun l => l.without x n)) (hdiscard : ∀ s, P s → P (discardLine s))
    (herror : ∀ s sub k t, P s → P (raiseLinkError sub k t s)) (hgood : ∀ s, P s → P (goodFrame s))
    (hline : ∀ s, P s → P (completeLine s)) (hintake : ∀ s f, P s → P (intakeFrame f s))
    (hslot : ∀ s x, P s → P (s.setCmuSlot x)) (hanswer : ∀ s a, P s → P (queueAnswer a s))
    (hadvance : ∀ s, P s → P (advanceBuffers s))
    (hperform : ∀ s r, P s → s.pfs.check = none → refusal s r = none → P (perform r s).1)
    (hcheck : ∀ s slot id f, P s → s.pfs.check = some (slot, id) → P (endCheck slot id f s))
    (s t : State) (hs : P s) (h : Taken s t) : P t :=
  taken_restores (fun _ => id) hsettle hwithout hslot hevent hwithout hdiscard herror hgood hline hintake hslot hanswer
    hadvance hperform hcheck s t hs h

/-! ### Invariants of the paper path -/

/-- Two states agree on the paper path: line group, profile store, bars, run list, motion, heat and tension, and on the
stack and the reaction in force. What the receiver and the transmitter do leaves a state so. -/
structure SamePath (s t : State) : Prop where
  line : t.line = s.line
  pfs : t.pfs = s.pfs
  bars : t.bars = s.bars
  rls : t.rls = s.rls
  mou : t.mou = s.mou
  htc : t.htc = s.htc
  tnc : t.tnc = s.tnc
  stack : t.alc.stack = s.alc.stack
  reaction : t.alc.reaction = s.alc.reaction

/-- An invariant of the paper path that `settle`, the path's events and the executions keep is kept by every command. -/
theorem path_keeps {P : State → Prop} (hsame : ∀ s t, SamePath s t → P s → P t) (hsettle : ∀ s, P s → P (settle s))
    (hsent : ∀ s, P s → P (frameSent s)) (hencoder : ∀ s a b, P s → P (encoderLevels a b s))
    (hsample : ∀ s, P s → P (sampleLine s)) (hdrive : ∀ s x, P s → P (driveFaultLevel x s))
    (hbar : ∀ s k x, P s → P (barFaultLevel k x s)) (hreading : ∀ s z n, P s → P (tensionReadingEvent z n s))
    (hmissing : ∀ s z, P s → P (missingExpired z s)) (hheat : ∀ s e, P s → P (heatSampleEvent e s))
    (hreset : ∀ s, P s → P (beginAtReset (resetBlocks s))) (hcommit : ∀ s seg l o c, P s → P (commitLine seg l o c s))
    (hperform : ∀ s r, P s → s.pfs.check = none → refusal s r = none → P (perform r s).1)
    (hcheck : ∀ s slot id f, P s → s.pfs.check = some (slot, id) → P (endCheck slot id f s))
    (s t : State) (hs : P s) (h : Taken s t) : P t := by
  refine taken_keeps hsettle ?_ ?_ ?_ ?_ ?_ ?_ ?_ ?_ ?_ ?_ hperform hcheck s t hs h
  · intro s t hs h
    cases h with
    | startMark => exact hsame s _ (by constructor <;> simp) hs
    | dataSymbol b => exact hsame s _ (by constructor <;> simp) hs
    | idleFill => exact hsame s _ (by constructor <;> simp) hs
    | abortMark => exact hsame s _ (by constructor <;> simp) hs
    | frameSent => exact hsent s hs
    | gapEnd => exact hsame s _ (by constructor <;> simp) hs
    | linkTimeout => exact hsame s _ (by constructor <;> simp) hs
    | encoderEdge a b => exact hencoder s a b hs
    | lineSample => exact hsample s hs
    | driveFaultInput x => exact hdrive s x hs
    | barFaultInput k x => exact hbar s k x hs
    | tensionReading z n => exact hreading s z n hs
    | tensionMissing z => exact hmissing s z hs
    | heatSample e => exact hheat s e hs
    | hardwareReset => exact hreset s hs
  · exact fun s x n hs => hsame s _ (by constructor <;> simp) hs
  · exact fun s hs => hsame s _ (by constructor <;> simp) hs
  · exact fun s sub k t hs => hsame s _ (by constructor <;> simp) hs
  · exact fun s hs => hsame s _ (by constructor <;> simp) hs
  · intro s hs
    have hclosed : P (s.modLrx fun l => l.without .hunt 0) := hsame s _ (by constructor <;> simp) hs
    unfold completeLine
    split
    · next seg l o c slot _ =>
      have hdone := hcommit _ seg l o c hclosed
      by_cases hslot : slot = true
      · simp only [hslot, if_true]
        exact hsame _ _ (by constructor <;> simp) hdone
      · simp only [hslot]
        exact hdone
    · exact hsame s _ (by constructor <;> simp) hs
    · exact hclosed
    · exact hclosed
  · exact fun s f hs => hsame s _ (by constructor <;> simp) hs
  · exact fun s x hs => hsame s _ (by constructor <;> simp) hs
  · exact fun s a hs => hsame s _ (by constructor <;> simp) hs
  · exact fun s hs => hsame s _ (by constructor <;> simp) hs

/-! ### The waiting commands -/

/-- No command touches the waiting commands. -/
theorem pending_taken {s t : State} (h : Taken s t) : t.pending = s.pending := by
  refine taken_keeps (P := fun u => u.pending = s.pending) ?_ ?_ ?_ ?_ ?_ ?_ ?_ ?_ ?_ ?_ ?_ ?_ ?_ s t rfl h
  · exact fun u hu => by simpa using hu
  · intro u v hu h
    cases h <;> simpa [resetBlocks] using hu
  all_goals intros; simpa

/-- Settles O2: every command goes on, and no event and no stage of one touches the waiting commands. -/
theorem everyCommandGoesOn : Obligations.EveryCommandGoesOn := by
  intro i s
  obtain ⟨t, ht, htaken⟩ := exec_taken i s
  exact ⟨t, ht, pending_taken htaken⟩

end Sys2Proof.Machine
end

section
/-! SUPPORT and the settling of O17. How the records of the run list change: what any event does to a record that stays
(R105, R111, R119), operation by operation, and the four events that take records out or put one in. -/

namespace Sys2Proof.Machine

/-! ### A record that stays -/

/-- A record after an event that leaves it in the list: its bound fields as they were, its progress only advanced, and
its lost-line count, up to the count's end, not lower. -/
structure Stays (r r' : Segment) : Prop where
  bound : SameBound r r'
  advanced : Advanced r r'
  lost : min 65535 r.lost ≤ r'.lost

theorem Stays.refl (r : Segment) : Stays r r :=
  ⟨by simp [SameBound], by simp [Advanced], min_le_right _ _⟩

theorem Stays.trans {a b c : Segment} (h1 : Stays a b) (h2 : Stays b c) : Stays a c := by
  obtain ⟨hb1, ha1, hl1⟩ := h1
  obtain ⟨hb2, ha2, hl2⟩ := h2
  refine ⟨?_, ?_, by omega⟩
  · simp_all [SameBound]
  · obtain ⟨f1, p1, c1, t1, x1, x2, x3, x4, x5, x6, x7, b1⟩ := ha1
    obtain ⟨f2, p2, c2, t2, y1, y2, y3, y4, y5, y6, y7, b2⟩ := ha2
    exact ⟨f1.trans f2, p1.trans p2, c1.trans c2, t2 ∘ t1, y1 ∘ x1, y2 ∘ x2, y3 ∘ x3, y4 ∘ x4, y5 ∘ x5, y6 ∘ x6,
      y7.trans x7, fun k => b2 k ∘ b1 k⟩

/-- A list of records after events that take none out and put none in: the same records, each of them staying. -/
abbrev Evolves (l l' : List Segment) : Prop :=
  List.Forall₂ Stays l l'

theorem Evolves.refl (l : List Segment) : Evolves l l :=
  List.forall₂_same.mpr fun r _ => Stays.refl r

theorem Evolves.of_eq {l l' : List Segment} (h : l' = l) : Evolves l l' :=
  h ▸ Evolves.refl l

theorem Evolves.trans {l m n : List Segment} (h1 : Evolves l m) (h2 : Evolves m n) : Evolves l n := by
  induction h1 generalizing n with
  | nil => exact h2
  | cons hr _ ih =>
    cases h2 with
    | cons hr2 hl2 => exact .cons (hr.trans hr2) (ih hl2)

/-- A list mapped record by record. -/
theorem evolves_map {f : Segment → Segment} (l : List Segment) (h : ∀ r, Stays r (f r)) : Evolves l (l.map f) := by
  induction l with
  | nil => exact .nil
  | cons r l ih => exact .cons (h r) ih

/-- One record of the list changed. -/
theorem evolves_modSeg {f : Segment → Segment} (t : Tag) (l : List Segment) (h : ∀ r, Stays r (f r)) :
    Evolves l (modSeg t f l) := by
  refine evolves_map l fun r => ?_
  split
  · exact h r
  · exact .refl r

/-- A projection that staying keeps reads the same on the whole list. -/
theorem Evolves.map_eq {α : Type} {l l' : List Segment} (h : Evolves l l') (p : Segment → α)
    (hp : ∀ r r', Stays r r' → p r' = p r) : l'.map p = l.map p := by
  induction h with
  | nil => rfl
  | cons hr _ ih => simp [hp _ _ hr, ih]

theorem Evolves.tags {l l' : List Segment} (h : Evolves l l') : l'.map Segment.tag = l.map Segment.tag :=
  h.map_eq _ fun _ _ hr => hr.bound.1

theorem Evolves.length {l l' : List Segment} (h : Evolves l l') : l'.length = l.length :=
  (List.Forall₂.length_eq h).symm

/-- Every record of the later list stays from one of the earlier. -/
theorem Evolves.mem {l l' : List Segment} (h : Evolves l l') {r' : Segment} (hr : r' ∈ l') : ∃ r ∈ l, Stays r r' := by
  induction h with
  | nil => cases hr
  | cons hx _ ih =>
    rcases List.mem_cons.mp hr with rfl | hr
    · exact ⟨_, List.mem_cons_self, hx⟩
    · obtain ⟨r, hmem, hstays⟩ := ih hr
      exact ⟨r, List.mem_cons_of_mem _ hmem, hstays⟩

/-- Every record of the earlier list stays as one of the later. -/
theorem Evolves.mem_left {l l' : List Segment} (h : Evolves l l') {r : Segment} (hr : r ∈ l) :
    ∃ r' ∈ l', Stays r r' := by
  induction h with
  | nil => cases hr
  | cons hx _ ih =>
    rcases List.mem_cons.mp hr with rfl | hr
    · exact ⟨_, List.mem_cons_self, hx⟩
    · obtain ⟨r, hmem, hstays⟩ := ih hr
      exact ⟨r, List.mem_cons_of_mem _ hmem, hstays⟩

/-! ### The changes of one record -/

theorem stays_flags (r : Segment) (f : Flags → Flags) (h : ∀ x : Flags, (x.lostLines = true → (f x).lostLines = true)
      ∧ (x.aborted = true → (f x).aborted = true) ∧ (x.spoiled = true → (f x).spoiled = true)
      ∧ (x.offBand = true → (f x).offBand = true) ∧ (x.dwellShort = true → (f x).dwellShort = true)
      ∧ (x.barMissed = true → (f x).barMissed = true) ∧ (f x).pitchClamped = x.pitchClamped) :
    Stays r (r.setFlags f) := by
  obtain ⟨h1, h2, h3, h4, h5, h6, h7⟩ := h r.flags
  exact ⟨by simp [SameBound, Segment.setFlags], ⟨le_refl _, le_refl _, le_refl _, id, h1, h2, h3, h4, h5, h6, h7,
    fun _ => id⟩,
    min_le_right _ _⟩

theorem fillStateNumber_le_sealed (x : FillState) : fillStateNumber x ≤ fillStateNumber .sealed := by
  cases x <;> decide

theorem printStateNumber_le_printed (x : PrintState) : printStateNumber x ≤ printStateNumber .printed := by
  cases x <;> decide

theorem calenderStateNumber_le_retired (x : CalenderState) : calenderStateNumber x ≤ calenderStateNumber .retired := by
  cases x <;> decide

theorem stays_sealed (r : Segment) : Stays r { r with fill := .sealed } :=
  ⟨by simp [SameBound], by simp [Advanced, fillStateNumber_le_sealed], min_le_right _ _⟩

theorem stays_traceSent (r : Segment) : Stays r { r with traceSent := true } :=
  ⟨by simp [SameBound], by simp [Advanced], min_le_right _ _⟩

theorem stays_dwell (r : Segment) (d : Option Nat) : Stays r { r with dwell := d } :=
  ⟨by simp [SameBound], by simp [Advanced], min_le_right _ _⟩

theorem stays_printed (r : Segment) : Stays r { r with print := .printed } :=
  ⟨by simp [SameBound], by simp [Advanced, printStateNumber_le_printed], min_le_right _ _⟩

theorem stays_dwellStep (g : LineGroup) (v : Nat) (r : Segment) : Stays r (dwellStep g v r).1 := by
  unfold dwellStep
  split
  · exact .refl r
  · split
    · split
      · exact (stays_dwell r none).trans (stays_flags _ (fun f => { f with dwellShort := true })
          fun _ => ⟨id, id, id, id, fun _ => rfl, id, rfl⟩)
      · exact stays_dwell r _
    · exact stays_dwell r _

theorem stays_lostLine (r : Segment) :
    Stays r (({ r with lost := min 65535 (r.lost + 1) } : Segment).setFlags fun f => { f with lostLines := true }) :=
  ⟨by simp [SameBound, Segment.setFlags], by simp [Advanced, Segment.setFlags], by simp only [Segment.setFlags]; omega⟩

theorem stays_printTest (s : State) (r : Segment) : Stays r (printTest s r) := by
  unfold printTest
  split
  · exact stays_printed r
  · exact .refl r

theorem stays_printing (r : Segment) (h : r.print = .waiting) : Stays r { r with print := .printing } :=
  ⟨by simp [SameBound], by simp [Advanced, h, printStateNumber], min_le_right _ _⟩

theorem stays_printedBy (r : Segment) (k : Bar) : Stays r { r with printedBy := r.printedBy.set k true } := by
  refine ⟨by simp [SameBound], ⟨le_refl _, le_refl _, le_refl _, id, id, id, id, id, id, id, rfl, fun j hj => ?_⟩,
    min_le_right _ _⟩
  simp only [Fin.getElem_fin, Vector.getElem_set]
  split
  · rfl
  · exact hj

theorem stays_enterArc (r : Segment) (d : Option Nat) (h : r.calender = .approach) :
    Stays r { r with calender := .inArc, dwell := d } :=
  ⟨by simp [SameBound], by simp [Advanced, h, calenderStateNumber], min_le_right _ _⟩

theorem stays_retired (r : Segment) : Stays r (retiredRecord r) := by
  have hlast : ∀ x : Segment, Stays x { x with print := .printed, calender := .retired, dwell := none } := fun x =>
    ⟨by simp [SameBound], by simp [Advanced, printStateNumber_le_printed, calenderStateNumber_le_retired],
      min_le_right _ _⟩
  unfold retiredRecord
  split
  · exact hlast r
  · exact (stays_flags r _ (by simp)).trans (hlast _)

/-! ### The operations that take no record out and put none in -/

theorem evolves_spoilArc (s : State) : Evolves s.rls (spoilArc s).rls := by
  refine evolves_map _ fun r => ?_
  split
  · exact stays_flags r _ (by simp)
  · exact .refl r

theorem evolves_enterStopping (c : StopCause) (s : State) : Evolves s.rls (enterStopping c s).rls := by
  unfold enterStopping
  split
  · simpa using evolves_spoilArc s
  · simpa using Evolves.refl s.rls

theorem evolves_stopReaction (s : State) : Evolves s.rls (stopReaction s).rls := by
  unfold stopReaction
  split
  · exact evolves_enterStopping _ s
  · exact evolves_enterStopping _ s
  all_goals exact .refl _

theorem evolves_handReaction (s : State) : Evolves s.rls (handReaction s).rls := by
  unfold handReaction
  simp only
  split
  · exact .refl _
  · split
    · simpa using evolves_stopReaction (s.modAlc _)
    · simpa using Evolves.refl s.rls

theorem evolves_ltxChoose (s : State) : Evolves s.rls (ltxChoose s).rls := by
  unfold ltxChoose
  (repeat' split) <;> first
    | exact .refl _
    | exact evolves_modSeg _ _ stays_traceSent

/-- The end of an event marks at most one record's trace and spoils those in the arc (R96, R124). -/
theorem evolves_settle (s : State) : Evolves s.rls (settle s).rls := by
  have h := (evolves_handReaction (logAndEvaluate s)).trans (evolves_ltxChoose _)
  simpa [settle] using h

theorem evolves_stopDirective (s : State) : Evolves s.rls (stopDirective s).rls := by
  unfold stopDirective
  split
  · simpa using Evolves.refl s.rls
  · exact evolves_enterStopping _ s
  all_goals exact .refl _

theorem evolves_dwellRecord (s : State) (t : Tag) : Evolves s.rls (dwellRecord s t).rls := by
  unfold dwellRecord
  split
  · exact .refl _
  · simp only
    split <;> exact evolves_modSeg _ _ (stays_dwellStep _ _)

/-- A fold of changes is a change. -/
theorem evolves_foldl {α : Type} (f : State → α → State) (h : ∀ s a, Evolves s.rls (f s a).rls) (l : List α)
    (s : State) :
    Evolves s.rls (l.foldl f s).rls := by
  induction l generalizing s with
  | nil => exact .refl _
  | cons a l ih => exact (h s a).trans (ih (f s a))

theorem evolves_sampleLine (s : State) : Evolves s.rls (sampleLine s).rls := by
  simpa [sampleLine, dwellSample] using
    evolves_foldl dwellRecord evolves_dwellRecord (s.rls.map Segment.tag) (moveReference (formSpeed (measureSpeed s)))

theorem evolves_sealSegment (t : Tag) (s : State) : Evolves s.rls (sealSegment t s).rls := by
  have h : Evolves s.rls (modSeg t (fun r => { r with fill := .sealed }) s.rls) := evolves_modSeg _ _ stays_sealed
  unfold sealSegment
  simp only
  split
  · split <;> simpa using h
  · simpa using h

theorem evolves_fillNextLine (t : Tag) (n lines : Nat) (s : State) : Evolves s.rls (fillNextLine t n lines s).rls := by
  unfold fillNextLine
  split
  · exact .refl _
  · exact evolves_sealSegment t s

theorem evolves_commitLine (seg : Tag) (line offset count : Nat) (s : State) :
    Evolves s.rls (commitLine seg line offset count s).rls := by
  unfold commitLine
  split
  · exact .refl _
  · simp only
    split
    · refine .trans ?_ (evolves_fillNextLine _ _ _ _)
      exact .refl _
    · exact .refl _

theorem evolves_completeLine (s : State) : Evolves s.rls (completeLine s).rls := by
  unfold completeLine
  simp only
  split
  · split <;> simpa using evolves_commitLine _ _ _ _ (s.modLrx _)
  all_goals simpa using Evolves.refl s.rls

theorem evolves_declareLost (r : Segment) (n : Nat) (s : State) : Evolves s.rls (declareLost r n s).rls := by
  have h := evolves_fillNextLine r.tag n r.lines (s.setLst (releaseFilling r.tag n s.lst))
  simpa [declareLost] using h.trans (evolves_modSeg r.tag _ stays_lostLine)

theorem evolves_fireOrMiss (k : Bar) (r : Segment) (n : Nat) (s : State) : Evolves s.rls (fireOrMiss k r n s).rls := by
  unfold fireOrMiss
  split
  · exact .refl _
  · exact evolves_modSeg _ _ fun r => stays_flags r _ (by simp)
  · exact .refl _

theorem evolves_reportHandling (k : Bar) (t : Tag) (n : Nat) (s : State) :
    Evolves s.rls (reportHandling k t n s).rls := by
  refine evolves_modSeg _ _ fun r => ?_
  have h : Stays r (if k = bar1 ∧ n = 0 ∧ r.print = .waiting then { r with print := .printing } else r) := by
    split
    · next hw => exact stays_printing r hw.2.2
    · exact .refl r
  simp only
  split
  · exact h.trans ((stays_printedBy _ k).trans (stays_printTest s _))
  · exact h

theorem evolves_handleLine (k : Bar) (r : Segment) (n : Nat) (s : State) : Evolves s.rls (handleLine k r n s).rls := by
  unfold handleLine
  simp only
  split
  · exact (evolves_declareLost r n s).trans ((evolves_fireOrMiss k r n _).trans (evolves_reportHandling _ _ _ _))
  · exact (evolves_fireOrMiss k r n _).trans (evolves_reportHandling _ _ _ _)

theorem evolves_handleDue (k : Bar) (fuel : Nat) (s : State) : Evolves s.rls (handleDue k fuel s).rls := by
  induction fuel generalizing s with
  | zero => exact .refl _
  | succ fuel ih =>
    unfold handleDue
    split
    · exact .refl _
    · split
      · exact .refl _
      · split
        · exact (evolves_handleLine _ _ _ s).trans (ih _)
        · exact .refl _

theorem evolves_barAdvance (s : State) (k : Bar) : Evolves s.rls (barAdvance s k).rls := by
  unfold barAdvance
  simp only
  split
  · simpa using evolves_handleDue k _ (s.modBar k _)
  · exact .refl _

theorem evolves_barsAdvance (s : State) : Evolves s.rls (barsAdvance s).rls := by
  simpa [barsAdvance] using evolves_foldl barAdvance evolves_barAdvance allBars s

theorem evolves_barConfigEffect (en : Vector Bool 6) (s : State) : Evolves s.rls (barConfigEffect en s).rls := by
  simpa [barConfigEffect] using evolves_map s.rls (stays_printTest _)

theorem evolves_enterArc (t : Tag) (s : State) : Evolves s.rls (enterArc t s).rls := by
  refine evolves_modSeg _ _ fun r => ?_
  split
  · next h => exact stays_enterArc r _ h.1
  · exact .refl r

theorem evolves_retireAt (t : Tag) (s : State) : Evolves s.rls (retireAt t s).rls := by
  unfold retireAt
  split
  · split
    · simpa using evolves_modSeg _ _ stays_retired
    · exact .refl _
  · exact .refl _

theorem evolves_calenderAdvance (s : State) : Evolves s.rls (calenderAdvance s).rls :=
  evolves_foldl (fun acc t => retireAt t (enterArc t acc))
    (fun s t => (evolves_enterArc t s).trans (evolves_retireAt t _)) _ s

/-- The list after an increase of P is the one that the calender transitions leave (R86). -/
theorem increaseOfP_rls (s : State) :
    (increaseOfP s).rls = (calenderAdvance (tensionQualify (advanceTaper (barsAdvance
      (raiseHigh (s.setMou { s.mou with p := s.mou.p + 1 })))))).rls := by
  simp only [increaseOfP, apply_ite State.rls, formHeat_rls, formSpeed_rls, ite_self]

theorem evolves_increaseOfP (s : State) : Evolves s.rls (increaseOfP s).rls := by
  rw [increaseOfP_rls]
  generalize hu : raiseHigh (s.setMou { s.mou with p := s.mou.p + 1 }) = u
  have hrls : u.rls = s.rls := by rw [← hu]; rfl
  have h1 : Evolves s.rls (barsAdvance u).rls := by
    rw [← hrls]
    exact evolves_barsAdvance u
  exact h1.trans (by simpa using evolves_calenderAdvance (tensionQualify (advanceTaper (barsAdvance u))))

theorem evolves_encoderLevels (a b : Bool) (s : State) : Evolves s.rls (encoderLevels a b s).rls := by
  unfold encoderLevels countEdge
  split
  · split
    · refine .trans (.of_eq ?_) (evolves_increaseOfP _)
      rfl
    · exact .refl _
  · split <;> exact .refl _
  · exact .refl _

theorem evolves_heatSampleEvent (e : Vector (Option Int) 4) (s : State) : Evolves s.rls (heatSampleEvent e s).rls := by
  have h : ∀ u : State, Evolves u.rls (flagOffBand u).rls := by
    refine fun u => evolves_map _ fun r => ?_
    split
    · exact stays_flags r _ (by simp)
    · exact .refl r
  simpa [heatSampleEvent] using h (judgeHeatFlag .heatSensor (fun z => z.missing) s.htc
    (judgeHeatFlag .overTemp (fun z => z.overTemp) s.htc (s.modHtc (heatZoneSteps e))))

theorem evolves_abortFlags (t : Tag) (s : State) : Evolves s.rls (abortFlags t s).rls :=
  evolves_modSeg _ _ fun r => stays_flags r _ (by simp)

theorem evolves_abortPrinting (r : Segment) (s : State) : Evolves s.rls (abortPrinting r s).rls := by
  unfold abortPrinting
  simp only
  split
  · split
    · have h := evolves_sealSegment r.tag ((abortFlags r.tag s).setLst
        (releaseFilling r.tag ‹FillCursor›.line (abortFlags r.tag s).lst))
      simpa using (evolves_abortFlags r.tag s).trans h
    · exact evolves_abortFlags _ s
  · exact evolves_abortFlags _ s

/-! ### The operations that take a record out or put one in -/

/-- What one event can do to the list: let its records advance, take records out, or put one in whose tag is new. -/
inductive Changes (l : List Segment) : List Segment → Prop where
  | evolves {l' : List Segment} (h : Evolves l l') : Changes l l'
  | removes {l' : List Segment} (h : l'.Sublist l) : Changes l l'
  | opens (r : Segment) (h : ∀ x ∈ l, x.tag ≠ r.tag) : Changes l (l ++ [r])

theorem Changes.of_eq {l l' : List Segment} (h : l' = l) : Changes l l' :=
  .evolves (.of_eq h)

theorem removeSegment_rls (t : Tag) (s : State) :
    (removeSegment t s).rls = s.rls.filter fun r => !decide (r.tag = t) := by
  simp [removeSegment]

theorem changes_frameSent (s : State) : Changes s.rls (frameSent s).rls := by
  unfold frameSent
  split
  · unfold traceDone
    split
    · split
      · exact .removes (by rw [removeSegment_rls]; exact List.filter_sublist)
      · exact .of_eq rfl
    · exact .of_eq rfl
  all_goals exact .of_eq rfl

theorem addSegment_rls (r : Segment) (s : State) : (addSegment r s).rls = s.rls ++ [r] := by
  simp only [addSegment]
  split <;> simp [bindBank]

/-- A SEGMENT_OPEN that passes its object check names a new tag (R107). -/
theorem tag_new_of_openObject {s : State} {slot : Fin 8} {tag : Tag} (h : openObject s slot tag = none) :
    ∀ r ∈ s.rls, r.tag ≠ tag := by
  unfold openObject at h
  split at h
  · cases h
  · split at h
    · cases h
    · split at h
      · cases h
      · next hfind => exact findSeg_none.mp (by simpa using hfind)

theorem openObject_of_refusal {s : State} {slot : Byte} {seg : Tag} {lines : W16} {gap : W32}
    (h : refusal s (.segmentOpen slot seg lines gap) = none) : openObject s (slotOf slot) seg = none := by
  unfold refusal at h
  split at h
  · cases h
  · split at h
    · cases h
    · simp only [objectCheck] at h
      split at h
      · cases h
      · next hopen => exact hopen

theorem abortWaiting_rls (r : Segment) (s : State) :
    (abortWaiting r s).rls = s.rls.filter fun x => !decide (x.tag = r.tag) := by
  simp only [abortWaiting]
  split <;> simp [removeSegment_rls]

theorem clearEffect_rls (s : State) : (clearEffect s).rls = [] := by
  simp [clearEffect]

/-- An execution that passed its checks changes the list in one of the three ways. -/
theorem changes_perform (s : State) (r : Request) (hpass : refusal s r = none) :
    Changes s.rls (perform r s).1.rls := by
  cases r
  case segmentOpen slot seg lines gap =>
    simp only [perform, openEffect]
    split
    · rw [addSegment_rls]
      exact .opens _ (tag_new_of_openObject (openObject_of_refusal hpass))
    · exact .of_eq rfl
  case segmentAbort seg =>
    simp only [perform, abortEffect]
    split
    · exact .of_eq rfl
    · split
      · exact .removes (by rw [abortWaiting_rls]; exact List.filter_sublist)
      · exact .evolves (evolves_abortPrinting _ s)
      · exact .evolves (evolves_abortFlags _ s)
  case clearLine =>
    exact .removes (by simp only [perform, clearEffect_rls]; exact List.nil_sublist _)
  case barConfig bars => exact .evolves (evolves_barConfigEffect _ s)
  case stop => exact .evolves (evolves_stopDirective s)
  all_goals exact .of_eq (by simp [perform])

theorem changes_startExecution (f : Frame) (s : State) : Changes s.rls (startExecution f s).rls := by
  have hexecute : Changes s.rls (executeFrame f (s.setCmuSlot true)).1.rls := by
    unfold executeFrame
    split
    · exact .of_eq rfl
    · next r _ =>
      split
      · exact .of_eq rfl
      · next hpass => exact changes_perform _ r hpass
  unfold startExecution
  split
  · split
    · next s1 _ _ _ heq =>
      rw [heq] at hexecute
      simpa using hexecute
    · next s1 heq =>
      rw [heq] at hexecute
      exact hexecute
  · exact .of_eq (by simp)

theorem changes_event {s t : State} (h : Event s t) : Changes s.rls t.rls := by
  cases h
  case frameSent => exact changes_frameSent s
  case encoderEdge a b => exact .evolves (evolves_encoderLevels a b s)
  case lineSample => exact .evolves (evolves_sampleLine s)
  case heatSample e => exact .evolves (evolves_heatSampleEvent e s)
  case hardwareReset => exact .removes (by simp [resetBlocks, State.reset])
  all_goals exact .of_eq (by simp)

/-- What one step makes of the list: one change, between advances of its records. -/
def StepOfList (l l' : List Segment) : Prop :=
  ∃ m m', Evolves l m ∧ Changes m m' ∧ Evolves m' l'

theorem StepOfList.of_evolves {l l' : List Segment} (h : Evolves l l') : StepOfList l l' :=
  ⟨l, l', .refl l, .evolves h, .refl l'⟩

theorem stepOfList_runExecute {l : List Segment} (s : State) (h : Evolves l s.rls) :
    StepOfList l (runExecute s).rls := by
  unfold runExecute
  split
  · exact ⟨_, _, h, changes_startExecution _ s, evolves_settle _⟩
  · exact .of_evolves h

theorem stepOfList_takeControl {l : List Segment} (f : Frame) (s : State) (h : Evolves l s.rls) :
    StepOfList l (takeControl f s).rls := by
  have hsettled : Evolves l (settle (intakeFrame f s)).rls :=
    h.trans (by simpa using evolves_settle (intakeFrame f s))
  unfold takeControl
  split
  · exact stepOfList_runExecute _ hsettled
  · exact .of_evolves hsettled

theorem stepOfList_taken {s t : State} (h : Taken s t) : StepOfList s.rls t.rls := by
  have hsettled : ∀ u : State, Evolves s.rls u.rls → Evolves s.rls (settle u).rls :=
    fun u hu => hu.trans (evolves_settle u)
  cases h with
  | event h => exact ⟨_, _, .refl _, changes_event h, evolves_settle _⟩
  | endMark =>
    unfold takeEnd
    split
    · exact .of_evolves (.refl _)
    · exact .of_evolves (.refl _)
    · exact .of_evolves (hsettled _ (.of_eq (by simp)))
    · exact .of_evolves (hsettled _ (.of_eq (by simp)))
    · split
      · exact .of_evolves (hsettled _ (.of_eq (by simp)))
      · split
        · split
          · exact .of_evolves (hsettled _ (by simpa using evolves_completeLine (goodFrame s)))
          · exact stepOfList_takeControl _ _ (.of_eq (by simp))
        · exact .of_evolves (hsettled _ (.of_eq (by simp)))
  | control f => exact stepOfList_takeControl f s (.refl _)
  | bankCheckEnd =>
    unfold checkEnds
    split
    · exact stepOfList_runExecute _ (hsettled _ (.of_eq (by simp)))
    · exact .of_evolves (.refl _)

/-- A record of the list after a step stays from one before it, or its tag is new. -/
theorem StepOfList.mem {l l' : List Segment} (h : StepOfList l l') {r' : Segment} (hr : r' ∈ l') :
    (∃ r ∈ l, Stays r r') ∨ ∀ r ∈ l, r.tag ≠ r'.tag := by
  obtain ⟨m, m', hl, hchange, hl'⟩ := h
  obtain ⟨x', hx', hlast⟩ := hl'.mem hr
  have hback : x' ∈ m → ∃ r ∈ l, Stays r r' := fun hx => by
    obtain ⟨r, hr, hfirst⟩ := hl.mem hx
    exact ⟨r, hr, hfirst.trans hlast⟩
  cases hchange with
  | evolves h =>
    obtain ⟨x, hx, hmid⟩ := h.mem hx'
    obtain ⟨r, hr, hfirst⟩ := hl.mem hx
    exact .inl ⟨r, hr, hfirst.trans (hmid.trans hlast)⟩
  | removes h => exact .inl (hback (h.subset hx'))
  | opens y hnew =>
    rcases List.mem_append.mp hx' with hx | hy
    · exact .inl (hback hx)
    · obtain rfl := List.mem_singleton.mp hy
      refine .inr fun r hr e => ?_
      obtain ⟨x, hx, hfirst⟩ := hl.mem_left hr
      exact hnew x hx (hfirst.bound.1.trans (e.trans hlast.bound.1))

/-- With no two records of one tag, a record of one tag before and after a step stays. -/
theorem StepOfList.stays {l l' : List Segment} (h : StepOfList l l') (hn : (l.map Segment.tag).Nodup) {r r' : Segment}
    (hr : r ∈ l) (hr' : r' ∈ l') (htag : r'.tag = r.tag) : Stays r r' := by
  rcases h.mem hr' with ⟨x, hx, hstays⟩ | hnew
  · have hxr : x.tag = r.tag := hstays.bound.1.symm.trans htag
    rwa [List.inj_on_of_nodup_map hn hx hr hxr] at hstays
  · exact absurd htag.symm (hnew r hr)

/-- Settles O17: the event of a step makes one change to the list, and every other operation lets its records advance.
-/
theorem recordsOnlyAdvance : Obligations.RecordsOnlyAdvance := by
  intro s t hn hstep r hr r' hr' htag
  have hstays : Stays r r' := by
    rcases step_taken hstep with rfl | ⟨rest, htaken⟩
    · rw [List.inj_on_of_nodup_map hn hr' hr htag]
      exact .refl r
    · exact (stepOfList_taken htaken).stays hn hr hr' htag
  exact ⟨hstays.bound, hstays.advanced, fun hmax => (min_eq_right hmax).symm.trans_le hstays.lost⟩

end Sys2Proof.Machine
end

section
/-! SUPPORT and the settling of O12. What a sample event makes of one heat zone (R149, R154 to R158, R162, R163), and
the ranges of the heater and trim outputs (R77, R148, R156). -/

namespace Sys2Proof.Machine

/-! ### One zone in a sample event -/

/-- A heat zone after its step, by its entry of the sample set (R149). -/
def zoneStepped (h : Htc) (i : Fin 4) (entry : Option Int) (z : HeatZone) : HeatZone :=
  match entry with
  | some m => heatReading h.group i (heatZoneTarget h i) h.band m z
  | none => heatAbsent z

/-- A zone's step reads nothing that another zone's step changes (R149). -/
theorem heatZoneSteps_zone (e : Vector (Option Int) 4) (h : Htc) (i : Fin 4) :
    (heatZoneSteps e h).zones[i] = zoneStepped h i e[i] h.zones[i] := by
  have hstep : ∀ (g : Htc) (j : Fin 4), heatZoneStep j e[j] g
      = { g with zones := vmod g.zones j (zoneStepped g j e[j]) } := fun _ _ => rfl
  simp only [heatZoneSteps, allHeatZones, List.foldl_cons, List.foldl_nil, hstep]
  have hcongr : ∀ (g : Htc) (j : Fin 4) (x : Option Int), g.group = h.group → g.target = h.target → g.band = h.band →
      zoneStepped g j x = zoneStepped h j x := by
    intro g j x h1 h2 h3
    funext z
    simp [zoneStepped, heatZoneTarget, h1, h2, h3]
  fin_cases i <;> simp [vmod, hcongr]

/-- What the grade test leaves of a zone: everything but the two counters (R162, R163). -/
theorem gradeTest_zone (s : State) (i : Fin 4) :
    (gradeTest s).htc.zones[i] = s.htc.zones[i]
      ∨ (gradeTest s).htc.zones[i] = { s.htc.zones[i] with sat := 0, recov := 0 }
      ∨ (gradeTest s).htc.zones[i] = { s.htc.zones[i] with sat := 0 }
      ∨ (gradeTest s).htc.zones[i] = { s.htc.zones[i] with recov := 0 } := by
  generalize h : gradeTest s = t
  simp only [gradeTest] at h
  (repeat' split at h) <;> subst h <;> simp [clearSat, clearRecov, -Fin.getElem_fin]

/-- A sample event changes the zones by their steps and by the grade test alone (R149). -/
theorem heatSampleEvent_eq (e : Vector (Option Int) 4) (s : State) :
    ∃ u : State, heatSampleEvent e s = gradeTest u ∧ u.htc.zones = (heatZoneSteps e s.htc).zones
      ∧ u.htc.group = s.htc.group ∧ u.htc.grade = s.htc.grade :=
  ⟨_, rfl, by simp, by simp, by simp⟩

/-! ### Heat zones in range -/

theorem clampInt_ge (x low high : Int) : low ≤ clampInt x low high := le_max_left _ _

theorem clampInt_le {x low high : Int} (h : low ≤ high) : clampInt x low high ≤ high :=
  max_le h (min_le_right _ _)

theorem heatInteg_range (ki : Nat) (e : Int) (z : HeatZone) : 0 ≤ heatInteg ki e z ∧ heatInteg ki e z ≤ 256000 := by
  unfold heatInteg
  split <;> exact ⟨clampInt_ge _ _ _, clampInt_le (by decide)⟩

/-- The loop's output is in range, and 0 for a zone that is too hot (R155, R156). -/
theorem heatLoop_range (kp ki : Nat) (z : HeatZone) (h : 0 ≤ z.integ ∧ z.integ ≤ 256000) :
    0 ≤ (heatLoop kp ki z).output ∧ (heatLoop kp ki z).output ≤ 1000 ∧ 0 ≤ (heatLoop kp ki z).integ
      ∧ (heatLoop kp ki z).integ ≤ 256000 ∧ ((heatLoop kp ki z).overTemp = true → (heatLoop kp ki z).output = 0)
      ∧ (heatLoop kp ki z).missing = z.missing ∧ (heatLoop kp ki z).missCount = z.missCount := by
  unfold heatLoop
  split
  · simpa using h
  · next hcool =>
    have hi := heatInteg_range ki (z.setpoint - z.measured) z
    exact ⟨clampInt_ge _ _ _, clampInt_le (by decide), hi.1, hi.2, fun hot => absurd hot hcool, rfl, rfl⟩

theorem heatZoneOk_reading (g : HeatGroup) (i : Fin 4) (target : Int) (band : Nat) (m : Int) (z : HeatZone)
    (h : HeatZoneOk z) : HeatZoneOk (heatReading g i target band m z) := by
  obtain ⟨-, -, hi0, hi1, -, -, -⟩ := h
  obtain ⟨h1, h2, h3, h4, h5, h6, h7⟩ := heatLoop_range g.kp[i] g.ki[i]
    { heatRecord g.ramp target m z with overTemp := heatOver g.overLimit (heatRecord g.ramp target m z) } ⟨hi0, hi1⟩
  refine ⟨h1, h2, h3, h4, ?_, ?_, ?_⟩
  · simp only [heatReading, heatCounters]
    split <;> omega
  · exact h7.trans_le (Nat.zero_le _)
  · rintro (hot | hmissing)
    · exact h5 hot
    · exact absurd (h6.symm.trans hmissing) (by simp [heatRecord])

theorem heatZoneOk_absent (z : HeatZone) (h : HeatZoneOk z) : HeatZoneOk (heatAbsent z) := by
  obtain ⟨h1, h2, h3, h4, h5, h6, h7⟩ := h
  unfold heatAbsent
  split
  · exact ⟨h1, h2, h3, h4, h5, by simp only; omega, h7⟩
  · split
    · exact ⟨h1, h2, h3, h4, h5, le_refl 4, h7⟩
    · exact ⟨le_refl 0, by simp, h3, h4, Nat.zero_le _, le_refl 4, fun _ => rfl⟩

theorem heatZoneOk_stepped (h : Htc) (i : Fin 4) (entry : Option Int) (z : HeatZone) (hz : HeatZoneOk z) :
    HeatZoneOk (zoneStepped h i entry z) := by
  cases entry with
  | some m => exact heatZoneOk_reading _ _ _ _ _ _ hz
  | none => exact heatZoneOk_absent _ hz

/-! ### Tension zones in range -/

theorem windowCheck_frame (g : TensionGroup) (e : Int) (z : TensionRec) :
    (windowCheck g e z).output = z.output ∧ (windowCheck g e z).integ = z.integ := by
  unfold windowCheck
  simp only
  (repeat' split) <;> simp

theorem breakCheck_frame (g : TensionGroup) (v reading : Nat) (z : TensionRec) :
    (breakCheck g v reading z).output = z.output ∧ (breakCheck g v reading z).integ = z.integ := by
  unfold breakCheck
  simp only
  (repeat' split) <;> simp

theorem tensionInteg_range (ki : Nat) (e : Int) (z : TensionRec) :
    -256000 ≤ tensionInteg ki e z ∧ tensionInteg ki e z ≤ 256000 := by
  unfold tensionInteg
  split <;> exact ⟨clampInt_ge _ _ _, clampInt_le (by decide)⟩

theorem tensionZoneOk_loop (g : TensionGroup) (kp ki : Nat) (target : Int) (v reading : Nat) (z : TensionRec) :
    TensionZoneOk (tensionLoop g kp ki target v reading z) := by
  have hi := tensionInteg_range ki (target - reading) z
  simp only [tensionLoop, TensionZoneOk, breakCheck_frame, windowCheck_frame]
  exact ⟨clampInt_ge _ _ _, clampInt_le (by decide), hi.1, hi.2⟩

/-! ### The invariant -/

/-- The outputs are a matter of the zones. -/
theorem outputsOk_congr {s t : State} (h1 : t.htc.zones = s.htc.zones) (h2 : t.tnc.zones = s.tnc.zones)
    (h : OutputsOk s) : OutputsOk t := by
  unfold OutputsOk
  rw [h1, h2]
  exact h

/-- One tension zone changed, its ranges kept. -/
theorem outputsOk_tensionZone {s t : State} (i : Fin 3) (f : TensionRec → TensionRec)
    (hf : ∀ z, TensionZoneOk z → TensionZoneOk (f z)) (h1 : t.htc.zones = s.htc.zones)
    (h2 : t.tnc.zones = vmod s.tnc.zones i f) (h : OutputsOk s) : OutputsOk t := by
  refine ⟨by rw [h1]; exact h.1, fun j => ?_⟩
  rw [h2]
  by_cases hj : j = i
  · subst hj
    rw [vmod_same]
    exact hf _ (h.2 j)
  · rw [vmod_other _ _ _ _ hj]
    exact h.2 j

theorem outputsOk_heatSample (e : Vector (Option Int) 4) (s : State) (h : OutputsOk s) :
    OutputsOk (heatSampleEvent e s) := by
  refine ⟨fun i => ?_, by simpa using h.2⟩
  obtain ⟨u, heq, hzones, -⟩ := heatSampleEvent_eq e s
  have hu : HeatZoneOk u.htc.zones[i] := by
    rw [hzones, heatZoneSteps_zone]
    exact heatZoneOk_stepped _ _ _ _ (h.1 i)
  rw [heq]
  obtain ⟨h1, h2, h3, h4, h5, h6, h7⟩ := hu
  rcases gradeTest_zone u i with hg | hg | hg | hg <;> rw [hg]
  · exact ⟨h1, h2, h3, h4, h5, h6, h7⟩
  · exact ⟨h1, h2, h3, h4, Nat.zero_le _, h6, h7⟩
  · exact ⟨h1, h2, h3, h4, Nat.zero_le _, h6, h7⟩
  · exact ⟨h1, h2, h3, h4, h5, h6, h7⟩

/-- CLEAR_LINE clears the counters of the heat zones alone (R166). -/
theorem outputsOk_clearEffect (s : State) (h : OutputsOk s) : OutputsOk (clearEffect s) := by
  refine ⟨fun i => ?_, by simpa using h.2⟩
  have hzone : (clearEffect s).htc.zones[i] = { s.htc.zones[i] with sat := 0, recov := 0 } := by
    simp [clearEffect, clearHtc, clearSat, -Fin.getElem_fin]
  obtain ⟨h1, h2, h3, h4, h5, h6, h7⟩ := h.1 i
  rw [hzone]
  exact ⟨h1, h2, h3, h4, Nat.zero_le _, h6, h7⟩

theorem outputsOk_perform (s : State) (r : Request) (h : OutputsOk s) : OutputsOk (perform r s).1 := by
  cases r
  case clearLine => exact outputsOk_clearEffect s h
  all_goals exact outputsOk_congr (by simp [perform]) (by simp [perform]) h

theorem outputsOk_taken (s t : State) (hs : OutputsOk s) (h : Taken s t) : OutputsOk t := by
  apply path_keeps (P := OutputsOk) (s := s) (t := t) (hs := hs) (h := h)
  case hsame => exact fun s t hst => outputsOk_congr (by rw [hst.htc]) (by rw [hst.tnc])
  case hreading =>
    refine fun s z n => outputsOk_tensionZone (tensionIndex z) _ ?_ (by simp)
      (by simp [tensionReadingEvent, takeReading]; rfl)
    intro x hx
    split
    · exact hx
    · exact tensionZoneOk_loop _ _ _ _ _ _ _
  case hmissing =>
    intro s z hs
    unfold missingExpired
    split
    · exact outputsOk_tensionZone (tensionIndex z) zoneMissing (fun x hx => hx) (by simp) (by simp) hs
    · exact hs
  case hheat => exact fun s e => outputsOk_heatSample e s
  case hreset =>
    intro s _
    have hreset : OutputsOk State.reset := by decide
    exact outputsOk_congr (by simp [resetBlocks]) (by simp [resetBlocks]) hreset
  case hperform => exact fun s r hs _ _ => outputsOk_perform s r hs
  all_goals
    intros
    refine outputsOk_congr ?_ ?_ ‹OutputsOk _› <;> simp

/-- Settles O12: every zone step and every zone loop clamps what it drives, and nothing else writes an output. -/
theorem outputsKept : Obligations.OutputsKept :=
  fun _ _ hs h => step_keeps (P := OutputsOk) (fun _ _ => id) outputsOk_taken hs h

end Sys2Proof.Machine
end

section
/-! The settling of O9: the nip output, the link timer and the speed target follow the line mode (R20, R91, R100). -/

namespace Sys2Proof.Machine

/-- Only the mode, the nip output, the speed target and the link timer count. -/
theorem modeOutputs_congr {s t : State} (hmode : t.mou.mode = s.mou.mode)
    (hnip : t.mou.nipClosed = s.mou.nipClosed) (htarget : t.mou.target = s.mou.target)
    (htimer : t.lrx.timer = s.lrx.timer) (h : ModeOutputs s) : ModeOutputs t := by
  unfold ModeOutputs
  rw [hmode, hnip, htarget, htimer]
  exact h

/-- Outside RUN the speed target is formed as 0 (R100). -/
theorem speedTarget_eq_zero {s : State} (h : s.mou.mode ≠ .run) : speedTarget s = 0 := if_neg h

theorem modeOutputs_formSpeed {s : State} (h : ModeOutputs s) : ModeOutputs (formSpeed s) :=
  ⟨h.1, h.2.1, speedTarget_eq_zero⟩

theorem modeOutputs_formHeat {s : State} (h : ModeOutputs s) : ModeOutputs (formHeat s) :=
  h

/-- Whatever stood before, an entered mode sets all three (R20, R91, R100). -/
theorem modeOutputs_enterMode (m : LineMode) (s : State) : ModeOutputs (enterMode m s) := by
  refine ⟨rfl, ?_, speedTarget_eq_zero⟩
  show (timerOnMode s.mou.mode m s.line.linkTimeout s.lrx.timer).isSome → m.linkTimed = true
  unfold timerOnMode
  split <;> simp_all

theorem modeOutputs_enterStopping (c : StopCause) (s : State) : ModeOutputs (enterStopping c s) :=
  modeOutputs_enterMode _ _

theorem modeOutputs_stopReaction {s : State} (h : ModeOutputs s) : ModeOutputs (stopReaction s) := by
  unfold stopReaction
  split
  · exact modeOutputs_enterStopping _ _
  · exact modeOutputs_enterStopping _ _
  all_goals exact h

theorem modeOutputs_handReaction {s : State} (h : ModeOutputs s) : ModeOutputs (handReaction s) := by
  unfold handReaction
  simp only
  split
  · exact h
  · refine modeOutputs_formHeat (modeOutputs_formSpeed ?_)
    split
    · exact modeOutputs_stopReaction h
    · exact h

theorem modeOutputs_settle (s : State) (h : ModeOutputs s) : ModeOutputs (settle s) := by
  have hlog : ModeOutputs (logAndEvaluate s) := by
    refine modeOutputs_congr ?_ ?_ ?_ ?_ h <;> simp
  have hhand := modeOutputs_handReaction hlog
  refine modeOutputs_congr ?_ ?_ ?_ ?_ hhand <;> simp [settle]

theorem modeOutputs_sampleLine (s : State) (h : ModeOutputs s) : ModeOutputs (sampleLine s) := by
  have hformed : ModeOutputs (formSpeed (measureSpeed s)) := modeOutputs_formSpeed h
  unfold sampleLine stopTest
  split
  · exact modeOutputs_enterMode _ _
  · refine modeOutputs_congr ?_ ?_ ?_ ?_ hformed <;> simp

theorem modeOutputs_heatSampleEvent (e : Vector (Option Int) 4) (s : State) (h : ModeOutputs s) :
    ModeOutputs (heatSampleEvent e s) := by
  unfold heatSampleEvent
  simp only
  generalize hu : judgeOffBand _ _ = u
  have hbefore : ModeOutputs u := by
    subst hu
    refine modeOutputs_congr ?_ ?_ ?_ ?_ h <;> simp
  have hwarm : ModeOutputs (warmupTest u) := by
    unfold warmupTest
    split
    · unfold warmupComplete
      split
      · exact modeOutputs_enterMode _ _
      · exact hbefore
    · exact hbefore
  refine modeOutputs_congr ?_ ?_ ?_ ?_ hwarm <;> simp

theorem modeOutputs_increaseOfP (s : State) (h : ModeOutputs s) : ModeOutputs (increaseOfP s) := by
  unfold increaseOfP
  simp only
  generalize hu : calenderAdvance _ = u
  have hbefore : ModeOutputs u := by
    subst hu
    refine modeOutputs_congr ?_ ?_ ?_ ?_ h <;> simp
  split <;> split
  · exact modeOutputs_formHeat (modeOutputs_formSpeed hbefore)
  · exact modeOutputs_formHeat hbefore
  · exact modeOutputs_formSpeed hbefore
  · exact hbefore

theorem modeOutputs_encoderLevels (a b : Bool) (s : State) (h : ModeOutputs s) : ModeOutputs (encoderLevels a b s) := by
  unfold encoderLevels countEdge
  split
  · split
    · exact modeOutputs_increaseOfP _ h
    · exact h
  · split <;> exact h
  · exact h

theorem modeOutputs_runDirective (v : Nat) (s : State) (h : ModeOutputs s) : ModeOutputs (runDirective v s) := by
  unfold runDirective
  simp only
  split
  · exact modeOutputs_enterMode _ _
  · exact modeOutputs_enterMode _ _
  · exact modeOutputs_formSpeed h
  all_goals exact h

theorem modeOutputs_stopDirective (s : State) (h : ModeOutputs s) : ModeOutputs (stopDirective s) := by
  unfold stopDirective
  split
  · exact modeOutputs_enterMode _ _
  · exact modeOutputs_enterStopping _ _
  all_goals exact h

/-- An effect that ends by forming both targets keeps the rule where it left the rest alone. -/
theorem modeOutputs_formed {s u : State} (hmode : u.mou.mode = s.mou.mode)
    (hnip : u.mou.nipClosed = s.mou.nipClosed) (htimer : u.lrx.timer = s.lrx.timer) (h : ModeOutputs s) :
    ModeOutputs (formHeat (formSpeed u)) := by
  refine ⟨?_, ?_, speedTarget_eq_zero⟩
  · exact hnip.trans (h.1.trans (by rw [← hmode]; rfl))
  · intro hrun
    exact (congrArg _ hmode).trans (h.2.1 (htimer ▸ hrun))

theorem modeOutputs_perform (s : State) (r : Request) (h : ModeOutputs s) : ModeOutputs (perform r s).1 := by
  cases r
  case run v => exact modeOutputs_runDirective _ s h
  case stop => exact modeOutputs_stopDirective s h
  case heatConfig c =>
    simp only [perform, heatConfigEffect]
    split
    · exact modeOutputs_formHeat h
    · exact modeOutputs_formSpeed (modeOutputs_formHeat h)
  case segmentOpen slot seg lines gap =>
    simp only [perform, openEffect]
    split
    · simp only [addSegment]
      refine modeOutputs_formed ?_ ?_ ?_ h <;> split <;> simp
    · exact h
  case segmentAbort seg =>
    simp only [perform, abortEffect]
    split
    · exact h
    · split
      · simp only [abortWaiting]
        refine modeOutputs_formed ?_ ?_ ?_ h <;> split <;> simp
      all_goals refine modeOutputs_congr ?_ ?_ ?_ ?_ h <;> simp
  case clearLine =>
    have hformed : ModeOutputs (formHeat (formSpeed (clearHtc (clearTnc (clearMou ((overtake .unknownSegment
        ((clearStore (clearPfs s)).setCpa none)).setRls [])))))) := by
      refine modeOutputs_formed ?_ ?_ ?_ h <;> simp
    refine modeOutputs_congr ?_ ?_ ?_ ?_ hformed <;> simp [perform, clearEffect]
  all_goals refine modeOutputs_congr ?_ ?_ ?_ ?_ h <;> simp [perform]

/-- The restarts of a timer that runs keep it to the modes it runs in (R20). -/
theorem modeOutputs_timer {s t : State} (hmode : t.mou.mode = s.mou.mode)
    (hnip : t.mou.nipClosed = s.mou.nipClosed) (htarget : t.mou.target = s.mou.target)
    (htimer : t.lrx.timer.isSome → s.mou.mode.linkTimed = true) (h : ModeOutputs s) : ModeOutputs t := by
  unfold ModeOutputs
  rw [hmode, hnip, htarget]
  exact ⟨h.1, htimer, h.2.2⟩

theorem goodFrame_timer (s : State) :
    (goodFrame s).lrx.timer = if s.mou.mode.linkTimed = true then some s.line.linkTimeout else s.lrx.timer := by
  unfold goodFrame
  simp only
  split <;> split <;> simp

theorem restartTimer_lrx (s : State) :
    (restartTimer s).lrx = { s.lrx with timer := s.lrx.timer.map fun _ => s.line.linkTimeout } := by
  unfold restartTimer
  split
  · next h => simp [h]
  · next h =>
    cases hl : s.lrx
    simp_all

theorem takeIdle_timer (s : State) : (takeIdle s).lrx.timer = s.lrx.timer.map fun _ => s.line.linkTimeout := by
  unfold takeIdle
  simp only
  split <;> simp [restartTimer_lrx]

theorem linkExpired_timer (s : State) : (linkExpired s).lrx.timer = none := by
  unfold linkExpired
  split
  · simp
  · assumption

theorem modeOutputs_event (s t : State) (hs : ModeOutputs s) (h : Event s t) : ModeOutputs t := by
  cases h
  case idleFill =>
    refine modeOutputs_timer (by simp) (by simp) (by simp) (fun h => ?_) hs
    rw [takeIdle_timer, Option.isSome_map] at h
    exact hs.2.1 h
  case linkTimeout =>
    refine modeOutputs_timer (by simp) (by simp) (by simp) (fun h => ?_) hs
    rw [linkExpired_timer] at h
    cases h
  case encoderEdge a b => exact modeOutputs_encoderLevels a b s hs
  case lineSample => exact modeOutputs_sampleLine s hs
  case heatSample e => exact modeOutputs_heatSampleEvent e s hs
  case hardwareReset =>
    have hreset : ModeOutputs State.reset := by decide
    refine modeOutputs_congr ?_ ?_ ?_ ?_ hreset <;> simp [resetBlocks, Mou.reset, State.reset]
  all_goals refine modeOutputs_congr ?_ ?_ ?_ ?_ hs <;> simp

theorem modeOutputs_taken (s t : State) (hs : ModeOutputs s) (h : Taken s t) : ModeOutputs t := by
  apply taken_keeps (P := ModeOutputs) (s := s) (t := t) (hs := hs) (h := h)
  case hsettle => exact modeOutputs_settle
  case hevent => exact modeOutputs_event
  case hperform => exact fun s r hs _ _ => modeOutputs_perform s r hs
  case hgood =>
    intro s hs
    refine modeOutputs_timer (by simp) (by simp) (by simp) (fun h => ?_) hs
    rw [goodFrame_timer] at h
    split at h
    · assumption
    · exact hs.2.1 h
  all_goals
    intros
    refine modeOutputs_congr ?_ ?_ ?_ ?_ ‹ModeOutputs _› <;> simp

/-- Settles O9: a mode is entered in one place, which sets all three, and the targets are formed by the mode. -/
theorem modeOutputsKept : Obligations.ModeOutputsKept :=
  fun _ _ hs h => step_keeps (P := ModeOutputs) (fun _ _ => id) modeOutputs_taken hs h

end Sys2Proof.Machine
end

section
/-! SUPPORT and the settling of O6 and O15. Which source is served next (R177), what a serve makes of the stack and of
the sources that wait (R178, R179), and that the thirteen rounds reach the end of an evaluation. -/

namespace Sys2Proof.Machine

/-! ### The source served next -/

theorem mem_all (src : AlertSource) : src ∈ AlertSource.all := by
  cases src <;> decide

theorem index_injective {src other : AlertSource} (h : src.index = other.index) : src = other := by
  cases src <;> cases other <;> first | rfl | cases h

/-- One step of the choice: the better of the best so far and the next source, if that is eligible (R177). -/
def better (a : Alc) (best : Option AlertSource) (src : AlertSource) : Option AlertSource :=
  if eligible a src then
    match best with
    | none => some src
    | some b => if a.config[b.index].level.getD 0 < a.config[src.index].level.getD 0 then some src else some b
  else best

theorem nextServed_eq (a : Alc) : nextServed a = AlertSource.all.foldl (better a) none := rfl

theorem better_isSome (a : Alc) (best : Option AlertSource) (src : AlertSource) :
    (better a best src).isSome = (best.isSome || eligible a src) := by
  unfold better
  split
  · next h =>
    cases best with
    | none => simp [h]
    | some b => simp only; split <;> simp
  · next h => simp [h]

theorem better_eligible {a : Alc} {best : Option AlertSource} (src : AlertSource)
    (h : ∀ b ∈ best, eligible a b = true) : ∀ b ∈ better a best src, eligible a b = true := by
  unfold better
  split
  · next he =>
    cases best with
    | none => simpa using he
    | some b =>
      simp only
      split
      · simpa using he
      · exact h
  · exact h

theorem foldl_better (a : Alc) (l : List AlertSource) (best : Option AlertSource)
    (h : ∀ b ∈ best, eligible a b = true) :
    (∀ b ∈ l.foldl (better a) best, eligible a b = true)
      ∧ ((l.foldl (better a) best) = none → best = none ∧ ∀ src ∈ l, eligible a src = false) := by
  induction l generalizing best with
  | nil => exact ⟨h, fun hnone => ⟨hnone, fun _ hmem => absurd hmem List.not_mem_nil⟩⟩
  | cons src l ih =>
    obtain ⟨hsome, hnone⟩ := ih (better a best src) (better_eligible src h)
    refine ⟨hsome, fun hend => ?_⟩
    obtain ⟨hbest, hrest⟩ := hnone hend
    have hboth := better_isSome a best src
    rw [hbest] at hboth
    have hfirst : best.isSome = false ∧ eligible a src = false := by simpa using hboth.symm
    refine ⟨by simpa using hfirst.1, fun x hx => ?_⟩
    rcases List.mem_cons.mp hx with rfl | hx
    · exact hfirst.2
    · exact hrest x hx

/-- The source served next is eligible (R177). -/
theorem eligible_of_nextServed {a : Alc} {src : AlertSource} (h : nextServed a = some src) : eligible a src = true :=
  (foldl_better a AlertSource.all none (by simp)).1 src (by rw [← nextServed_eq, h]; rfl)

/-- With none served next, no source is eligible (R177). -/
theorem not_eligible_of_nextServed {a : Alc} (h : nextServed a = none) (src : AlertSource) : eligible a src = false :=
  ((foldl_better a AlertSource.all none (by simp)).2 (by rw [← nextServed_eq, h])).2 src (mem_all src)

/-! ### One serve -/

/-- The stack entry a latched serve pushes (R179). -/
def pushedEntry (a : Alc) (src : AlertSource) : StackEntry where
  source := src
  level := a.config[src.index].level.getD 0
  grade := a.config[src.index].grade
  merge := if src.isCondition then 1 else mergeReported a src
  ctx := ctxOr (pendingCtx a src)

theorem pushedEntry_level {a : Alc} {src : AlertSource} {l : Fin 4} (h : a.config[src.index].level = some l) :
    (pushedEntry a src).level = l := by
  rw [pushedEntry, h]
  rfl

/-- What a serve makes of the occurrences and of the stack (R178, R179). -/
theorem serve_alc (src : AlertSource) (s : State) :
    (serve src s).alc.occ = s.alc.occ.set src.index none
      ∧ (serve src s).alc.stack = (match s.alc.config[src.index].mode with
          | .fast => s.alc.stack
          | .latched => pushedEntry s.alc src :: s.alc.stack) := by
  simp only [serve, queueNotice_alc, State.setAlc_alc]
  cases s.alc.config[src.index].mode <;> simp [pushedEntry]

theorem serve_alc_stack_fast {src : AlertSource} {s : State} (h : s.alc.config[src.index].mode = .fast) :
    (serve src s).alc.stack = s.alc.stack := by
  rw [(serve_alc src s).2, h]

theorem serve_alc_stack_latched {src : AlertSource} {s : State} (h : s.alc.config[src.index].mode = .latched) :
    (serve src s).alc.stack = pushedEntry s.alc src :: s.alc.stack := by
  rw [(serve_alc src s).2, h]

/-! ### The stack in order -/

/-- The stack's own half of `StackOrdered`: levels strictly falling from the top, and no source twice (R180). -/
def StackRising (s : State) : Prop :=
  s.alc.stack.Pairwise (fun a b => b.level < a.level) ∧ (s.alc.stack.map StackEntry.source).Nodup

theorem stackRising_congr {s t : State} (h : t.alc.stack = s.alc.stack) (hs : StackRising s) : StackRising t := by
  unfold StackRising
  rw [h]
  exact hs

theorem stackRising_serve {src : AlertSource} {s : State} (helig : eligible s.alc src = true) (h : StackRising s) :
    StackRising (serve src s) := by
  obtain ⟨-, l, hl, -, htop, hoff⟩ := eligible_iff.mp helig
  cases hmode : s.alc.config[src.index].mode with
  | fast => exact stackRising_congr (serve_alc_stack_fast hmode) h
  | latched =>
    unfold StackRising
    rw [serve_alc_stack_latched hmode]
    refine ⟨List.pairwise_cons.mpr ⟨fun e he => ?_, h.1⟩, ?_⟩
    · rw [pushedEntry_level hl]
      rcases htop with hnil | ⟨top, rest, hcons, htop⟩
      · rw [hnil] at he
        cases he
      · rw [hcons] at he
        rcases List.mem_cons.mp he with rfl | hrest
        · exact htop
        · have hbelow := h.1
          rw [hcons] at hbelow
          exact lt_trans ((List.pairwise_cons.mp hbelow).1 e hrest) htop
    · rw [List.map_cons, List.nodup_cons]
      refine ⟨fun hmem => ?_, h.2⟩
      obtain ⟨e, he, hsrc⟩ := List.mem_map.mp hmem
      exact hoff e he hsrc

theorem stackRising_evaluateRounds (n : Nat) (s : State) (h : StackRising s) : StackRising (evaluateRounds n s) := by
  induction n generalizing s with
  | zero => exact h
  | succ n ih =>
    unfold evaluateRounds
    split
    · exact h
    · next src hnext => exact ih _ (stackRising_serve (eligible_of_nextServed hnext) h)

theorem stackRising_settle (s : State) (h : StackRising s) : StackRising (settle s) := by
  have hlog : StackRising (s.modAlc afterLog) := stackRising_congr (by simp [afterLog]) h
  refine stackRising_congr (s := logAndEvaluate s) (by simp) ?_
  rw [logAndEvaluate_eq]
  split
  · exact stackRising_evaluateRounds _ _ hlog
  · exact hlog

theorem stackRising_perform (s : State) (r : Request) (h : StackRising s) : StackRising (perform r s).1 := by
  cases r
  case alertClear =>
    simp only [perform, alertClearEffect, StackRising, State.modAlc_alc]
    split
    · exact h
    · next e rest hstack =>
      simp only [StackRising, hstack, List.map_cons, List.pairwise_cons, List.nodup_cons] at h
      exact ⟨h.1.2, h.2.2⟩
  all_goals exact stackRising_congr (by simp [perform]) h

theorem stackRising_taken (s t : State) (hs : StackRising s) (h : Taken s t) : StackRising t := by
  apply taken_keeps (P := StackRising) (s := s) (t := t) (hs := hs) (h := h)
  case hsettle => exact stackRising_settle
  case hevent =>
    intro s t hs h
    cases h
    case hardwareReset => exact stackRising_congr (s := State.reset) (by simp [resetBlocks]) ⟨.nil, .nil⟩
    all_goals exact stackRising_congr (by simp) hs
  case hperform => exact fun s r hs _ _ => stackRising_perform s r hs
  all_goals
    intros
    refine stackRising_congr ?_ ‹StackRising _›
    simp

theorem stackOrdered_taken (s t : State) (hs : StackOrdered s) (h : Taken s t) : StackOrdered t := by
  obtain ⟨hlevels, hsources⟩ := stackRising_taken s t ⟨hs.1, hs.2.1⟩ h
  refine ⟨hlevels, hsources, ?_⟩
  rcases taken_cases h with rfl | rfl | ⟨u, rfl⟩
  · exact hs.2.2
  · exact hs.2.2
  · exact (quiet_settle u).2.2.1

/-- Levels that fall strictly from the top leave room for four entries (R180). -/
theorem stack_length_le {l : List StackEntry} (h : l.Pairwise fun a b => b.level < a.level) : l.length ≤ 4 := by
  have hnodup : (l.map StackEntry.level).Nodup :=
    List.pairwise_map.mpr (h.imp fun hlt => (ne_of_lt hlt).symm)
  simpa using hnodup.length_le_card

/-- Settles O6: a serve pushes above the top and only a source that is off the stack, ALERT_CLEAR takes the top. -/
theorem stackKept : Obligations.StackKept :=
  ⟨fun _ _ hs h => step_keeps (P := StackOrdered) (fun _ _ => id) stackOrdered_taken hs h,
    fun _ h => stack_length_le h.1⟩

/-! ### The end of an evaluation -/

/-- Condition sources are served LATCHED (R168). -/
def ConditionsLatched (a : Alc) : Prop :=
  ∀ src : AlertSource, src.isCondition = true → a.config[src.index].mode = .latched

/-- A serve makes no source eligible that was not, and its own source eligible no more (R176, R178, R179). -/
theorem eligible_serve {src x : AlertSource} {s : State} (hlatched : ConditionsLatched s.alc)
    (helig : eligible s.alc src = true) (hx : eligible (serve src s).alc x = true) :
    eligible s.alc x = true ∧ x ≠ src := by
  obtain ⟨hpend, l, hl, hhold, htop, hoff⟩ := eligible_iff.mp hx
  obtain ⟨-, lsrc, hlsrc, -, htopsrc, -⟩ := eligible_iff.mp helig
  simp only [serve_alc_frame] at hl hhold
  have hstack : ∀ e ∈ s.alc.stack, e ∈ (serve src s).alc.stack := by
    intro e he
    rw [(serve_alc src s).2]
    split
    · exact he
    · exact List.mem_cons_of_mem _ he
  have hoffx : onStack s.alc x = false := onStack_eq_false_iff.mpr fun e he => hoff e (hstack e he)
  have hne : x ≠ src := by
    rintro rfl
    cases hmode : s.alc.config[x.index].mode with
    | fast =>
      have hocc : x.isCondition = false := by
        by_contra hcond
        rw [hlatched x (by simpa using hcond)] at hmode
        cases hmode
      simp [sourcePending, hocc, (serve_alc x s).1] at hpend
    | latched =>
      rw [serve_alc_stack_latched hmode] at hoff
      exact hoff _ List.mem_cons_self rfl
  have hpendx : sourcePending s.alc x = true := by
    unfold sourcePending at hpend ⊢
    split
    · next hcond =>
      rw [if_pos hcond] at hpend
      simp only [serve_alc_frame, Bool.and_eq_true] at hpend
      simp only [Bool.and_eq_true]
      exact ⟨hpend.1, by rw [hoffx]; rfl⟩
    · next hcond =>
      rw [if_neg hcond, (serve_alc src s).1] at hpend
      have hidx : ¬ (src.index : Nat) = (x.index : Nat) := fun e => hne (index_injective (Fin.ext e.symm))
      simpa [Vector.getElem_set, hidx] using hpend
  refine ⟨eligible_iff.mpr ⟨hpendx, l, hl, hhold, ?_, onStack_eq_false_iff.mp hoffx⟩, hne⟩
  cases hmode : s.alc.config[src.index].mode with
  | fast => rwa [serve_alc_stack_fast hmode] at htop
  | latched =>
    rw [serve_alc_stack_latched hmode] at htop
    have hbelow : lsrc < l := by
      rcases htop with hnil | ⟨e, rest, hcons, hlt⟩
      · cases hnil
      · obtain ⟨rfl, -⟩ := List.cons.inj hcons
        rwa [pushedEntry_level hlsrc] at hlt
    rcases htopsrc with hnil | ⟨e, rest, hcons, hlt⟩
    · exact .inl hnil
    · exact .inr ⟨e, rest, hcons, hlt.trans hbelow⟩

/-- The sources that are eligible. -/
def eligibleSources (a : Alc) : List AlertSource :=
  AlertSource.all.filter fun src => eligible a src

theorem eligibleSources_serve_lt {src : AlertSource} {s : State} (hlatched : ConditionsLatched s.alc)
    (helig : eligible s.alc src = true) :
    (eligibleSources (serve src s).alc).length < (eligibleSources s.alc).length := by
  have hnodup : ∀ a : Alc, (eligibleSources a).Nodup := fun a => List.Nodup.filter _ (by decide)
  have hmem : ∀ (a : Alc) (x : AlertSource), x ∈ eligibleSources a ↔ eligible a x = true := fun a x => by
    simp [eligibleSources, mem_all]
  have hsub : eligibleSources (serve src s).alc ⊆ (eligibleSources s.alc).erase src := by
    intro x hx
    obtain ⟨hbefore, hne⟩ := eligible_serve hlatched helig ((hmem _ x).mp hx)
    exact (List.Nodup.mem_erase_iff (hnodup _)).mpr ⟨hne, (hmem _ x).mpr hbefore⟩
  have hle := ((hnodup _).subperm hsub).length_le
  have hsrc : src ∈ eligibleSources s.alc := (hmem _ src).mpr helig
  have hpos := List.length_pos_of_mem hsrc
  rw [List.length_erase_of_mem hsrc] at hle
  omega

/-- As many rounds as there are eligible sources leave none eligible (R177). -/
theorem evaluateRounds_serves (n : Nat) (s : State) (hlatched : ConditionsLatched s.alc)
    (hn : (eligibleSources s.alc).length ≤ n) (src : AlertSource) :
    eligible (evaluateRounds n s).alc src = false := by
  induction n generalizing s with
  | zero =>
    have hnil : eligibleSources s.alc = [] := List.length_eq_zero_iff.mp (Nat.le_zero.mp hn)
    exact Bool.not_eq_true _ ▸ List.filter_eq_nil_iff.mp hnil src (mem_all src)
  | succ n ih =>
    unfold evaluateRounds
    split
    · next hnone => exact not_eligible_of_nextServed hnone src
    · next x hnext =>
      have hlt := eligibleSources_serve_lt hlatched (eligible_of_nextServed hnext)
      exact ih _ (by simpa [ConditionsLatched] using hlatched) (by omega)

/-- An evaluation reaches its end: no source is eligible after it (R177). -/
theorem evaluate_serves (s : State) (hlatched : ConditionsLatched s.alc) (src : AlertSource) :
    eligible (evaluate s).alc src = false :=
  evaluateRounds_serves _ s hlatched (List.length_filter_le _ _) src

/-! ### No eligible source between events -/

/-- Inside an event an eligible source comes with a source newly pending or with an evaluation point. -/
def ServedOrDue (s : State) : Prop :=
  ConditionsLatched s.alc
    ∧ (s.alc.fresh = [] → s.alc.evalDue = false → ∀ src : AlertSource, eligible s.alc src = false)

theorem servedOrDue_of_served {s : State} (h : AlertsServed s) : ServedOrDue s :=
  ⟨h.1, fun _ _ => h.2⟩

/-- Eligibility is a matter of the configuration, the threshold, the stack, the holds flags and the occurrences. -/
theorem eligible_congr {a b : Alc} (hconfig : b.config = a.config) (hthreshold : b.threshold = a.threshold)
    (hstack : b.stack = a.stack) (hholds : b.holds = a.holds) (hocc : b.occ = a.occ) (src : AlertSource) :
    eligible b src = eligible a src := by
  unfold eligible sourcePending onStack
  rw [hconfig, hthreshold, hstack, hholds, hocc]

theorem alertsServed_congr {s t : State} (h : t.alc = s.alc) (hs : AlertsServed s) : AlertsServed t := by
  unfold AlertsServed
  rw [h]
  exact hs

theorem servedOrDue_congr {s t : State} (h : t.alc = s.alc) (hs : ServedOrDue s) : ServedOrDue t := by
  unfold ServedOrDue
  rw [h]
  exact hs

/-- The end of an event leaves no source eligible (R177). -/
theorem alertsServed_settle (s : State) (h : ServedOrDue s) : AlertsServed (settle s) := by
  have hlog : ∀ src, eligible (s.modAlc afterLog).alc src = eligible s.alc src := fun src =>
    eligible_congr (by simp [afterLog]) (by simp [afterLog]) (by simp [afterLog]) (by simp [afterLog])
      (by simp [afterLog]) src
  refine ⟨by simpa [ConditionsLatched] using h.1, fun src => ?_⟩
  rw [eligible_congr (a := (logAndEvaluate s).alc) (by simp) (by simp) (by simp) (by simp) (by simp) src,
    logAndEvaluate_eq]
  split
  · exact evaluate_serves _ (by simpa [ConditionsLatched, afterLog] using h.1) src
  · next hdue =>
    rw [hlog]
    simp only [Bool.or_eq_true, Bool.not_eq_true', not_or, Bool.not_eq_true, Bool.not_eq_false,
      List.isEmpty_iff] at hdue
    exact h.2 hdue.2 hdue.1 src

/-- A change of ALC that makes a source pending marks it, one that makes none pending leaves none eligible anew. -/
theorem servedOrDue_of {s t : State} (hconfig : t.alc.config = s.alc.config)
    (h : t.alc.fresh = [] → t.alc.evalDue = false → s.alc.fresh = [] ∧ s.alc.evalDue = false
      ∧ ∀ src, eligible t.alc src = true → eligible s.alc src = true) (hs : ServedOrDue s) : ServedOrDue t := by
  refine ⟨by simpa [ConditionsLatched, hconfig] using hs.1, fun hfresh hdue src => ?_⟩
  obtain ⟨h1, h2, himp⟩ := h hfresh hdue
  have hnot := hs.2 h1 h2 src
  by_contra helig
  rw [himp src (by simpa using helig)] at hnot
  cases hnot

/-- With configuration, threshold and stack kept, a source pending only if it was is eligible only if it was. -/
theorem eligible_of_pending {a b : Alc} {src : AlertSource} (hconfig : b.config = a.config)
    (hthreshold : b.threshold = a.threshold) (hstack : b.stack = a.stack)
    (hpend : sourcePending b src = true → sourcePending a src = true) (h : eligible b src = true) :
    eligible a src = true := by
  obtain ⟨hp, hrest⟩ := eligible_iff.mp h
  rw [hconfig, hthreshold, hstack] at hrest
  exact eligible_iff.mpr ⟨hpend hp, hrest⟩

theorem servedOrDue_raiseOcc (src : AlertSource) (ctx : Context) (s : State) (hs : ServedOrDue s) :
    ServedOrDue (raiseOcc src ctx s) := by
  refine servedOrDue_of (by simp) ?_ hs
  simp only [raiseOcc, State.modAlc_alc]
  split
  · exact fun h1 h2 => ⟨h1, h2, fun _ => id⟩
  · split
    · next o hocc =>
      refine fun h1 h2 => ⟨h1, h2, fun x => eligible_of_pending rfl rfl rfl ?_⟩
      unfold sourcePending
      split
      · exact id
      · intro hx
        by_cases hidx : (src.index : Nat) = (x.index : Nat)
        · obtain rfl := index_injective (Fin.ext hidx)
          rw [hocc]
          rfl
        · simpa [Vector.getElem_set, hidx] using hx
    · simp

theorem servedOrDue_endCond (src : AlertSource) (s : State) (hs : ServedOrDue s) : ServedOrDue (endCond src s) := by
  refine servedOrDue_of (by simp) (fun h1 h2 => ⟨by simpa using h1, by simpa using h2, fun x hx => ?_⟩) hs
  refine eligible_of_pending (by simp) (by simp) (by simp) ?_ hx
  unfold sourcePending onStack
  split
  · simp only [endCond, State.modAlc_alc, Bool.and_eq_true]
    rintro ⟨⟨hholds, hlevel⟩, hoff⟩
    refine ⟨⟨?_, hlevel⟩, hoff⟩
    simp only [Fin.getElem_fin, Vector.getElem_set] at hholds
    split at hholds
    · cases hholds
    · exact hholds
  · simp

theorem servedOrDue_beginCond (src : AlertSource) (ctx : Context) (s : State) (hs : ServedOrDue s) :
    ServedOrDue (beginCond src ctx s) := by
  refine servedOrDue_of (by simp) ?_ hs
  intro h1 h2
  simp only [beginCond, State.modAlc_alc] at h1 h2
  split at h1
  · simp at h1
  · next hquiet =>
    refine ⟨h1, h2, fun x hx => eligible_of_pending (by simp) (by simp) (by simp) ?_ hx⟩
    unfold sourcePending
    split
    · simp only [beginCond, State.modAlc_alc, Bool.and_eq_true]
      rintro ⟨⟨hholds, hlevel⟩, hoff⟩
      refine ⟨⟨?_, hlevel⟩, hoff⟩
      simp only [Fin.getElem_fin, Vector.getElem_set] at hholds
      split at hholds
      · next hidx =>
        obtain rfl := index_injective (Fin.ext hidx)
        exact absurd ⟨of_decide_eq_true hlevel, by simpa [onStack] using hoff⟩ hquiet
      · exact hholds
    · simp

theorem servedOrDue_judgeCond (src : AlertSource) (b a : Bool) (ctx : Context) (s : State) (hs : ServedOrDue s) :
    ServedOrDue (judgeCond src b a ctx s) := by
  unfold judgeCond
  split
  · split
    · exact hs
    · exact servedOrDue_beginCond _ _ _ hs
  · split
    · exact servedOrDue_endCond _ _ hs
    · exact hs

theorem servedOrDue_chooseOne {α : Type} (l : List α) {s : State} (hs : ServedOrDue s) :
    ServedOrDue (chooseOne l s).2 :=
  servedOrDue_congr (by simp) hs

theorem servedOrDue_judgeBarFault (before : Vector BarUnit 6) (s : State) (hs : ServedOrDue s) :
    ServedOrDue (judgeBarFault before s) := by
  unfold judgeBarFault
  simp only
  split
  · split
    · exact servedOrDue_beginCond _ _ _ (servedOrDue_chooseOne _ hs)
    · exact servedOrDue_chooseOne _ hs
  · split
    · exact servedOrDue_endCond _ _ hs
    · exact hs

theorem servedOrDue_judgeHeatFlag (src : AlertSource) (flag : HeatZone → Bool) (before : Htc) (s : State)
    (hs : ServedOrDue s) : ServedOrDue (judgeHeatFlag src flag before s) := by
  unfold judgeHeatFlag
  simp only
  split
  · split
    · exact servedOrDue_beginCond _ _ _ (servedOrDue_chooseOne _ hs)
    · exact servedOrDue_chooseOne _ hs
  · split
    · exact servedOrDue_endCond _ _ hs
    · exact hs

theorem servedOrDue_judgeOffBand (l : List Segment) (s : State) (hs : ServedOrDue s) :
    ServedOrDue (judgeOffBand l s) := by
  unfold judgeOffBand
  simp only
  split
  · split
    · exact hs
    · split
      · exact servedOrDue_beginCond _ _ _ hs
      · exact hs
  · split
    · exact servedOrDue_endCond _ _ hs
    · exact hs

theorem servedOrDue_linkError (sub : LinkSubcode) (kind : Byte) (tag : Tag) (s : State) (hs : ServedOrDue s) :
    ServedOrDue (raiseLinkError sub kind tag s) :=
  servedOrDue_raiseOcc _ _ s hs

theorem servedOrDue_lineWithSlot (line : LineRx) (s : State) (hs : ServedOrDue s) :
    ServedOrDue (lineWithSlot line s) := by
  unfold lineWithSlot
  split
  · exact hs
  · exact servedOrDue_linkError _ _ _ _ hs

theorem servedOrDue_framingError (x : RxState) (n : Nat) (s : State) (hs : ServedOrDue s) :
    ServedOrDue (framingError x n s) :=
  servedOrDue_linkError _ _ _ _ (servedOrDue_congr (by simp) hs)

theorem servedOrDue_acceptLine (seg : Tag) (line offset count : Nat) (slot : Bool) (s : State) (hs : ServedOrDue s) :
    ServedOrDue (acceptLine seg line offset count slot s) :=
  servedOrDue_congr (by simp) hs

theorem servedOrDue_checkLine (s : State) (hs : ServedOrDue s) : ServedOrDue (checkLine s) := by
  unfold checkLine
  simp only
  (repeat' split) <;> first
    | exact servedOrDue_lineWithSlot _ _ hs
    | exact servedOrDue_acceptLine _ _ _ _ _ _ hs

theorem servedOrDue_linePayloadByte (s : State) (hs : ServedOrDue s) : ServedOrDue (linePayloadByte s) := by
  unfold linePayloadByte
  simp only
  split
  · exact servedOrDue_checkLine _ hs
  · split
    · split
      · exact servedOrDue_lineWithSlot _ _ hs
      · exact hs
    · split
      · exact servedOrDue_congr (by simp) hs
      · exact hs

theorem servedOrDue_takeData (b : Byte) (s : State) (hs : ServedOrDue s) : ServedOrDue (takeData b s) := by
  unfold takeData
  split
  · exact hs
  · exact hs
  · have hbyte : ServedOrDue (s.modLrx fun l => { l with header := l.header ++ [b], crc := crcByte l.crc b }) :=
      servedOrDue_congr (by simp) hs
    unfold takeHeaderByte
    simp only
    split
    · exact hbyte
    · split
      · exact servedOrDue_framingError _ _ _ hbyte
      · split
        · split
          · exact servedOrDue_lineWithSlot _ _ (servedOrDue_congr (by simp) hbyte)
          · exact servedOrDue_congr (by simp) hbyte
        · exact servedOrDue_congr (by simp) hbyte
  · have hbyte : ∀ u, ServedOrDue u →
        ServedOrDue (if rxLength u.lrx ≤ u.lrx.payload.length then u.modLrx fun l => { l with
          state := .trailer } else u) :=
      fun u hu => by split <;> exact servedOrDue_congr (by simp) hu
    unfold takePayloadByte
    simp only
    refine hbyte _ ?_
    split
    · exact servedOrDue_linePayloadByte _ (servedOrDue_congr (by simp) hs)
    · exact servedOrDue_congr (by simp) hs
  · unfold takeTrailerByte
    split
    · exact hs
    · exact servedOrDue_framingError _ _ _ hs

theorem servedOrDue_overtakeOf (t : Tag) (code : AnswerCode) (s : State) (hs : ServedOrDue s) :
    ServedOrDue (overtakeOf t code s) := by
  unfold overtakeOf
  split
  · unfold overtake
    split
    · split
      · exact hs
      · exact servedOrDue_linkError _ _ _ _ hs
    · exact hs
  · exact hs

theorem servedOrDue_handleLine (k : Bar) (r : Segment) (n : Nat) (s : State) (hs : ServedOrDue s) :
    ServedOrDue (handleLine k r n s) := by
  have hrest : ∀ u, ServedOrDue u → ServedOrDue ((reportHandling k r.tag n (fireOrMiss k r n u)).modBar k fun b =>
      { b with cursor := nextCursor (reportHandling k r.tag n (fireOrMiss k r n u)).rls r n }) := by
    refine fun u hu => servedOrDue_congr (s := u) ?_ hu
    simp
  unfold handleLine
  simp only
  refine hrest _ ?_
  split
  · unfold declareLost
    refine servedOrDue_raiseOcc _ _ _ ?_
    exact servedOrDue_overtakeOf _ _ _ (servedOrDue_congr (by simp) hs)
  · exact hs

theorem servedOrDue_handleDue (k : Bar) (fuel : Nat) (s : State) (hs : ServedOrDue s) :
    ServedOrDue (handleDue k fuel s) := by
  induction fuel generalizing s with
  | zero => exact hs
  | succ fuel ih =>
    unfold handleDue
    split
    · exact hs
    · split
      · exact hs
      · split
        · exact ih _ (servedOrDue_handleLine _ _ _ _ hs)
        · exact hs

/-- A fold of operations that keep a property keeps it. -/
theorem foldl_keeps {α : Type} {P : State → Prop} (f : State → α → State) (h : ∀ s a, P s → P (f s a)) (l : List α)
    (s : State) (hs : P s) : P (l.foldl f s) := by
  induction l generalizing s with
  | nil => exact hs
  | cons a l ih => exact ih (f s a) (h s a hs)

theorem servedOrDue_barsAdvance (s : State) (hs : ServedOrDue s) : ServedOrDue (barsAdvance s) := by
  have hbar : ∀ u k, ServedOrDue u → ServedOrDue (barAdvance u k) := by
    intro u k hu
    have hport : ServedOrDue (u.modBar k fun b => { b with port := [] }) := servedOrDue_congr (by simp) hu
    unfold barAdvance
    simp only
    split
    · exact servedOrDue_handleDue _ _ _ hport
    · exact hport
  exact servedOrDue_congr (by simp [barsAdvance]) (foldl_keeps barAdvance hbar allBars s hs)

/-- After the bars nothing in an increase of P touches ALC (R86). -/
theorem increaseOfP_alc (s : State) :
    (increaseOfP s).alc = (barsAdvance (raiseHigh (s.setMou { s.mou with p := s.mou.p + 1 }))).alc := by
  simp only [increaseOfP, apply_ite State.alc, formHeat_alc, formSpeed_alc, ite_self]
  simp

theorem servedOrDue_encoderLevels (a b : Bool) (s : State) (hs : ServedOrDue s) :
    ServedOrDue (encoderLevels a b s) := by
  unfold encoderLevels countEdge
  split
  · split
    · refine servedOrDue_congr (increaseOfP_alc _) ?_
      exact servedOrDue_barsAdvance _ hs
    · exact hs
  · split <;> exact hs
  · exact hs

theorem servedOrDue_sampleLine (s : State) (hs : ServedOrDue s) : ServedOrDue (sampleLine s) := by
  have hdwell : ServedOrDue (dwellSample (moveReference (formSpeed (measureSpeed s)))) := by
    refine foldl_keeps (P := ServedOrDue) dwellRecord (fun u t hu => ?_) _ _ hs
    unfold dwellRecord
    split
    · exact hu
    · simp only
      split
      · exact servedOrDue_raiseOcc _ _ _ hu
      · exact hu
  exact servedOrDue_congr (by simp [sampleLine]) hdwell

theorem servedOrDue_heatSampleEvent (e : Vector (Option Int) 4) (s : State) (hs : ServedOrDue s) :
    ServedOrDue (heatSampleEvent e s) := by
  have hgrade : ∀ u, ServedOrDue u → ServedOrDue (gradeTest u) := by
    intro u hu
    unfold gradeTest
    simp only
    (repeat' split) <;> first
      | exact servedOrDue_raiseOcc _ _ _ hu
      | exact hu
  unfold heatSampleEvent
  simp only
  have hzones : ServedOrDue (s.modHtc (heatZoneSteps e)) := servedOrDue_congr (by simp) hs
  have hflags := servedOrDue_judgeHeatFlag .heatSensor (fun z => z.missing) s.htc _
    (servedOrDue_judgeHeatFlag .overTemp (fun z => z.overTemp) s.htc _ hzones)
  generalize judgeHeatFlag .heatSensor _ _ _ = u at hflags ⊢
  have hband : ServedOrDue (judgeOffBand (failingRecords u) (flagOffBand u)) :=
    servedOrDue_judgeOffBand _ _ (servedOrDue_congr (by simp) hflags)
  exact hgrade _ (servedOrDue_congr (by simp) hband)

theorem servedOrDue_judgeTension (z : TensionZone) (before : Tnc) (s : State) (hs : ServedOrDue s) :
    ServedOrDue (judgeTension z before s) :=
  servedOrDue_judgeCond _ _ _ _ _ (servedOrDue_judgeCond _ _ _ _ _ hs)

theorem servedOrDue_event (s t : State) (hs : ServedOrDue s) (h : Event s t) : ServedOrDue t := by
  cases h
  case startMark =>
    unfold takeStart
    split
    · split
      · exact hs
      · exact servedOrDue_linkError _ _ _ _ hs
    · exact hs
    all_goals exact servedOrDue_framingError _ _ _ hs
  case dataSymbol b => exact servedOrDue_takeData b s hs
  case idleFill =>
    have htimer : ServedOrDue (restartTimer s) :=
      servedOrDue_congr (by simp) hs
    unfold takeIdle
    simp only
    split
    · exact htimer
    · exact htimer
    all_goals exact servedOrDue_framingError _ _ _ htimer
  case abortMark =>
    refine servedOrDue_congr (s := s) ?_ hs
    simp
  case frameSent =>
    refine servedOrDue_congr (s := s) ?_ hs
    simp
  case gapEnd =>
    refine servedOrDue_congr (s := s) ?_ hs
    simp
  case linkTimeout =>
    unfold linkExpired
    split
    · exact servedOrDue_beginCond _ _ _ hs
    · exact hs
  case encoderEdge a b => exact servedOrDue_encoderLevels a b s hs
  case lineSample => exact servedOrDue_sampleLine s hs
  case driveFaultInput x =>
    unfold driveFaultLevel
    split
    · exact hs
    · simp only
      split
      · exact servedOrDue_beginCond _ _ _ hs
      · exact servedOrDue_endCond _ _ hs
  case barFaultInput k x => exact servedOrDue_judgeBarFault _ _ hs
  case tensionReading z n => exact servedOrDue_judgeTension _ _ _ hs
  case tensionMissing z =>
    unfold missingExpired
    split
    · exact servedOrDue_judgeTension _ _ _ hs
    · exact hs
  case heatSample e => exact servedOrDue_heatSampleEvent e s hs
  case hardwareReset =>
    have hlatched : ConditionsLatched State.reset.alc := fun src => by cases src <;> decide
    refine ⟨?_, fun _ hdue => ?_⟩
    · simpa [ConditionsLatched, resetBlocks] using hlatched
    · simp [beginAtReset] at hdue

/-- CLEAR_LINE clears what has become pending in its event with the occurrences, and leaves the conditions as they
stood: none was eligible (R189). -/
theorem servedOrDue_clearEffect (s : State) (hs : AlertsServed s) : ServedOrDue (clearEffect s) := by
  refine ⟨by simpa [ConditionsLatched] using hs.1, fun _ _ src => ?_⟩
  by_contra helig
  have hpend : sourcePending (clearEffect s).alc src = true → sourcePending s.alc src = true := by
    unfold sourcePending onStack
    split
    · simp
    · simp [clearEffect, clearAlc]
  have hs' := hs.2 src
  rw [eligible_of_pending (by simp) (by simp) (by simp) hpend (by simpa using helig)] at hs'
  cases hs'

/-- ALERT_CONFIG refuses FAST for a condition source (R168). -/
theorem latched_of_alertRange {source level grade mode : Nat} (h : alertRangeOk source level grade mode = true)
    (hcond : (sourceOf source).isCondition = true) : mode ≠ 1 := by
  rintro rfl
  simp only [alertRangeOk, inRange, Bool.and_eq_true, Bool.or_eq_true, decide_eq_true_eq] at h
  obtain ⟨⟨⟨⟨⟨-, hhigh⟩, -⟩, -⟩, -⟩, hmode⟩ := h
  have hlow : 8 ≤ source := by
    rcases hmode with h0 | h1
    · cases h0
    · exact h1.2
  interval_cases source <;> exact absurd hcond (by decide)

theorem rangeOk_of_refusal {s : State} {r : Request} (h : refusal s r = none) : rangeOk r = true := by
  unfold refusal at h
  split at h
  · cases h
  · next hr => simpa using hr

theorem servedOrDue_perform (s : State) (r : Request) (hs : AlertsServed s) (hpass : refusal s r = none) :
    ServedOrDue (perform r s).1 := by
  have hs' := servedOrDue_of_served hs
  cases r
  case alertConfig source level grade mode =>
    refine ⟨fun src hcond => ?_, fun _ hdue => ?_⟩
    · simp only [perform, alertConfigEffect, State.modAlc_alc, Fin.getElem_fin, Vector.getElem_set]
      split
      · next hidx =>
        obtain rfl := index_injective (Fin.ext hidx)
        exact if_neg (latched_of_alertRange (rangeOk_of_refusal hpass) hcond)
      · exact hs.1 src hcond
    · simp [perform, alertConfigEffect] at hdue
  case alertHold threshold =>
    exact ⟨by simpa [perform, ConditionsLatched] using hs.1,
      fun _ hdue => by simp [perform, alertHoldEffect] at hdue⟩
  case alertClear =>
    refine ⟨by simpa [perform, ConditionsLatched] using hs.1, fun _ hdue src => ?_⟩
    cases hstack : s.alc.stack with
    | nil => exact (by simpa [perform, alertClearEffect, hstack] using hs.2 src)
    | cons top rest => simp [perform, alertClearEffect, hstack] at hdue
  case alertLogReset =>
    refine ⟨by simpa [perform, ConditionsLatched] using hs.1, fun _ _ src => ?_⟩
    rw [eligible_congr (a := s.alc) (by simp [perform]) (by simp [perform]) (by simp [perform]) (by simp [perform])
      (by simp [perform])]
    exact hs.2 src
  case barConfig bars =>
    have hjudged := servedOrDue_judgeBarFault s.bars
      (s.setBars (Vector.ofFn fun k => configuredBar s k (barSetOf bars)[k] s.bars[k])) (servedOrDue_congr
        (by simp) hs')
    exact servedOrDue_congr (by simp [perform, barConfigEffect]) hjudged
  case segmentAbort seg =>
    simp only [perform, abortEffect]
    split
    · exact hs'
    · split
      · next _ r _ _ _ =>
        have hclosed : ∀ u, ServedOrDue u →
            ServedOrDue (formHeat (formSpeed (freeEntries (tensionReleased r.tag u)))) :=
          fun u => servedOrDue_congr (by simp)
        unfold abortWaiting
        simp only
        refine hclosed _ ?_
        split
        · exact servedOrDue_overtakeOf _ _ _ (servedOrDue_congr (by simp) hs')
        · exact servedOrDue_congr (by simp) hs'
      · unfold abortPrinting
        simp only
        split
        · split
          · exact servedOrDue_overtakeOf _ _ _ (servedOrDue_congr (by simp) hs')
          · exact servedOrDue_congr (by simp) hs'
        · exact servedOrDue_congr (by simp) hs'
      · exact servedOrDue_congr (by simp) hs'
  case clearLine => exact servedOrDue_clearEffect s hs
  all_goals exact servedOrDue_congr (by simp [perform]) hs'

theorem alertsServed_taken (s t : State) (hs : AlertsServed s) (h : Taken s t) : AlertsServed t := by
  apply taken_restores (P := ServedOrDue) (Q := AlertsServed) (s := s) (t := t) (hs := hs) (h := h)
  case hweak => exact fun _ => servedOrDue_of_served
  case hsettle => exact alertsServed_settle
  case hclosed => exact fun s x n => alertsServed_congr (by simp)
  case hbetween => exact fun s x => alertsServed_congr (by simp)
  case hevent => exact fun s t hs => servedOrDue_event s t (servedOrDue_of_served hs)
  case herror => exact fun s sub k t => servedOrDue_linkError sub k t s
  case hgood =>
    intro s hs
    unfold goodFrame
    simp only
    split <;> split
    · exact servedOrDue_endCond _ _ (servedOrDue_congr (by simp) hs)
    · exact servedOrDue_congr (by simp) hs
    · exact servedOrDue_endCond _ _ hs
    · exact hs
  case hintake =>
    intro s f hs
    unfold intakeFrame
    split
    · split <;> exact servedOrDue_congr (by simp) hs
    · split
      · exact servedOrDue_congr (by simp) hs
      · exact servedOrDue_linkError _ _ _ _ hs
  case hperform => exact fun s r hs _ hpass => servedOrDue_perform s r hs hpass
  case hcheck =>
    intro s slot id f hs _
    have hs' := servedOrDue_of_served hs
    unfold endCheck
    simp only
    split
    · exact servedOrDue_congr (by simp) hs'
    · have hraised := servedOrDue_raiseOcc .profileCheck
        (unitCtx s (.profileSlot slot id) (checkWord (bankOf s slot id)))
        (revertBank slot id (s.setPfs { s.pfs with check := none })) (servedOrDue_congr (by simp) hs')
      exact servedOrDue_congr (by simp) hraised
  all_goals
    intros
    refine servedOrDue_congr ?_ ‹ServedOrDue _›
    simp

/-- Settles O15: each serve takes its source out of those eligible and adds none, so that thirteen rounds end the
evaluation; and every event that makes a source eligible marks it, or is an evaluation point. -/
theorem alertsServedKept : Obligations.AlertsServedKept :=
  fun _ _ hs h => step_keeps (P := AlertsServed) (fun _ _ => id) alertsServed_taken hs h

end Sys2Proof.Machine
end

section
/-! SUPPORT and the settling of O16. A condition is judged over each event that can change what it stands for, so that
its holds flag follows its rule (R79, R80, R102, R142, R155, R158, R170). -/

namespace Sys2Proof.Machine

/-! ### The state and the fault input of the bars -/

/-- A bar's state and its fault input: what the handling of lines and the changes of the list leave of it. -/
def barInputs (bars : Vector BarUnit 6) (k : Bar) : BarState × Bool :=
  (bars[k].state, bars[k].fault)

theorem barInputs_vmap {f : BarUnit → BarUnit} (h : ∀ b, (f b).state = b.state ∧ (f b).fault = b.fault)
    (v : Vector BarUnit 6) : barInputs (vmap f v) = barInputs v := by
  funext k
  simp [barInputs, vmap, h]

theorem barInputs_modBar {f : BarUnit → BarUnit} (h : ∀ b, (f b).state = b.state ∧ (f b).fault = b.fault)
    (k : Bar) (s : State) : barInputs (s.modBar k f).bars = barInputs s.bars := by
  funext j
  simp only [barInputs, State.modBar, State.setBars_bars, vmod, Fin.getElem_fin, Vector.getElem_set]
  split
  · next hk => simp [h, hk]
  · rfl

@[simp] theorem cursorsLeave_barInputs (t : Tag) (s : State) :
    barInputs (cursorsLeave t s).bars = barInputs s.bars := by
  simp only [cursorsLeave, State.setBars_bars]
  refine barInputs_vmap (fun b => ?_) _
  split
  · split <;> simp
  · simp

@[simp] theorem cursorsOpen_barInputs (t : Tag) (s : State) : barInputs (cursorsOpen t s).bars = barInputs s.bars := by
  simp only [cursorsOpen, State.setBars_bars]
  refine barInputs_vmap (fun b => ?_) _
  split <;> simp

@[simp] theorem removeSegment_barInputs (t : Tag) (s : State) :
    barInputs (removeSegment t s).bars = barInputs s.bars := by
  simp [removeSegment]

@[simp] theorem frameSent_barInputs (s : State) : barInputs (frameSent s).bars = barInputs s.bars := by
  generalize h : frameSent s = t
  simp only [frameSent, traceDone] at h
  (repeat' split at h) <;> subst h <;> simp

@[simp] theorem openEffect_barInputs (slot : Fin 8) (tag : Tag) (lines gap : Nat) (s : State) :
    barInputs (openEffect slot tag lines gap s).bars = barInputs s.bars := by
  unfold openEffect addSegment
  split
  · simp only [formHeat_frame, formSpeed_frame, tensionQualify_frame, cursorsOpen_barInputs]
    split <;> simp
  · rfl

@[simp] theorem abortEffect_barInputs (t : Tag) (s : State) : barInputs (abortEffect t s).bars = barInputs s.bars := by
  unfold abortEffect abortWaiting
  split
  · rfl
  · split
    · simp only [formHeat_frame, formSpeed_frame, freeEntries_frame, tensionReleased_frame]
      split <;> simp
    · simp
    · simp

@[simp] theorem clearEffect_barInputs (s : State) : barInputs (clearEffect s).bars = barInputs s.bars := by
  have hbars : (clearEffect s).bars = vmap (fun b => { b with cursor := none }) s.bars := by
    simp [clearEffect, clearStore]
  refine (congrArg barInputs hbars).trans (barInputs_vmap ?_ _)
  exact fun _ => ⟨rfl, rfl⟩

@[simp] theorem handleLine_barInputs (k : Bar) (r : Segment) (n : Nat) (s : State) :
    barInputs (handleLine k r n s).bars = barInputs s.bars := by
  unfold handleLine
  simp only
  refine (barInputs_modBar ?_ _ _).trans ?_
  · exact fun _ => ⟨rfl, rfl⟩
  simp only [reportHandling_frame]
  have hlost : barInputs (if lineIsLost s k r n then declareLost r n s else s).bars = barInputs s.bars := by
    split <;> simp
  rw [← hlost]
  generalize (if lineIsLost s k r n then declareLost r n s else s) = u
  unfold fireOrMiss
  split
  · refine barInputs_modBar ?_ _ _
    exact fun _ => ⟨rfl, rfl⟩
  · simp
  · rfl

@[simp] theorem handleDue_barInputs (k : Bar) (fuel : Nat) (s : State) :
    barInputs (handleDue k fuel s).bars = barInputs s.bars := by
  induction fuel generalizing s with
  | zero => rfl
  | succ fuel ih =>
    unfold handleDue
    (repeat' split) <;> simp [ih]

@[simp] theorem barAdvance_barInputs (s : State) (k : Bar) : barInputs (barAdvance s k).bars = barInputs s.bars := by
  have hempty := barInputs_modBar (f := fun b => { b with port := [] }) (fun _ => ⟨rfl, rfl⟩) k s
  unfold barAdvance
  simp only
  split <;> simpa using hempty

@[simp] theorem barsAdvance_barInputs (s : State) : barInputs (barsAdvance s).bars = barInputs s.bars := by
  simp [barsAdvance, allBars]

@[simp] theorem increaseOfP_barInputs (s : State) : barInputs (increaseOfP s).bars = barInputs s.bars := by
  simp only [increaseOfP]
  (repeat' split) <;> simp

@[simp] theorem encoderLevels_barInputs (a b : Bool) (s : State) :
    barInputs (encoderLevels a b s).bars = barInputs s.bars := by
  generalize h : encoderLevels a b s = t
  simp only [encoderLevels, countEdge] at h
  (repeat' split at h) <;> subst h <;> simp

/-! ### What a condition stands for -/

/-- What the six conditions of the state stand for: their rules' value; the other sources have none. -/
def conditionRule (s : State) : AlertSource → Option Bool
  | .webBreak => some (breakHolds s.tnc)
  | .overTemp => some (s.htc.zones.toList.any fun z => z.overTemp)
  | .driveFault => some s.mou.driveFault
  | .heatSensor => some (s.htc.zones.toList.any fun z => z.missing)
  | .tensionWindow => some (windowHolds s.tnc)
  | .barFault => some (barFaultHolds s.bars)
  | _ => none

/-- A holds flag equals its rule's value. -/
def FlagsFollow (s : State) : Prop :=
  ∀ (src : AlertSource) (b : Bool), conditionRule s src = some b → s.alc.holds[src.index] = b

theorem vector_toList_any {α : Type} {n : Nat} (v : Vector α n) (p : α → Bool) :
    v.toList.any p = true ↔ ∃ i : Fin n, p v[i] = true := by
  simp [Fin.exists_iff, Vector.any_eq_true]

theorem conditionsTrack_iff (s : State) : ConditionsTrack s ↔ FlagsFollow s := by
  have hrule : ∀ (src : AlertSource) (b : Bool) (p : Prop), conditionRule s src = some b → (b = true ↔ p) →
      ((∀ c, conditionRule s src = some c → s.alc.holds[src.index] = c) ↔ (s.alc.holds[src.index] = true ↔ p)) := by
    intro src b p hb hp
    simp only [hb, ← hp, Option.some.injEq, forall_eq', Bool.coe_iff_coe]
  have hfree : ∀ src : AlertSource, conditionRule s src = none →
      ∀ c, conditionRule s src = some c → s.alc.holds[src.index] = c := by
    intro src h c hc
    rw [h] at hc
    cases hc
  have hweb := hrule .webBreak _ _ rfl (vector_toList_any _ _)
  have hover := hrule .overTemp _ _ rfl (vector_toList_any _ _)
  have hdrive := hrule .driveFault _ _ rfl Iff.rfl
  have hsensor := hrule .heatSensor _ _ rfl (vector_toList_any _ _)
  have hwindow := hrule .tensionWindow _ (∃ i : Fin 3, s.tnc.zones[i].windowFlag = true ∨ s.tnc.zones[i].missing = true)
    rfl ((vector_toList_any _ _).trans (by simp))
  have hbar := hrule .barFault _ (∃ k : Bar, s.bars[k].state = .faulted) rfl
    ((vector_toList_any _ _).trans (by simp))
  constructor
  · rintro ⟨h0, h1, h2, h4, h6, h7⟩ src
    cases src
    case webBreak => exact hweb.mpr h0
    case overTemp => exact hover.mpr h1
    case driveFault => exact hdrive.mpr h2
    case heatSensor => exact hsensor.mpr h4
    case tensionWindow => exact hwindow.mpr h6
    case barFault => exact hbar.mpr h7
    all_goals exact hfree _ rfl
  · exact fun h => ⟨hweb.mp (h _), hover.mp (h _), hdrive.mp (h _), hsensor.mp (h _), hwindow.mp (h _), hbar.mp (h _)⟩

theorem flagsFollow_congr {s t : State} (hholds : t.alc.holds = s.alc.holds)
    (hheat : ∀ i : Fin 4, t.htc.zones[i].overTemp = s.htc.zones[i].overTemp
      ∧ t.htc.zones[i].missing = s.htc.zones[i].missing)
    (hdrive : t.mou.driveFault = s.mou.driveFault) (htnc : t.tnc.zones = s.tnc.zones)
    (hbars : barInputs t.bars = barInputs s.bars) (hs : FlagsFollow s) : FlagsFollow t := by
  have hrule : ∀ src, conditionRule t src = conditionRule s src := by
    have hfault : barFaultHolds t.bars = barFaultHolds s.bars := by
      rw [Bool.eq_iff_iff]
      unfold barFaultHolds
      rw [vector_toList_any, vector_toList_any]
      have hstate : ∀ k : Bar, t.bars[k].state = s.bars[k].state := fun k => congrArg Prod.fst (congrFun hbars k)
      simp only [hstate]
    have hover : (t.htc.zones.toList.any fun z => z.overTemp) = s.htc.zones.toList.any fun z => z.overTemp := by
      rw [Bool.eq_iff_iff, vector_toList_any, vector_toList_any]
      simp only [fun i => (hheat i).1]
    have hmissing : (t.htc.zones.toList.any fun z => z.missing) = s.htc.zones.toList.any fun z => z.missing := by
      rw [Bool.eq_iff_iff, vector_toList_any, vector_toList_any]
      simp only [fun i => (hheat i).2]
    intro src
    cases src <;> simp only [conditionRule, breakHolds, windowHolds, hover, hmissing, hdrive, htnc, hfault]
  intro src b hb
  rw [hholds]
  exact hs src b (hrule src ▸ hb)

/-! ### A condition judged -/

theorem beginCond_holds (src : AlertSource) (ctx : Context) (s : State) :
    (beginCond src ctx s).alc.holds = s.alc.holds.set src.index true := by simp [beginCond]

theorem endCond_holds (src : AlertSource) (s : State) :
    (endCond src s).alc.holds = s.alc.holds.set src.index false := by simp [endCond]

theorem vector_set_self {α : Type} {n : Nat} (v : Vector α n) (i : Fin n) (x : α) (h : v[i] = x) : v.set i x = v := by
  subst h
  simp

/-- One of several candidates is taken wherever there is one. -/
theorem chooseOne_some {α : Type} {l : List α} (h : l ≠ []) (s : State) : ∃ x ∈ l, (chooseOne l s).1 = some x := by
  unfold chooseOne
  split
  · exact absurd rfl h
  · exact ⟨_, List.mem_cons_self, rfl⟩
  · next x y rest =>
    have hlt : Config.freeChoice s.choices % (rest.length + 2) < (x :: y :: rest).length := by
      exact Nat.mod_lt _ (Nat.succ_pos _)
    exact ⟨_, List.getElem_mem hlt, List.getElem?_eq_getElem hlt⟩

/-- A condition judged over an event that it held before as its flag says has its flag at the value after. -/
theorem judgeCond_holds (src : AlertSource) (before after : Bool) (ctx : Context) (s : State)
    (h : s.alc.holds[src.index] = before) :
    (judgeCond src before after ctx s).alc.holds = s.alc.holds.set src.index after := by
  subst h
  unfold judgeCond
  cases after
  case false =>
    rw [if_neg (by decide)]
    split
    · exact endCond_holds src s
    · next hb => exact (vector_set_self _ _ _ (by simpa using hb)).symm
  case true =>
    rw [if_pos rfl]
    split
    · next hb => exact (vector_set_self _ _ _ hb).symm
    · exact beginCond_holds src ctx s

theorem mem_allHeatZones (i : Fin 4) : i ∈ allHeatZones := by
  fin_cases i <;> decide

theorem mem_allBars (k : Bar) : k ∈ allBars := by
  fin_cases k <;> decide

theorem judgeHeatFlag_holds (src : AlertSource) (flag : HeatZone → Bool) (before : Htc) (s : State)
    (h : s.alc.holds[src.index] = before.zones.toList.any flag) :
    (judgeHeatFlag src flag before s).alc.holds = s.alc.holds.set src.index (s.htc.zones.toList.any flag) := by
  unfold judgeHeatFlag
  cases hb : before.zones.toList.any flag <;> cases ha : s.htc.zones.toList.any flag <;> rw [hb] at h
  case false.true =>
    have hne : newlySet flag before s.htc ≠ [] := by
      obtain ⟨i, hi⟩ := (vector_toList_any _ _).mp ha
      have hno : flag before.zones[i] = false := by
        by_contra hyes
        exact absurd ((vector_toList_any _ _).mpr ⟨i, by simpa using hyes⟩) (by simp [hb])
      refine List.ne_nil_of_mem (a := i) ?_
      exact List.mem_filter.mpr ⟨mem_allHeatZones i, by rw [hno, hi]; rfl⟩
    obtain ⟨i, -, hi⟩ := chooseOne_some hne s
    simp [hi, beginCond_holds]
  all_goals simp [endCond_holds, vector_set_self _ _ _ h]

theorem judgeBarFault_holds (before : Vector BarUnit 6) (s : State)
    (h : s.alc.holds[AlertSource.barFault.index] = barFaultHolds before) :
    (judgeBarFault before s).alc.holds = s.alc.holds.set AlertSource.barFault.index (barFaultHolds s.bars) := by
  unfold judgeBarFault
  cases hb : barFaultHolds before <;> cases ha : barFaultHolds s.bars <;> rw [hb] at h
  case false.true =>
    have hne : (allBars.filter fun k => decide (s.bars[k].state = .faulted)) ≠ [] := by
      obtain ⟨k, hk⟩ := (vector_toList_any _ _).mp ha
      refine List.ne_nil_of_mem (a := k) ?_
      exact List.mem_filter.mpr ⟨mem_allBars k, hk⟩
    obtain ⟨k, -, hk⟩ := chooseOne_some hne s
    simp [-Fin.getElem_fin, hk, beginCond_holds]
  all_goals simp [endCond_holds, vector_set_self _ _ _ h]

/-- The heat conditions and the tension conditions have flags of their own. -/
theorem judgeOffBand_holds (failing : List Segment) (s : State) : ∃ b : Bool,
    (judgeOffBand failing s).alc.holds = s.alc.holds.set AlertSource.heatOffBand.index b := by
  generalize ht : judgeOffBand failing s = t
  simp only [judgeOffBand] at ht
  have hself : s.alc.holds = s.alc.holds.set AlertSource.heatOffBand.index
    s.alc.holds[AlertSource.heatOffBand.index] := (vector_set_self _ _ _ rfl).symm
  (repeat' split at ht) <;> subst ht
  · exact ⟨_, hself⟩
  · exact ⟨true, beginCond_holds _ _ _⟩
  · exact ⟨_, hself⟩
  · exact ⟨false, endCond_holds _ _⟩
  · exact ⟨_, hself⟩

/-! ### The events that judge -/

theorem getElem_set_index (v : Vector Bool 13) (a x : AlertSource) (b : Bool) :
    (v.set a.index b)[x.index] = if a = x then b else v[x.index] := by
  by_cases h : a = x
  · simp [h]
  · have hne : (a.index : Nat) ≠ x.index := fun e => h (index_injective (Fin.ext e))
    simp [h, hne]

/-- One flag judged, and the other rules as they were. -/
theorem flagsFollow_set {s t : State} {src : AlertSource} {b : Bool} (hs : FlagsFollow s)
    (hset : t.alc.holds = s.alc.holds.set src.index b) (hsrc : ∀ c, conditionRule t src = some c → b = c)
    (hother : ∀ x, x ≠ src → conditionRule t x = conditionRule s x) : FlagsFollow t := by
  intro x c hc
  rw [hset, getElem_set_index]
  split
  · next h =>
    subst h
    exact hsrc c hc
  · next h => exact hs x c (hother x (Ne.symm h) ▸ hc)

theorem flagsFollow_judgeBarFault {s u : State} (hs : FlagsFollow s) (hholds : u.alc.holds = s.alc.holds)
    (hzones : u.htc.zones = s.htc.zones) (hdrive : u.mou.driveFault = s.mou.driveFault)
    (htnc : u.tnc.zones = s.tnc.zones) : FlagsFollow (judgeBarFault s.bars u) := by
  have hset := judgeBarFault_holds s.bars u (by rw [hholds]; exact hs .barFault _ rfl)
  rw [hholds] at hset
  refine flagsFollow_set hs hset (by simp [conditionRule]) fun x hx => ?_
  cases x
  case barFault => exact absurd rfl hx
  all_goals simp [conditionRule, breakHolds, windowHolds, hzones, hdrive, htnc]

theorem flagsFollow_judgeTension {s u : State} (z : TensionZone) (hs : FlagsFollow s)
    (hholds : u.alc.holds = s.alc.holds) (hzones : u.htc.zones = s.htc.zones)
    (hdrive : u.mou.driveFault = s.mou.driveFault) (hbars : u.bars = s.bars) :
    FlagsFollow (judgeTension z s.tnc u) := by
  intro x c hc
  have hweb : u.alc.holds[AlertSource.webBreak.index] = breakHolds s.tnc := by rw [hholds]; exact hs .webBreak _ rfl
  unfold judgeTension
  simp only
  rw [judgeCond_holds _ _ _ _ _ (by
      rw [judgeCond_holds _ _ _ _ _ hweb, getElem_set_index, if_neg (by decide), hholds]
      exact hs .tensionWindow _ rfl), judgeCond_holds _ _ _ _ _ hweb, getElem_set_index, getElem_set_index, hholds]
  have hold := hs x c
  cases x
  case webBreak => exact Option.some.inj ((by simp [conditionRule] : _ = _).symm.trans hc)
  case tensionWindow => exact Option.some.inj ((by simp [conditionRule] : _ = _).symm.trans hc)
  all_goals exact hold (Eq.trans (by simp [conditionRule, hzones, hdrive, hbars]) hc)

theorem flagsFollow_heatSampleEvent (e : Vector (Option Int) 4) (s : State) (hs : FlagsFollow s) :
    FlagsFollow (heatSampleEvent e s) := by
  generalize hu : s.modHtc (heatZoneSteps e) = u
  have hholds : u.alc.holds = s.alc.holds := by subst hu; simp
  have hover := judgeHeatFlag_holds .overTemp (fun z => z.overTemp) s.htc u
    (by rw [hholds]; exact hs .overTemp _ rfl)
  have hsensor := judgeHeatFlag_holds .heatSensor (fun z => z.missing) s.htc
    (judgeHeatFlag .overTemp (fun z => z.overTemp) s.htc u)
    (by rw [hover, getElem_set_index, if_neg (by decide), hholds]; exact hs .heatSensor _ rfl)
  generalize hv : judgeHeatFlag .heatSensor (fun z => z.missing) s.htc
    (judgeHeatFlag .overTemp (fun z => z.overTemp) s.htc u) = v at hsensor
  have hevent : heatSampleEvent e s = gradeTest (warmupTest (judgeOffBand (failingRecords v) (flagOffBand v))) := by
    rw [← hv, ← hu]
    rfl
  have hframe : v.htc = u.htc ∧ v.tnc = s.tnc ∧ v.bars = s.bars ∧ v.mou = s.mou := by
    subst hv hu
    simp
  obtain ⟨hhtc, htnc, hbars, hmou⟩ := hframe
  have hjudged : FlagsFollow v := by
    intro x c hc
    rw [hsensor, hover, getElem_set_index, getElem_set_index, hholds]
    have hold := hs x c
    cases x
    case overTemp => exact Option.some.inj (Eq.trans (by simp [conditionRule, hhtc]) hc)
    case heatSensor => exact Option.some.inj (Eq.trans (by simp [conditionRule, hhtc]) hc)
    all_goals exact hold (Eq.trans (by simp [conditionRule, htnc, hbars, hmou]) hc)
  obtain ⟨b, hband⟩ := judgeOffBand_holds (failingRecords v) (flagOffBand v)
  have hoff : FlagsFollow (judgeOffBand (failingRecords v) (flagOffBand v)) := by
    refine flagsFollow_set (src := .heatOffBand) (b := b) hjudged (by simpa using hband)
      (by simp [conditionRule]) fun x _ => ?_
    cases x <;> simp [conditionRule]
  rw [hevent]
  refine flagsFollow_congr (by simp) (fun i => ?_) (by simp) (by simp) (by simp) hoff
  rcases gradeTest_zone (warmupTest (judgeOffBand (failingRecords v) (flagOffBand v))) i with h | h | h | h <;>
    simp [-Fin.getElem_fin, h]

/-! ### The conditions over every step -/

/-- At a reset no flag is set and no condition holds, but for the fault inputs that are asserted (R188). -/
theorem flagsFollow_reset (s : State) : FlagsFollow (beginAtReset (resetBlocks s)) := by
  have hblank : ∀ src : AlertSource, (resetBlocks s).alc.holds[src.index] = false := fun src => by
    simp [resetBlocks, State.reset, Alc.reset]
  have hclear : ∀ src c, src ≠ .driveFault → src ≠ .barFault → conditionRule (resetBlocks s) src = some c →
      c = false := by
    intro src c hdrive hbar hc
    cases src
    case driveFault => exact absurd rfl hdrive
    case barFault => exact absurd rfl hbar
    case webBreak => exact (Option.some.inj hc).symm
    case overTemp => exact (Option.some.inj hc).symm
    case heatSensor => exact (Option.some.inj hc).symm
    case tensionWindow => exact (Option.some.inj hc).symm
    all_goals cases hc
  generalize resetBlocks s = u at hblank hclear ⊢
  generalize hv : (if u.mou.driveFault then beginCond .driveFault (plainCtx u 0) u else u) = v
  have hdrive : v.alc.holds = u.alc.holds.set AlertSource.driveFault.index u.mou.driveFault := by
    subst hv
    split
    · next h => rw [beginCond_holds, h]
    · next h =>
      rw [eq_false_of_ne_true h]
      exact (vector_set_self _ _ _ (hblank .driveFault)).symm
  have hbefore : barFaultHolds (vmap (fun b => { b with state := .active }) v.bars) = false := by
    by_contra h
    obtain ⟨k, hk⟩ := (vector_toList_any _ _).mp (eq_true_of_ne_false h)
    simp [vmap] at hk
  have hbar := judgeBarFault_holds (vmap (fun b => { b with state := .active }) v.bars) v (by
    rw [hdrive, getElem_set_index, if_neg (by decide), hblank, hbefore])
  have hreset : (beginAtReset u).alc.holds = v.alc.holds.set AlertSource.barFault.index (barFaultHolds v.bars) := by
    rw [← hbar, ← hv]
    rfl
  have hbars : v.bars = u.bars := by
    subst hv
    split <;> simp
  intro src c hc
  rw [hreset, hdrive, hbars, getElem_set_index, getElem_set_index]
  have hrule : conditionRule u src = some c := Eq.trans (by cases src <;> simp [conditionRule]) hc
  split
  · next h =>
    subst h
    exact Option.some.inj hrule
  · next hnotbar =>
    split
    · next h =>
      subst h
      exact Option.some.inj hrule
    · next hnotdrive => rw [hblank, hclear src c (Ne.symm hnotdrive) (Ne.symm hnotbar) hrule]

theorem flagsFollow_driveFaultLevel (x : Bool) (s : State) (hs : FlagsFollow s) :
    FlagsFollow (driveFaultLevel x s) := by
  unfold driveFaultLevel
  split
  · exact hs
  · have hother : ∀ u : State, (∀ y, conditionRule u y = conditionRule (s.setMou { s.mou with driveFault := x }) y) →
        u.alc.holds = s.alc.holds.set AlertSource.driveFault.index x → FlagsFollow u := by
      intro u hrule hset
      refine flagsFollow_set hs hset (fun c hc => ?_) fun y hy => ?_
      · rw [hrule] at hc
        exact Option.some.inj hc
      · rw [hrule]
        cases y
        case driveFault => exact absurd rfl hy
        all_goals rfl
    simp only
    split
    · next hx => exact hother _ (fun y => by cases y <;> simp [conditionRule]) (by simp [beginCond_holds, hx])
    · next hx => exact hother _ (fun y => by cases y <;> simp [conditionRule]) (by simp [endCond_holds, hx])

theorem flagsFollow_perform (s : State) (r : Request) (hs : FlagsFollow s) : FlagsFollow (perform r s).1 := by
  cases r
  case barConfig bars =>
    have hjudged := flagsFollow_judgeBarFault
      (u := s.setBars (Vector.ofFn fun k => configuredBar s k (barSetOf bars)[k] s.bars[k])) hs
      (by simp) (by simp) (by simp) (by simp)
    exact flagsFollow_congr (by simp [perform, barConfigEffect]) (by simp [perform, barConfigEffect])
      (by simp [perform, barConfigEffect]) (by simp [perform, barConfigEffect]) (by simp [perform,
        barConfigEffect]) hjudged
  case clearLine =>
    exact flagsFollow_congr (by simp [perform])
      (by simp [perform, clearEffect, clearHtc, clearSat, -Fin.getElem_fin])
      (by simp [perform]) (by simp [perform]) (by simp [perform]) hs
  all_goals
    exact flagsFollow_congr (by simp [perform]) (by simp [perform]) (by simp [perform]) (by simp [perform])
      (by simp [perform]) hs

theorem flagsFollow_taken (s t : State) (hs : FlagsFollow s) (h : Taken s t) : FlagsFollow t := by
  apply taken_keeps (P := FlagsFollow) (s := s) (t := t) (hs := hs) (h := h)
  case hsettle => exact fun s => flagsFollow_congr (by simp) (by simp) (by simp) (by simp) (by simp)
  case hevent =>
    intro s t hs h
    cases h
    case driveFaultInput x => exact flagsFollow_driveFaultLevel x s hs
    case barFaultInput k x => exact flagsFollow_judgeBarFault hs (by simp) (by simp) (by simp) (by simp)
    case tensionReading z n => exact flagsFollow_judgeTension z hs (by simp) (by simp) (by simp) (by simp)
    case tensionMissing z =>
      unfold missingExpired
      split
      · exact flagsFollow_judgeTension z hs (by simp) (by simp) (by simp) (by simp)
      · exact hs
    case heatSample e => exact flagsFollow_heatSampleEvent e s hs
    case hardwareReset => exact flagsFollow_reset s
    case linkTimeout =>
      refine flagsFollow_set (src := .linkLost) (b := (linkExpired s).alc.holds[AlertSource.linkLost.index]) hs ?_
        (by simp [conditionRule]) fun x _ => by cases x <;> simp [conditionRule]
      generalize hu : linkExpired s = u
      simp only [linkExpired] at hu
      split at hu <;> subst hu <;> simp [beginCond_holds, vector_set_self]
    all_goals exact flagsFollow_congr (by simp) (by simp) (by simp) (by simp) (by simp) hs
  case hperform => exact fun s r hs _ _ => flagsFollow_perform s r hs
  case hgood =>
    intro s hs
    refine flagsFollow_set (src := .linkLost) (b := (goodFrame s).alc.holds[AlertSource.linkLost.index]) hs ?_
      (by simp [conditionRule]) fun x _ => by cases x <;> simp [conditionRule]
    generalize hu : goodFrame s = u
    simp only [goodFrame] at hu
    (repeat' split at hu) <;> subst hu <;> simp [endCond_holds, vector_set_self]
  case hcheck =>
    intro s slot id f hs _
    generalize hu : endCheck slot id f s = u
    simp only [endCheck] at hu
    split at hu <;> subst hu <;> exact flagsFollow_congr (by simp) (by simp) (by simp) (by simp) (by simp) hs
  all_goals
    intros
    refine flagsFollow_congr ?_ ?_ ?_ ?_ ?_ ‹FlagsFollow _› <;> simp

/-- Settles O16: each event that changes what a condition stands for judges it, net over the event. -/
theorem conditionsTrackKept : Obligations.ConditionsTrackKept := by
  intro s t hs h
  rw [conditionsTrack_iff] at hs ⊢
  exact step_keeps (P := FlagsFollow) (fun _ _ => id) flagsFollow_taken hs h

end Sys2Proof.Machine
end

section
/-! SUPPORT and the settling of O7. The list changes in three ways: records advance, records leave, and a record opens
behind the last one (R106, R109). -/

namespace Sys2Proof.Machine

theorem runListOrdered_congr {s t : State} (hrls : t.rls = s.rls) (hline : t.line = s.line) (hs : RunListOrdered s) :
    RunListOrdered t := by
  unfold RunListOrdered
  rw [hrls, hline]
  exact hs

/-- Records that advance keep tag, place and length (R105). -/
theorem runListOrdered_evolves {s t : State} (h : Evolves s.rls t.rls) (hline : t.line = s.line)
    (hs : RunListOrdered s) : RunListOrdered t := by
  obtain ⟨hlength, htags, hstarts, hlengths, hbase⟩ := hs
  have hstart : t.rls.map Segment.start = s.rls.map Segment.start :=
    h.map_eq _ fun _ _ hr => hr.bound.2.2.2.2.1
  refine ⟨by rw [h.length]; exact hlength, by rw [h.tags]; exact htags, ?_, fun r' hr' => ?_,
    by rw [hline]; exact hbase⟩
  · rw [← List.pairwise_map (f := Segment.start) (R := (· < ·))] at hstarts ⊢
    rwa [hstart]
  · obtain ⟨r, hr, hstays⟩ := h.mem hr'
    obtain ⟨-, -, -, -, -, -, hlen, -⟩ := hstays.bound
    exact hlen ▸ hlengths r hr

/-- What leaves the list leaves the rest in order. -/
theorem runListOrdered_sublist {s t : State} (h : t.rls.Sublist s.rls) (hline : t.line = s.line)
    (hs : RunListOrdered s) : RunListOrdered t := by
  obtain ⟨hlength, htags, hstarts, hlengths, hbase⟩ := hs
  exact ⟨h.length_le.trans hlength, htags.sublist (h.map _), hstarts.sublist h, fun r hr => hlengths r (h.subset hr),
    by rw [hline]; exact hbase⟩

/-- A SEGMENT_ABORT removes a record or lets the list advance (R120). -/
theorem abortEffect_list (t : Tag) (s : State) :
    Evolves s.rls (abortEffect t s).rls ∨ (abortEffect t s).rls.Sublist s.rls := by
  unfold abortEffect
  split
  · exact .inl (.refl _)
  · split
    · exact .inr (by rw [abortWaiting_rls]; exact List.filter_sublist)
    · exact .inl (evolves_abortPrinting _ s)
    · exact .inl (evolves_abortFlags _ s)

/-- The end of an upstream frame takes at most a record out of the list (R125). -/
theorem frameSent_sublist (s : State) : (frameSent s).rls.Sublist s.rls := by
  unfold frameSent
  split
  · unfold traceDone
    split
    · split
      · rw [removeSegment_rls]
        exact List.filter_sublist
      · exact List.Sublist.refl _
    · exact List.Sublist.refl _
  all_goals exact List.Sublist.refl _

/-! ### A record that opens -/

theorem pitchOne_le_segmentPitch {base : Nat} (stretch : Nat) (h : Config.minPitch ≤ base) :
    Config.pitchOne ≤ segmentPitch base stretch := by
  have hle : base ≤ stretchedPitch base stretch := Nat.le_add_right _ _
  exact le_min (le_trans h hle) (by decide)

theorem segmentLength_pos {lines pitch : Nat} (hlines : 1 ≤ lines) (hpitch : Config.pitchOne ≤ pitch) :
    1 ≤ segmentLength lines pitch :=
  (Nat.one_le_div_iff (by decide)).mpr (le_trans hpitch (Nat.le_mul_of_pos_left _ hlines))

/-- A new record starts behind every record of the list (R109). -/
theorem start_lt_newStart {s : State} (hs : RunListOrdered s) (gap : Nat) {r : Segment} (hr : r ∈ s.rls) :
    r.start < newStart s gap := by
  obtain ⟨-, -, hstarts, hlengths, -⟩ := hs
  unfold newStart
  split
  · next last hlast =>
    have hmem := List.mem_of_getLast? hlast
    have hle : r.start ≤ last.start := by
      obtain ⟨init, hinit⟩ := List.getLast?_eq_some_iff.mp hlast
      rw [hinit, List.pairwise_append] at hstarts
      rw [hinit, List.mem_append, List.mem_singleton] at hr
      rcases hr with hr | rfl
      · exact (hstarts.2.2 r hr last (List.mem_singleton_self _)).le
      · exact le_rfl
    have hpos := hlengths last hmem
    omega
  · next hnone =>
    rw [List.getLast?_eq_none_iff.mp hnone] at hr
    cases hr

theorem length_lt_of_openObject {s : State} {slot : Fin 8} {tag : Tag} (h : openObject s slot tag = none) :
    s.rls.length < Config.runListPlaces := by
  unfold openObject at h
  split at h
  · cases h
  · split at h
    · cases h
    · omega

theorem runListOrdered_openEffect {s : State} {slot : Fin 8} {tag : Tag} {lines : Nat} (gap : Nat)
    (hs : RunListOrdered s) (hobject : openObject s slot tag = none) (hlines : 1 ≤ lines) :
    RunListOrdered (openEffect slot tag lines gap s) := by
  unfold openEffect
  split
  · next bank h fabric f _ _ =>
    have hnew := fun r hr => start_lt_newStart hs gap (r := r) hr
    obtain ⟨-, htags, hstarts, hlengths, hbase⟩ := hs
    unfold RunListOrdered
    rw [addSegment_rls]
    refine ⟨?_, ?_, ?_, ?_, by simpa using hbase⟩
    · simpa using length_lt_of_openObject hobject
    · rw [List.map_append, List.nodup_append]
      refine ⟨htags, by simp, ?_⟩
      simpa [newSegment] using tag_new_of_openObject hobject
    · rw [List.pairwise_append]
      exact ⟨hstarts, List.pairwise_singleton _ _, by simpa [newSegment] using hnew⟩
    · simp only [List.mem_append, List.mem_singleton]
      rintro r (hr | rfl)
      · exact hlengths r hr
      · exact segmentLength_pos hlines (pitchOne_le_segmentPitch _ hbase)
  · exact hs

/-! ### The list over every step -/

theorem runListOrdered_perform (s : State) (r : Request) (hs : RunListOrdered s) (hpass : refusal s r = none) :
    RunListOrdered (perform r s).1 := by
  have hrange := rangeOk_of_refusal hpass
  cases r
  case lineConfig c =>
    obtain ⟨hlength, htags, hstarts, hlengths, -⟩ := hs
    refine ⟨hlength, htags, hstarts, hlengths, ?_⟩
    simp only [rangeOk, lineRangeOk, inRange, Bool.and_eq_true, decide_eq_true_eq] at hrange
    exact hrange.1.2.1
  case segmentOpen slot seg lines gap =>
    simp only [rangeOk, Bool.and_eq_true, decide_eq_true_eq] at hrange
    exact runListOrdered_openEffect _ hs (openObject_of_refusal hpass) hrange.2
  case segmentAbort seg =>
    rcases abortEffect_list seg s with h | h
    · exact runListOrdered_evolves h (by simp [perform]) hs
    · exact runListOrdered_sublist h (by simp [perform]) hs
  case clearLine =>
    exact runListOrdered_sublist (by simp only [perform, clearEffect_rls]; exact List.nil_sublist _) (by simp [perform])
      hs
  case barConfig bars => exact runListOrdered_evolves (evolves_barConfigEffect _ s) (by simp [perform]) hs
  case stop => exact runListOrdered_evolves (evolves_stopDirective s) (by simp [perform]) hs
  all_goals exact runListOrdered_congr (by simp [perform]) (by simp [perform]) hs

theorem runListOrdered_taken (s t : State) (hs : RunListOrdered s) (h : Taken s t) : RunListOrdered t := by
  apply path_keeps (P := RunListOrdered) (s := s) (t := t) (hs := hs) (h := h)
  case hsame => exact fun s t h => runListOrdered_congr h.rls h.line
  case hsettle => exact fun s => runListOrdered_evolves (evolves_settle s) (by simp)
  case hsent => exact fun s => runListOrdered_sublist (frameSent_sublist s) (by simp)
  case hencoder => exact fun s a b => runListOrdered_evolves (evolves_encoderLevels a b s) (by simp)
  case hsample => exact fun s => runListOrdered_evolves (evolves_sampleLine s) (by simp)
  case hheat => exact fun s e => runListOrdered_evolves (evolves_heatSampleEvent e s) (by simp)
  case hcommit => exact fun s seg l o c => runListOrdered_evolves (evolves_commitLine seg l o c s) (by simp)
  case hreset =>
    intro s _
    exact runListOrdered_congr (s := State.reset) (by simp [resetBlocks]) (by simp [resetBlocks]) (by decide)
  case hperform => exact fun s r hs _ hpass => runListOrdered_perform s r hs hpass
  all_goals
    intros
    refine runListOrdered_congr ?_ ?_ ‹RunListOrdered _› <;> simp

/-- Settles O7: a record opens behind the last one, and nothing else puts one into the list or moves it. -/
theorem runListKept : Obligations.RunListKept :=
  fun _ _ hs h => step_keeps (P := RunListOrdered) (fun _ _ => id) runListOrdered_taken hs h

end Sys2Proof.Machine
end

section
/-! SUPPORT and the settling of O8. The terms of the speed target and of the heat target, and who forms the targets
again when one of them changes (R100, R151, R152). -/

namespace Sys2Proof.Machine

/-! ### The calender states of the list -/

theorem modSeg_calenders {f : Segment → Segment} (t : Tag) (l : List Segment) (h : ∀ r, (f r).calender = r.calender) :
    (modSeg t f l).map Segment.calender = l.map Segment.calender := by
  unfold modSeg
  rw [List.map_map]
  refine List.map_congr_left fun r _ => ?_
  simp only [Function.comp]
  split <;> simp [h]

@[simp] theorem spoilArc_calenders (s : State) : (spoilArc s).rls.map Segment.calender = s.rls.map Segment.calender :=
  by
  simp only [spoilArc, State.setRls_rls, List.map_map]
  refine List.map_congr_left fun r _ => ?_
  simp only [Function.comp]
  split <;> rfl

@[simp] theorem enterStopping_calenders (c : StopCause) (s : State) :
    (enterStopping c s).rls.map Segment.calender = s.rls.map Segment.calender := by
  unfold enterStopping
  simp only
  split <;> simp

@[simp] theorem stopReaction_calenders (s : State) :
    (stopReaction s).rls.map Segment.calender = s.rls.map Segment.calender := by
  unfold stopReaction
  split <;> simp

@[simp] theorem handReaction_calenders (s : State) :
    (handReaction s).rls.map Segment.calender = s.rls.map Segment.calender := by
  unfold handReaction
  simp only
  split
  · rfl
  · split <;> simp

@[simp] theorem ltxChoose_calenders (s : State) :
    (ltxChoose s).rls.map Segment.calender = s.rls.map Segment.calender := by
  generalize h : ltxChoose s = t
  simp only [ltxChoose] at h
  (repeat' split at h) <;> subst h <;> simp [State.modSegment, modSeg_calenders]

@[simp] theorem settle_calenders (s : State) : (settle s).rls.map Segment.calender = s.rls.map Segment.calender := by
  simp [settle]

@[simp] theorem dwellRecord_calenders (s : State) (t : Tag) :
    (dwellRecord s t).rls.map Segment.calender = s.rls.map Segment.calender := by
  have hstep : ∀ r, (dwellStep s.line s.mou.speed r).1.calender = r.calender := by
    intro r
    unfold dwellStep
    (repeat' split) <;> rfl
  generalize h : dwellRecord s t = u
  simp only [dwellRecord] at h
  (repeat' split at h) <;> subst h <;> simp [State.modSegment, modSeg_calenders, hstep]

@[simp] theorem dwellSample_calenders (s : State) :
    (dwellSample s).rls.map Segment.calender = s.rls.map Segment.calender := by
  unfold dwellSample
  generalize s.rls.map Segment.tag = l
  induction l generalizing s with
  | nil => rfl
  | cons t l ih => exact (ih (dwellRecord s t)).trans (by simp)

@[simp] theorem sealSegment_calenders (t : Tag) (s : State) :
    (sealSegment t s).rls.map Segment.calender = s.rls.map Segment.calender := by
  generalize h : sealSegment t s = u
  simp only [sealSegment] at h
  (repeat' split at h) <;> subst h <;> simp [State.modSegment, modSeg_calenders]

@[simp] theorem fillNextLine_calenders (t : Tag) (n lines : Nat) (s : State) :
    (fillNextLine t n lines s).rls.map Segment.calender = s.rls.map Segment.calender := by
  unfold fillNextLine
  split <;> simp

@[simp] theorem commitLine_calenders (seg : Tag) (line offset count : Nat) (s : State) :
    (commitLine seg line offset count s).rls.map Segment.calender = s.rls.map Segment.calender := by
  generalize h : commitLine seg line offset count s = u
  simp only [commitLine] at h
  (repeat' split at h) <;> subst h <;> simp

@[simp] theorem declareLost_calenders (r : Segment) (n : Nat) (s : State) :
    (declareLost r n s).rls.map Segment.calender = s.rls.map Segment.calender := by
  simp [declareLost, State.modSegment, modSeg_calenders, Segment.setFlags]

@[simp] theorem handleLine_calenders (k : Bar) (r : Segment) (n : Nat) (s : State) :
    (handleLine k r n s).rls.map Segment.calender = s.rls.map Segment.calender := by
  have hreport : ∀ (u : State) (x : Segment),
      (if n + 1 = x.lines then
        printTest u { (if k = bar1 ∧ n = 0 ∧ x.print = .waiting then { x with print := .printing } else x) with
          printedBy := (if k = bar1 ∧ n = 0 ∧ x.print = .waiting then
            ({ x with print := .printing } : Segment) else x).printedBy.set k true }
        else if k = bar1 ∧ n = 0 ∧ x.print = .waiting then { x with print := .printing } else x).calender
        = x.calender := by
    intro u x
    unfold printTest
    (repeat' split) <;> rfl
  have hfire : ∀ u : State, (fireOrMiss k r n u).rls.map Segment.calender = u.rls.map Segment.calender := by
    intro u
    unfold fireOrMiss
    split <;> simp [State.modSegment, modSeg_calenders, Segment.setFlags]
  simp only [handleLine, reportHandling, State.modBar, State.setBars_rls, State.modSegment, State.setRls_rls]
  rw [modSeg_calenders _ _ (hreport _), hfire]
  split <;> simp

@[simp] theorem handleDue_calenders (k : Bar) (fuel : Nat) (s : State) :
    (handleDue k fuel s).rls.map Segment.calender = s.rls.map Segment.calender := by
  induction fuel generalizing s with
  | zero => rfl
  | succ fuel ih =>
    unfold handleDue
    (repeat' split) <;> simp [ih]

@[simp] theorem barAdvance_calenders (s : State) (k : Bar) :
    (barAdvance s k).rls.map Segment.calender = s.rls.map Segment.calender := by
  unfold barAdvance
  simp only
  split <;> simp [State.modBar]

@[simp] theorem barsAdvance_calenders (s : State) :
    (barsAdvance s).rls.map Segment.calender = s.rls.map Segment.calender := by
  simp [barsAdvance, allBars]

@[simp] theorem barConfigEffect_calenders (en : Vector Bool 6) (s : State) :
    (barConfigEffect en s).rls.map Segment.calender = s.rls.map Segment.calender := by
  have htest : ∀ (u : State) (r : Segment), (printTest u r).calender = r.calender := by
    intro u r
    unfold printTest
    split <;> rfl
  simp [barConfigEffect, Function.comp_def, htest]

@[simp] theorem flagOffBand_calenders (s : State) :
    (flagOffBand s).rls.map Segment.calender = s.rls.map Segment.calender := by
  simp only [flagOffBand, State.setRls_rls, List.map_map]
  refine List.map_congr_left fun r _ => ?_
  simp only [Function.comp]
  split <;> rfl

@[simp] theorem abortFlags_calenders (t : Tag) (s : State) :
    (abortFlags t s).rls.map Segment.calender = s.rls.map Segment.calender :=
  modSeg_calenders _ _ fun _ => rfl

@[simp] theorem abortPrinting_calenders (r : Segment) (s : State) :
    (abortPrinting r s).rls.map Segment.calender = s.rls.map Segment.calender := by
  generalize h : abortPrinting r s = u
  simp only [abortPrinting] at h
  (repeat' split at h) <;> subst h <;> simp

/-! ### The terms of the targets -/

/-- What the speed target reads of a record (R99, R100). -/
def speedTerms (r : Segment) : CalenderState × Nat × Nat :=
  (r.calender, r.start, r.minDwell)

/-- What the heat target reads of a record (R151). -/
def heatTerms (r : Segment) : Tag × Nat × Int × Nat :=
  (r.tag, r.start, r.needed, r.tolerance)

/-- The speed target reads the live records' terms alone (R100). -/
theorem capsInForce_eq (s : State) : capsInForce s =
    (((s.rls.filter Segment.live).map speedTerms).filter fun x =>
      decide (x.1 = .inArc) || decide (x.2.1 + s.line.nipDist ≤ s.htc.pHigh + s.htc.group.dHeat)).map
      fun x => max 1 (s.line.arcLen * 1000000 / (s.line.countsPerM * x.2.2)) := by
  simp only [capsInForce, List.filter_map, List.map_map, List.filter_filter]
  congr 1
  refine List.filter_congr fun r _ => ?_
  exact Bool.and_comm _ _

/-- The heat target's record (R151). -/
def aimRecord (s : State) (l : List (Tag × Nat × Int × Nat)) : Option (Tag × Nat × Int × Nat) :=
  if s.mou.mode = .warmup then l.head?
  else l.reverse.find? fun x => decide (x.2.1 + s.line.nipDist ≤ s.htc.pHigh + s.htc.group.dHeat)

/-- The heat target reads the live records' terms alone (R151). -/
theorem heatAim_eq (s : State) : heatAim s =
    if s.alc.reaction = .stop then (s.htc.group.standby, s.htc.group.idleBand, .standby)
    else match aimRecord s ((s.rls.filter Segment.live).map heatTerms) with
      | some x => (x.2.2.1, x.2.2.2, .segment x.1)
      | none => (s.htc.group.idle, s.htc.group.idleBand, .idle) := by
  have hold : ((s.rls.filter Segment.live).map heatTerms).head? = (oldestLive s.rls).map heatTerms := by
    simp [oldestLive, List.head?_filter]
  have hnew : (((s.rls.filter Segment.live).map heatTerms).reverse.find? fun x =>
      decide (x.2.1 + s.line.nipDist ≤ s.htc.pHigh + s.htc.group.dHeat))
        = (newestLive (fun r => lookAheadReached s r s.htc.pHigh) s.rls).map heatTerms := by
    rw [← List.map_reverse, List.find?_map, ← List.filter_reverse, List.find?_filter]
    refine congrArg _ (congrArg (List.find? · _) (funext fun r => ?_))
    rw [Bool.eq_iff_iff]
    refine decide_eq_true_iff.trans ?_
    simp only [heatTerms, lookAheadReached, Bool.and_eq_true, decide_eq_true_eq]
    exact and_congr_right fun _ => decide_eq_true_iff
  unfold heatAim aimRecord
  split
  · rfl
  · split
    · rw [hold]
      cases oldestLive s.rls <;> rfl
    · rw [hnew]
      cases newestLive _ s.rls <;> rfl

theorem speedTarget_congr {s t : State} (hcaps : t.mou.mode = .run → capsInForce t = capsInForce s)
    (hline : t.line.creep = s.line.creep) (hmode : t.mou.mode = s.mou.mode) (hspeed : t.mou.requested = s.mou.requested)
    (hreaction : t.alc.reaction = s.alc.reaction) : speedTarget t = speedTarget s := by
  unfold speedTarget
  rw [hline, hmode, hspeed, hreaction]
  split
  · next h => rw [hcaps (hmode.trans h)]
  · rfl

/-- Where a key that tells the live records is kept, so are the readings of the live records that it decides. -/
theorem live_map_eq {α κ : Type} {l l' : List Segment} (h : Evolves l l') (k : Segment → κ) (hk : l'.map k = l.map k)
    (hlive : ∀ r r', k r' = k r → r'.live = r.live) (f : Segment → α)
    (hf : ∀ r r', Stays r r' → k r' = k r → f r' = f r) :
    (l'.filter Segment.live).map f = (l.filter Segment.live).map f := by
  induction h with
  | nil => rfl
  | cons hr _ ih =>
    obtain ⟨hhead, htail⟩ := List.cons.inj hk
    simp only [List.filter_cons, hlive _ _ hhead]
    split
    · rw [List.map_cons, List.map_cons, ih htail, hf _ _ hr hhead]
    · exact ih htail

theorem heatTerms_of_stays {r r' : Segment} (h : Stays r r') : heatTerms r' = heatTerms r := by
  obtain ⟨htag, -, -, -, hstart, -, -, -, -, -, hneeded, htolerance, -⟩ := h.bound
  simp [heatTerms, htag, hstart, hneeded, htolerance]

theorem speedTerms_of_stays {r r' : Segment} (h : Stays r r') (hcalender : r'.calender = r.calender) :
    speedTerms r' = speedTerms r := by
  obtain ⟨-, -, -, -, hstart, -, -, -, -, -, -, -, hdwell, -⟩ := h.bound
  simp [speedTerms, hcalender, hstart, hdwell]

/-- Two states agree on every term of both targets, and on the targets. -/
structure SameTerms (s t : State) : Prop where
  tags : (s.rls.map Segment.tag).Nodup → (t.rls.map Segment.tag).Nodup
  speed : (t.rls.filter Segment.live).map speedTerms = (s.rls.filter Segment.live).map speedTerms
  heat : (t.rls.filter Segment.live).map heatTerms = (s.rls.filter Segment.live).map heatTerms
  line : t.line = s.line
  mode : t.mou.mode = s.mou.mode
  requested : t.mou.requested = s.mou.requested
  high : t.htc.pHigh = s.htc.pHigh
  group : t.htc.group = s.htc.group
  reaction : t.alc.reaction = s.alc.reaction
  target : t.mou.target = s.mou.target
  reference : t.mou.reference = s.mou.reference
  aim : (t.htc.target, t.htc.band, t.htc.source) = (s.htc.target, s.htc.band, s.htc.source)

/-- A list that has evolved with its calender states kept has the terms it had. -/
theorem SameTerms.of_evolves {s t : State} (h : Evolves s.rls t.rls)
    (hcalender : t.rls.map Segment.calender = s.rls.map Segment.calender)
    (line : t.line = s.line) (mode : t.mou.mode = s.mou.mode) (requested : t.mou.requested = s.mou.requested)
    (high : t.htc.pHigh = s.htc.pHigh) (group : t.htc.group = s.htc.group)
    (reaction : t.alc.reaction = s.alc.reaction) (target : t.mou.target = s.mou.target)
    (reference : t.mou.reference = s.mou.reference)
    (aim : (t.htc.target, t.htc.band, t.htc.source) = (s.htc.target, s.htc.band, s.htc.source)) : SameTerms s t := by
  have hlive : ∀ r r' : Segment, r'.calender = r.calender → r'.live = r.live := fun r r' hr => by
    simp [Segment.live, hr]
  refine ⟨fun htags => by rwa [h.tags], ?_, ?_, line, mode, requested, high, group, reaction, target, reference, aim⟩
  · exact live_map_eq h _ hcalender hlive _ fun _ _ => speedTerms_of_stays
  · exact live_map_eq h _ hcalender hlive _ fun _ _ hr _ => heatTerms_of_stays hr

theorem SameTerms.speedFormed {s t : State} (h : SameTerms s t) (hs : SpeedFormed s) : SpeedFormed t := by
  obtain ⟨htags, htarget, hrun, hrest⟩ := hs
  have hform : speedTarget t = speedTarget s := by
    refine speedTarget_congr (fun _ => ?_) (by rw [h.line]) h.mode h.requested h.reaction
    rw [capsInForce_eq, capsInForce_eq, h.speed, h.line, h.high, h.group]
  unfold SpeedFormed
  rw [hform, h.target, h.reference, h.mode]
  exact ⟨h.tags htags, htarget, hrun, hrest⟩

theorem SameTerms.heatFormed {s t : State} (h : SameTerms s t) (hs : HeatFormed s) : HeatFormed t := by
  obtain ⟨htags, haim⟩ := hs
  refine ⟨h.tags htags, h.aim.trans (haim.trans ?_)⟩
  simp only [heatAim_eq, aimRecord, h.heat, h.line, h.mode, h.high, h.group, h.reaction]

/-! ### Targets formed again -/

/-- In STANDBY, WARMUP and HALTED the reference is 0 (R100). -/
def AtRest (s : State) : Prop :=
  s.mou.mode = .standby ∨ s.mou.mode = .warmup ∨ s.mou.mode = .halted → s.mou.reference = 0

/-- The speed target, formed again, is formed, and the reference obeys it (R100). -/
theorem speedFormed_formSpeed {s : State} (htags : (s.rls.map Segment.tag).Nodup) (hrest : AtRest s) :
    SpeedFormed (formSpeed s) := by
  have hform : speedTarget (formSpeed s) = speedTarget s :=
    speedTarget_congr (fun _ => by simp [capsInForce_eq]) (by simp) (by simp [formSpeed]) (by simp [formSpeed])
      (by simp)
  refine ⟨by simpa using htags, ?_, ?_, ?_⟩
  · rw [hform]
    simp [formSpeed]
  · simp only [formSpeed, State.setMou_mou]
    intro hrun
    split
    · exact le_rfl
    · next h => exact not_lt.mp fun hlt => h ⟨hrun, hlt⟩
  · simp only [formSpeed, State.setMou_mou]
    intro hmode
    split
    · next h => rcases hmode with h' | h' | h' <;> rw [h.1] at h' <;> cases h'
    · exact hrest hmode

theorem heatFormed_formHeat {s : State} (htags : (s.rls.map Segment.tag).Nodup) : HeatFormed (formHeat s) := by
  refine ⟨by simpa using htags, ?_⟩
  simp only [heatAim_eq, aimRecord]
  simp [formHeat, heatAim_eq, aimRecord]

/-- After a change of the state both targets are as they were, or have been formed again. -/
def Retargeted (s t : State) : Prop :=
  SameTerms s t ∨ ((s.rls.map Segment.tag).Nodup → (AtRest s → SpeedFormed t) ∧ HeatFormed t)

theorem Retargeted.speedFormed {s t : State} (h : Retargeted s t) (hs : SpeedFormed s) : SpeedFormed t := by
  rcases h with h | h
  · exact h.speedFormed hs
  · exact (h hs.1).1 hs.2.2.2

theorem Retargeted.heatFormed {s t : State} (h : Retargeted s t) (hs : HeatFormed s) : HeatFormed t := by
  rcases h with h | h
  · exact h.heatFormed hs
  · exact (h hs.1).2

theorem speedFormed_formHeat {s : State} (hs : SpeedFormed s) : SpeedFormed (formHeat s) := by
  have hform : speedTarget (formHeat s) = speedTarget s :=
    speedTarget_congr (fun _ => by simp [capsInForce_eq]) (by simp) (by simp) (by simp) (by simp)
  unfold SpeedFormed
  rw [hform]
  simpa using hs

/-- Both targets formed again. -/
theorem retargeted_formed {s u : State} (htags : (s.rls.map Segment.tag).Nodup → (u.rls.map Segment.tag).Nodup)
    (hrest : AtRest s → AtRest u) : Retargeted s (formHeat (formSpeed u)) :=
  .inr fun hs => ⟨fun h => speedFormed_formHeat (speedFormed_formSpeed (htags hs) (hrest h)),
    heatFormed_formHeat (by simpa using htags hs)⟩

/-- A change of mode forms both targets again, and rests the reference where the mode says so (R100, R152). -/
theorem retargeted_enterMode (m : LineMode) (s u : State)
    (htags : (s.rls.map Segment.tag).Nodup → (u.rls.map Segment.tag).Nodup) : Retargeted s (enterMode m u) := by
  refine .inr fun hs => ⟨fun _ => speedFormed_formHeat (speedFormed_formSpeed ?_ ?_), heatFormed_formHeat ?_⟩
  · simpa using htags hs
  · intro hmode
    exact if_pos hmode
  · simpa using htags hs

theorem SameTerms.trans {s t u : State} (h1 : SameTerms s t) (h2 : SameTerms t u) : SameTerms s u :=
  ⟨fun h => h2.tags (h1.tags h), h2.speed.trans h1.speed, h2.heat.trans h1.heat, h2.line.trans h1.line,
    h2.mode.trans h1.mode, h2.requested.trans h1.requested, h2.high.trans h1.high, h2.group.trans h1.group,
    h2.reaction.trans h1.reaction, h2.target.trans h1.target, h2.reference.trans h1.reference, h2.aim.trans h1.aim⟩

theorem SameTerms.then {s t u : State} (h1 : SameTerms s t) (h2 : Retargeted t u) : Retargeted s u := by
  rcases h2 with h2 | h2
  · exact .inl (h1.trans h2)
  · refine .inr fun hs => ⟨fun hrest => (h2 (h1.tags hs)).1 ?_, (h2 (h1.tags hs)).2⟩
    unfold AtRest
    rw [h1.mode, h1.reference]
    exact hrest

theorem Retargeted.same {s t u : State} (h1 : Retargeted s t) (h2 : SameTerms t u) : Retargeted s u := by
  rcases h1 with h1 | h1
  · exact .inl (h1.trans h2)
  · exact .inr fun hs => ⟨fun hrest => h2.speedFormed ((h1 hs).1 hrest), h2.heatFormed (h1 hs).2⟩

theorem SameTerms.of_rls_eq {s t : State} (rls : t.rls = s.rls) (line : t.line = s.line)
    (mode : t.mou.mode = s.mou.mode) (requested : t.mou.requested = s.mou.requested)
    (high : t.htc.pHigh = s.htc.pHigh) (group : t.htc.group = s.htc.group)
    (reaction : t.alc.reaction = s.alc.reaction) (target : t.mou.target = s.mou.target)
    (reference : t.mou.reference = s.mou.reference)
    (aim : (t.htc.target, t.htc.band, t.htc.source) = (s.htc.target, s.htc.band, s.htc.source)) : SameTerms s t :=
  .of_evolves (.of_eq rls) (by rw [rls]) line mode requested high group reaction target reference aim

theorem atRest_congr {s t : State} (hmode : t.mou.mode = s.mou.mode) (href : t.mou.reference = s.mou.reference)
    (h : AtRest s) : AtRest t := by
  unfold AtRest
  rw [hmode, href]
  exact h

/-! ### Who forms the targets again -/

theorem atRest_stopReaction (s : State) (h : AtRest s) : AtRest (stopReaction s) := by
  have hstopping : ∀ u : State, AtRest (enterMode .stopping u) := fun u hmode => by
    simp [enterMode] at hmode
  unfold stopReaction
  split
  · exact hstopping _
  · exact hstopping _
  · exact h
  · exact h
  · exact h

theorem retargeted_handReaction (s : State) : Retargeted s (handReaction s) := by
  unfold handReaction
  simp only
  split
  · exact .inl (.of_rls_eq rfl rfl rfl rfl rfl rfl rfl rfl rfl rfl)
  · refine retargeted_formed (fun htags => ?_) fun hrest => ?_
    · split
      · rwa [(evolves_stopReaction _).tags]
      · exact htags
    · split
      · exact atRest_stopReaction _ hrest
      · exact hrest

theorem retargeted_settle (s : State) : Retargeted s (settle s) := by
  have hlog : SameTerms s (logAndEvaluate s) := by apply SameTerms.of_rls_eq <;> simp
  have hchoose : SameTerms (handReaction (logAndEvaluate s)) (settle s) := by
    apply SameTerms.of_evolves (evolves_ltxChoose _) (ltxChoose_calenders _) <;> simp [settle]
  exact hlog.then ((retargeted_handReaction _).same hchoose)

theorem retargeted_enterStopping (c : StopCause) (s : State) : Retargeted s (enterStopping c s) := by
  refine retargeted_enterMode _ _ _ fun htags => ?_
  split
  · simpa [(evolves_spoilArc s).tags] using htags
  · simpa using htags

theorem retargeted_stopDirective (s : State) : Retargeted s (stopDirective s) := by
  have hsame : Retargeted s s := .inl (.of_rls_eq rfl rfl rfl rfl rfl rfl rfl rfl rfl rfl)
  unfold stopDirective
  split
  · exact retargeted_enterMode _ _ _ id
  · exact retargeted_enterStopping _ s
  · exact hsame
  · exact hsame
  · exact hsame

theorem evolves_flagOffBand (s : State) : Evolves s.rls (flagOffBand s).rls := by
  refine evolves_map _ fun r => ?_
  split
  · exact stays_flags r _ (by simp)
  · exact .refl r

theorem sameTerms_gradeTest (s : State) : SameTerms s (gradeTest s) := by
  apply SameTerms.of_rls_eq <;> simp

theorem retargeted_warmupTest (s : State) : Retargeted s (warmupTest s) := by
  unfold warmupTest warmupComplete
  split
  · split
    · exact retargeted_enterMode _ _ _ id
    · exact .inl (.of_rls_eq rfl rfl rfl rfl rfl rfl rfl rfl rfl rfl)
  · exact .inl (.of_rls_eq rfl rfl rfl rfl rfl rfl rfl rfl rfl rfl)

theorem retargeted_heatSampleEvent (e : Vector (Option Int) 4) (s : State) : Retargeted s (heatSampleEvent e s) := by
  unfold heatSampleEvent
  simp only
  generalize hu : judgeHeatFlag .heatSensor (fun z => z.missing) s.htc
    (judgeHeatFlag .overTemp (fun z => z.overTemp) s.htc (s.modHtc (heatZoneSteps e))) = u
  have hzones : SameTerms s u := by
    subst hu
    apply SameTerms.of_rls_eq <;> simp
  have hband : SameTerms u (judgeOffBand (failingRecords u) (flagOffBand u)) := by
    apply SameTerms.of_evolves
    case h => simpa using evolves_flagOffBand u
    all_goals simp
  exact ((hzones.trans hband).then (retargeted_warmupTest _)).same (sameTerms_gradeTest _)

/-- A record that is not live leaves the terms as they are when it leaves the list. -/
theorem sameTerms_removeSegment {s : State} {r : Segment} (htags : (s.rls.map Segment.tag).Nodup)
    (hmem : r ∈ s.rls) (hlive : r.live = false) : SameTerms s (removeSegment r.tag s) := by
  have hfilter : (removeSegment r.tag s).rls.filter Segment.live = s.rls.filter Segment.live := by
    rw [removeSegment_rls, List.filter_filter]
    refine List.filter_congr fun x hx => ?_
    by_cases hxr : x.tag = r.tag
    · have heq : x = r := List.inj_on_of_nodup_map htags hx hmem hxr
      simp [heq, hlive]
    · simp [hxr]
  refine ⟨fun _ => ?_, by rw [hfilter], by rw [hfilter], ?_, ?_, ?_, ?_, ?_, ?_, ?_, ?_, ?_⟩
  · rw [removeSegment_rls]
    exact htags.sublist (List.filter_sublist.map _)
  all_goals simp [removeSegment]

/-- Only a record that is not live leaves the list after its trace (R125). -/
theorem sameTerms_frameSent (s : State) (htags : (s.rls.map Segment.tag).Nodup) : SameTerms s (frameSent s) := by
  have hsame : ∀ l : Ltx, SameTerms s (s.setLtx l) := fun l => by apply SameTerms.of_rls_eq <;> simp
  unfold frameSent
  split
  · next t _ _ =>
    unfold traceDone
    split
    · next r hfind =>
      obtain ⟨htag, hmem⟩ := findSeg_some hfind
      split
      · next h =>
        rw [← htag]
        exact (hsame _).trans (sameTerms_removeSegment (by simpa using htags) hmem (by simp [Segment.live, h.1]))
      · exact hsame _
    · exact hsame _
  · exact hsame _
  · exact hsame s.ltx
  · exact hsame s.ltx

theorem retargeted_addSegment (r : Segment) (s : State) (hnew : ∀ x ∈ s.rls, x.tag ≠ r.tag) :
    Retargeted s (addSegment r s) := by
  have hrls := addSegment_rls r s
  simp only [addSegment, formHeat_rls, formSpeed_rls] at hrls
  refine retargeted_formed (fun htags => ?_) fun hrest => ?_
  · rw [hrls, List.map_append, List.nodup_append]
    exact ⟨htags, by simp, by simpa using hnew⟩
  · split
    · exact atRest_congr (by simp) (by simp) hrest
    · exact atRest_congr (by simp) (by simp) hrest

theorem retargeted_abortWaiting (r : Segment) (s : State) : Retargeted s (abortWaiting r s) := by
  have hrls := abortWaiting_rls r s
  simp only [abortWaiting, formHeat_rls, formSpeed_rls] at hrls
  refine retargeted_formed (fun htags => ?_) fun hrest => ?_
  · rw [hrls]
    exact htags.sublist (List.filter_sublist.map _)
  · split
    · exact atRest_congr (by simp) (by simp) hrest
    · exact atRest_congr (by simp) (by simp) hrest

theorem retargeted_clearEffect (s : State) : Retargeted s (clearEffect s) := by
  have hclear : ∀ u : State, SameTerms u (clearAlc u) := fun u => by apply SameTerms.of_rls_eq <;> simp
  refine Retargeted.same (retargeted_formed (fun _ => ?_) fun hrest => ?_) (hclear _)
  · simp
  · exact atRest_congr (by simp) (by simp) hrest

/-! ### The heat target without the speed target's outputs -/

theorem heatFormed_congr {s t : State} (htags : t.rls.map Segment.tag = s.rls.map Segment.tag)
    (hheat : (t.rls.filter Segment.live).map heatTerms = (s.rls.filter Segment.live).map heatTerms)
    (hline : t.line = s.line) (hmode : t.mou.mode = s.mou.mode) (hhigh : t.htc.pHigh = s.htc.pHigh)
    (hgroup : t.htc.group = s.htc.group) (hreaction : t.alc.reaction = s.alc.reaction)
    (haim : (t.htc.target, t.htc.band, t.htc.source) = (s.htc.target, s.htc.band, s.htc.source)) (hs : HeatFormed s) :
    HeatFormed t := by
  obtain ⟨hnodup, hform⟩ := hs
  refine ⟨by rwa [htags], haim.trans (hform.trans ?_)⟩
  simp only [heatAim_eq, aimRecord, hheat, hline, hmode, hhigh, hgroup, hreaction]

theorem heatFormed_formSpeed {s : State} (hs : HeatFormed s) : HeatFormed (formSpeed s) := by
  apply heatFormed_congr (hs := hs) <;> simp

theorem heatFormed_moveReference {s : State} (hs : HeatFormed s) : HeatFormed (moveReference s) := by
  apply heatFormed_congr (hs := hs) <;> simp

/-! ### The line sample -/

theorem moveToward_le {x target : Int} (step : Nat) (h : x ≤ target) : moveToward x target step ≤ target := by
  unfold moveToward
  split
  · exact le_rfl
  · split <;> omega

/-- The reference moves no further than its target, and rests with it (R100). -/
theorem speedFormed_moveReference {s : State} (hs : SpeedFormed s) : SpeedFormed (moveReference s) := by
  obtain ⟨htags, htarget, hrun, hrest⟩ := hs
  have hform : speedTarget (moveReference s) = speedTarget s :=
    speedTarget_congr (fun _ => by simp [capsInForce_eq]) (by simp) (by simp) (by simp) (by simp)
  refine ⟨by simpa using htags, ?_, ?_, ?_⟩
  · rw [hform]
    simpa [moveReference] using htarget
  · simp only [moveReference, State.setMou_mou]
    intro hmode
    have hle := moveToward_le s.line.accel (Int.ofNat_le.mpr (hrun hmode))
    omega
  · simp only [moveReference, State.setMou_mou]
    intro hmode
    have hzero : s.mou.target = 0 := by
      rw [htarget, speedTarget, if_neg]
      rcases hmode with h | h | h <;> rw [h] <;> decide
    rw [hrest hmode, hzero]
    simp [moveToward]

theorem evolves_dwellSample (s : State) : Evolves s.rls (dwellSample s).rls :=
  evolves_foldl dwellRecord evolves_dwellRecord _ s

theorem retargeted_stopTest (s : State) : Retargeted s (stopTest s) := by
  unfold stopTest
  split
  · exact retargeted_enterMode _ _ _ id
  · exact .inl (.of_rls_eq rfl rfl rfl rfl rfl rfl rfl rfl rfl rfl)

/-- After the reference has moved: the dwell counters and the test for the end of the stop. -/
theorem retargeted_sampleEnd (s : State) : Retargeted s (stopTest (dwellSample s)) := by
  have hdwell : SameTerms s (dwellSample s) := by
    apply SameTerms.of_evolves (evolves_dwellSample s) (dwellSample_calenders s) <;> simp
  exact hdwell.then (retargeted_stopTest _)

theorem speedFormed_sampleLine (s : State) (hs : SpeedFormed s) : SpeedFormed (sampleLine s) :=
  (retargeted_sampleEnd _).speedFormed (speedFormed_moveReference (speedFormed_formSpeed (by simpa using hs.1)
    (atRest_congr (by simp) (by simp [measureSpeed]) hs.2.2.2)))

theorem heatFormed_sampleLine (s : State) (hs : HeatFormed s) : HeatFormed (sampleLine s) := by
  refine (retargeted_sampleEnd _).heatFormed (heatFormed_moveReference (heatFormed_formSpeed ?_))
  apply heatFormed_congr (hs := hs) <;> simp

/-! ### An increase of P -/

/-- Where no live record's look-ahead position has come within reach, what is within reach was so before (R100). -/
theorem reached_of_not_lookAheadNew {s t : State} (h : lookAheadNew s t = false) {r : Segment} (hr : r ∈ t.rls)
    (hlive : r.live = true) (hreach : lookAheadReached t r t.htc.pHigh = true) :
    lookAheadReached s r s.htc.pHigh = true := by
  by_contra hno
  have htrue : lookAheadNew s t = true := List.any_eq_true.mpr ⟨r, hr, by simp [hlive, hreach, hno]⟩
  rw [h] at htrue
  cases htrue

theorem raiseHigh_pHigh_le (s : State) : s.htc.pHigh ≤ (raiseHigh s).htc.pHigh := le_max_left _ _

/-- The state in which the targets are judged at an increase of P, before and after the calender transitions. -/
def risen (s : State) : State :=
  tensionQualify (advanceTaper (barsAdvance (raiseHigh (s.setMou { s.mou with p := s.mou.p + 1 }))))

theorem increaseOfP_eq (s : State) : increaseOfP s =
    (if lookAheadNew s (risen s) = true ∨ liveStates (calenderAdvance (risen s)) ≠ liveStates (risen s) then
      formHeat (if lookAheadNew s (risen s) = true
          ∨ calenderStates (calenderAdvance (risen s)) ≠ calenderStates (risen s) then
        formSpeed (calenderAdvance (risen s)) else calenderAdvance (risen s))
    else if lookAheadNew s (risen s) = true
          ∨ calenderStates (calenderAdvance (risen s)) ≠ calenderStates (risen s) then
        formSpeed (calenderAdvance (risen s)) else calenderAdvance (risen s)) := rfl

theorem evolves_risen (s : State) : Evolves s.rls (risen s).rls := by
  simpa [risen, raiseHigh] using evolves_barsAdvance (raiseHigh (s.setMou { s.mou with p := s.mou.p + 1 }))

theorem risen_frame (s : State) : (risen s).line = s.line ∧ (risen s).htc.group = s.htc.group
    ∧ s.htc.pHigh ≤ (risen s).htc.pHigh ∧ (risen s).rls.map Segment.calender = s.rls.map Segment.calender
    ∧ (risen s).mou = { s.mou with p := s.mou.p + 1 } ∧ (risen s).alc.reaction = s.alc.reaction
    ∧ ((risen s).htc.target, (risen s).htc.band, (risen s).htc.source)
      = (s.htc.target, s.htc.band, s.htc.source) := by
  simp [risen, raiseHigh]

/-- Within reach of the higher P_high are the records that were within reach, unless one has come there (R100). -/
theorem reach_eq {s : State} (h : lookAheadNew s (risen s) = false) {r : Segment} (hr : r ∈ (risen s).rls)
    (hlive : r.live = true) :
    decide (r.start + s.line.nipDist ≤ (risen s).htc.pHigh + s.htc.group.dHeat)
      = decide (r.start + s.line.nipDist ≤ s.htc.pHigh + s.htc.group.dHeat) := by
  obtain ⟨hline, hgroup, hhigh, -⟩ := risen_frame s
  have hold := reached_of_not_lookAheadNew h hr hlive
  simp only [lookAheadReached, hline, hgroup, decide_eq_true_eq] at hold
  rw [Bool.eq_iff_iff, decide_eq_true_eq, decide_eq_true_eq]
  exact ⟨hold, fun hle => by omega⟩

theorem calenderAdvance_terms (s : State) : (calenderAdvance s).line = s.line ∧ (calenderAdvance s).mou = s.mou
    ∧ (calenderAdvance s).htc = s.htc ∧ (calenderAdvance s).alc.reaction = s.alc.reaction := by
  simp

theorem speedFormed_increaseOfP (s : State) (hs : SpeedFormed s) : SpeedFormed (increaseOfP s) := by
  obtain ⟨hline, hgroup, hhigh, hcalender, hmou, hreaction, -⟩ := risen_frame s
  obtain ⟨hline', hmou', hhtc', hreaction'⟩ := calenderAdvance_terms (risen s)
  have hevolves : Evolves s.rls (calenderAdvance (risen s)).rls :=
    (evolves_risen s).trans (evolves_calenderAdvance _)
  obtain ⟨htags, htarget, hrun, hrest⟩ := hs
  have hformed : SpeedFormed (if lookAheadNew s (risen s) = true
      ∨ calenderStates (calenderAdvance (risen s)) ≠ calenderStates (risen s) then
      formSpeed (calenderAdvance (risen s)) else calenderAdvance (risen s)) := by
    split
    · exact speedFormed_formSpeed (by rwa [hevolves.tags])
        (atRest_congr (by rw [hmou', hmou]) (by rw [hmou', hmou]) hrest)
    · next hsame =>
      rw [not_or, not_not, Bool.not_eq_true] at hsame
      have hlive : ∀ r r' : Segment, r'.calender = r.calender → r'.live = r.live := fun r r' hr => by
        simp [Segment.live, hr]
      have hkept : (calenderAdvance (risen s)).rls.map Segment.calender = (risen s).rls.map Segment.calender :=
        hsame.2
      have hterms := live_map_eq (evolves_calenderAdvance (risen s)) Segment.calender hkept hlive speedTerms
        fun _ _ => speedTerms_of_stays
      have hterms' := live_map_eq (evolves_risen s) Segment.calender hcalender hlive speedTerms fun _ _ =>
        speedTerms_of_stays
      have hcaps : capsInForce (calenderAdvance (risen s)) = capsInForce s := by
        rw [capsInForce_eq, capsInForce_eq, hterms, ← hterms', hline', hline, hhtc', hgroup]
        refine congrArg _ (List.filter_congr fun x hx => ?_)
        obtain ⟨r, hr, rfl⟩ := List.mem_map.mp hx
        obtain ⟨hmem, hrlive⟩ := List.mem_filter.mp hr
        exact congrArg _ (reach_eq hsame.1 hmem hrlive)
      have hform : speedTarget (calenderAdvance (risen s)) = speedTarget s :=
        speedTarget_congr (fun _ => hcaps) (by rw [hline', hline]) (by rw [hmou', hmou]) (by rw [hmou', hmou])
          (by rw [hreaction', hreaction])
      unfold SpeedFormed
      rw [hform, hmou', hmou, hevolves.tags]
      exact ⟨htags, htarget, hrun, hrest⟩
  rw [increaseOfP_eq]
  split
  · exact speedFormed_formHeat hformed
  · exact hformed

theorem heatFormed_increaseOfP (s : State) (hs : HeatFormed s) : HeatFormed (increaseOfP s) := by
  obtain ⟨hline, hgroup, hhigh, hcalender, hmou, hreaction, haim⟩ := risen_frame s
  obtain ⟨hline', hmou', hhtc', hreaction'⟩ := calenderAdvance_terms (risen s)
  have hevolves : Evolves s.rls (calenderAdvance (risen s)).rls :=
    (evolves_risen s).trans (evolves_calenderAdvance _)
  obtain ⟨htags, hform⟩ := hs
  rw [increaseOfP_eq]
  split
  · refine heatFormed_formHeat ?_
    split <;> simpa [hevolves.tags] using htags
  · next hsame =>
    rw [not_or, not_not, Bool.not_eq_true] at hsame
    have hformed : HeatFormed (calenderAdvance (risen s)) := by
      have hkept : (calenderAdvance (risen s)).rls.map Segment.live = (risen s).rls.map Segment.live := hsame.2
      have hterms := live_map_eq (evolves_calenderAdvance (risen s)) Segment.live hkept (fun _ _ => id) heatTerms
        fun _ _ hr _ => heatTerms_of_stays hr
      have hterms' := live_map_eq (evolves_risen s) Segment.calender hcalender
        (fun r r' hr => by simp [Segment.live, hr]) heatTerms fun _ _ hr _ => heatTerms_of_stays hr
      refine ⟨by rwa [hevolves.tags], ?_⟩
      rw [hhtc', haim, hform, heatAim_eq, heatAim_eq, hterms, ← hterms', hreaction', hreaction, hhtc', hgroup]
      simp only [aimRecord, hmou', hmou, hline', hline, hhtc', hgroup]
      have hfind : ∀ x ∈ ((List.filter Segment.live (risen s).rls).map heatTerms).reverse,
          decide (x.2.1 + s.line.nipDist ≤ s.htc.pHigh + s.htc.group.dHeat)
            = decide (x.2.1 + s.line.nipDist ≤ (risen s).htc.pHigh + s.htc.group.dHeat) := by
        intro x hx
        obtain ⟨r, hr, rfl⟩ := List.mem_map.mp (List.mem_reverse.mp hx)
        obtain ⟨hmem, hrlive⟩ := List.mem_filter.mp hr
        exact (reach_eq hsame.1 hmem hrlive).symm
      rw [List.find?_congr hfind]
    split
    · exact heatFormed_formSpeed hformed
    · exact hformed

/-- An edge that is no increase leaves every term (R85). -/
theorem encoderLevels_cases (a b : Bool) (s : State) :
    (∃ m : Mou, m = { s.mou with encA := a, encB := b } ∧ encoderLevels a b s = increaseOfP (s.setMou m))
      ∨ SameTerms s (encoderLevels a b s) := by
  unfold encoderLevels countEdge
  split
  · split
    · exact .inl ⟨_, rfl, rfl⟩
    · exact .inr (.of_rls_eq rfl rfl rfl rfl rfl rfl rfl rfl rfl rfl)
  · split
    · exact .inr (.of_rls_eq rfl rfl rfl rfl rfl rfl rfl rfl rfl rfl)
    · exact .inr (.of_rls_eq rfl rfl rfl rfl rfl rfl rfl rfl rfl rfl)
  · exact .inr (.of_rls_eq rfl rfl rfl rfl rfl rfl rfl rfl rfl rfl)

theorem speedFormed_encoderLevels (a b : Bool) (s : State) (hs : SpeedFormed s) : SpeedFormed (encoderLevels a b s) :=
    by
  rcases encoderLevels_cases a b s with ⟨m, rfl, h⟩ | h
  · rw [h]
    have hsame : SameTerms s (s.setMou { s.mou with encA := a, encB := b }) :=
      .of_rls_eq rfl rfl rfl rfl rfl rfl rfl rfl rfl rfl
    exact speedFormed_increaseOfP _ (hsame.speedFormed hs)
  · exact h.speedFormed hs

theorem heatFormed_encoderLevels (a b : Bool) (s : State) (hs : HeatFormed s) : HeatFormed (encoderLevels a b s) := by
  rcases encoderLevels_cases a b s with ⟨m, rfl, h⟩ | h
  · rw [h]
    have hsame : SameTerms s (s.setMou { s.mou with encA := a, encB := b }) :=
      .of_rls_eq rfl rfl rfl rfl rfl rfl rfl rfl rfl rfl
    exact heatFormed_increaseOfP _ (hsame.heatFormed hs)
  · exact h.heatFormed hs

/-! ### Executions -/

theorem retargeted_refl (s : State) : Retargeted s s :=
  .inl (.of_rls_eq rfl rfl rfl rfl rfl rfl rfl rfl rfl rfl)

theorem retargeted_openEffect {s : State} {slot : Fin 8} {tag : Tag} (lines gap : Nat)
    (hobject : openObject s slot tag = none) : Retargeted s (openEffect slot tag lines gap s) := by
  unfold openEffect
  split
  · exact retargeted_addSegment _ s (tag_new_of_openObject hobject)
  · exact retargeted_refl s

theorem retargeted_abortEffect (t : Tag) (s : State) : Retargeted s (abortEffect t s) := by
  unfold abortEffect
  split
  · exact retargeted_refl s
  · split
    · exact retargeted_abortWaiting _ s
    · left
      apply SameTerms.of_evolves (evolves_abortPrinting _ s) (abortPrinting_calenders _ s) <;> simp
    · left
      apply SameTerms.of_evolves (evolves_abortFlags _ s) (abortFlags_calenders _ s) <;> simp

/-- A RUN forms the speed target again, or is in a mode in which it is 0 (R92, R100). -/
theorem speedFormed_runDirective (v : Nat) (s : State) (hs : SpeedFormed s) : SpeedFormed (runDirective v s) := by
  have hmode := retargeted_enterMode .warmup s (s.setMou { s.mou with requested := v }) id
  obtain ⟨htags, htarget, hrun, hrest⟩ := hs
  have hstored : s.mou.mode ≠ .run → SpeedFormed (s.setMou { s.mou with requested := v }) := by
    intro hnot
    refine ⟨htags, ?_, hrun, hrest⟩
    have hstored : (s.setMou { s.mou with requested := v }).mou.mode ≠ .run := hnot
    rw [speedTarget_eq_zero hnot] at htarget
    rw [speedTarget_eq_zero hstored]
    exact htarget
  unfold runDirective
  split
  · exact hmode.speedFormed ⟨htags, htarget, hrun, hrest⟩
  · exact hmode.speedFormed ⟨htags, htarget, hrun, hrest⟩
  · exact speedFormed_formSpeed htags hrest
  · next h => exact hstored (by rw [h]; decide)
  · next h => exact hstored (by rw [h]; decide)

theorem heatFormed_runDirective (v : Nat) (s : State) (hs : HeatFormed s) : HeatFormed (runDirective v s) := by
  have hmode := retargeted_enterMode .warmup s (s.setMou { s.mou with requested := v }) id
  have hstored : HeatFormed (s.setMou { s.mou with requested := v }) := by
    apply heatFormed_congr (hs := hs) <;> simp
  unfold runDirective
  split
  · exact hmode.heatFormed hs
  · exact hmode.heatFormed hs
  · exact heatFormed_formSpeed hstored
  · exact hstored
  · exact hstored

/-- A LINE_CONFIG finds no record and the line in STANDBY, so that no term of a target moves (R26). -/
theorem standby_of_refusal {s : State} {c : LineFields} (h : refusal s (.lineConfig c) = none) :
    s.mou.mode = .standby ∧ s.rls = [] := by
  unfold refusal at h
  split at h
  · cases h
  · split at h
    · cases h
    · next hmode => simpa [modeOk] using hmode

theorem speedFormed_lineConfig {s : State} {c : LineFields} (hpass : refusal s (.lineConfig c) = none)
    (hs : SpeedFormed s) : SpeedFormed (lineConfigEffect c s) := by
  obtain ⟨hmode, -⟩ := standby_of_refusal hpass
  obtain ⟨htags, htarget, hrun, hrest⟩ := hs
  refine ⟨htags, ?_, hrun, hrest⟩
  simp only [speedTarget, hmode] at htarget
  simpa [speedTarget, lineConfigEffect, hmode] using htarget

theorem heatFormed_lineConfig {s : State} {c : LineFields} (hpass : refusal s (.lineConfig c) = none)
    (hs : HeatFormed s) : HeatFormed (lineConfigEffect c s) := by
  obtain ⟨-, hrls⟩ := standby_of_refusal hpass
  obtain ⟨htags, haim⟩ := hs
  refine ⟨htags, haim.trans ?_⟩
  rw [heatAim_eq, heatAim_eq]
  simp [lineConfigEffect, aimRecord, hrls]

/-- The speed target reads nothing of the heat group but D_heat (R100). -/
theorem speedFormed_heatConfig (c : HeatFields) (s : State) (hs : SpeedFormed s) :
    SpeedFormed (heatConfigEffect c s) := by
  obtain ⟨htags, htarget, hrun, hrest⟩ := hs
  unfold heatConfigEffect
  simp only
  split
  · next hd =>
    have hform : speedTarget (s.modHtc fun h => { h with group := heatGroupOf c }) = speedTarget s :=
      speedTarget_congr (fun _ => by simp [capsInForce_eq, hd, heatGroupOf]; rfl) rfl rfl rfl rfl
    exact speedFormed_formHeat ⟨htags, htarget.trans hform.symm, hrun, hrest⟩
  · refine speedFormed_formSpeed (by simpa using htags) (atRest_congr (by simp) (by simp) hrest)

theorem heatFormed_heatConfig (c : HeatFields) (s : State) (hs : HeatFormed s) :
    HeatFormed (heatConfigEffect c s) := by
  have hformed : HeatFormed (formHeat (s.modHtc fun h => { h with group := heatGroupOf c })) :=
    heatFormed_formHeat hs.1
  unfold heatConfigEffect
  simp only
  split
  · exact hformed
  · exact heatFormed_formSpeed hformed

/-- The executions whose targets are as they were or formed again, whatever the state. -/
theorem retargeted_perform (s : State) (r : Request) (hpass : refusal s r = none) (hline : ∀ c, r ≠ .lineConfig c)
    (hheat : ∀ c, r ≠ .heatConfig c) (hrun : ∀ v, r ≠ .run v) : Retargeted s (perform r s).1 := by
  cases r
  case lineConfig c => exact absurd rfl (hline c)
  case heatConfig c => exact absurd rfl (hheat c)
  case run v => exact absurd rfl (hrun v)
  case segmentOpen slot seg lines gap => exact retargeted_openEffect _ _ (openObject_of_refusal hpass)
  case segmentAbort seg => exact retargeted_abortEffect seg s
  case clearLine => exact retargeted_clearEffect s
  case stop => exact retargeted_stopDirective s
  case barConfig bars =>
    left
    apply SameTerms.of_evolves (evolves_barConfigEffect _ s) (barConfigEffect_calenders _ s) <;> simp
  all_goals
    left
    apply SameTerms.of_rls_eq <;> simp [perform]

theorem speedFormed_perform (s : State) (r : Request) (hs : SpeedFormed s) (hpass : refusal s r = none) :
    SpeedFormed (perform r s).1 := by
  by_cases hother : (∀ c, r ≠ .lineConfig c) ∧ (∀ c, r ≠ .heatConfig c) ∧ ∀ v, r ≠ .run v
  · exact (retargeted_perform s r hpass hother.1 hother.2.1 hother.2.2).speedFormed hs
  · cases r
    case lineConfig c => exact speedFormed_lineConfig hpass hs
    case heatConfig c => exact speedFormed_heatConfig c s hs
    case run v => exact speedFormed_runDirective _ s hs
    all_goals exact absurd ⟨fun _ => nofun, fun _ => nofun, fun _ => nofun⟩ hother

theorem heatFormed_perform (s : State) (r : Request) (hs : HeatFormed s) (hpass : refusal s r = none) :
    HeatFormed (perform r s).1 := by
  by_cases hother : (∀ c, r ≠ .lineConfig c) ∧ (∀ c, r ≠ .heatConfig c) ∧ ∀ v, r ≠ .run v
  · exact (retargeted_perform s r hpass hother.1 hother.2.1 hother.2.2).heatFormed hs
  · cases r
    case lineConfig c => exact heatFormed_lineConfig hpass hs
    case heatConfig c => exact heatFormed_heatConfig c s hs
    case run v => exact heatFormed_runDirective _ s hs
    all_goals exact absurd ⟨fun _ => nofun, fun _ => nofun, fun _ => nofun⟩ hother

/-! ### The targets over every step -/

theorem SamePath.sameTerms {s t : State} (h : SamePath s t) : SameTerms s t := by
  apply SameTerms.of_rls_eq h.rls h.line <;> simp [h.mou, h.htc, h.reaction]

theorem sameTerms_beginAtReset (s : State) : SameTerms s (beginAtReset s) := by
  apply SameTerms.of_rls_eq <;> simp

theorem speedFormed_resetBlocks (s : State) : SpeedFormed (resetBlocks s) :=
  ⟨.nil, rfl, fun _ => le_rfl, fun _ => rfl⟩

theorem heatFormed_resetBlocks (s : State) : HeatFormed (resetBlocks s) :=
  ⟨.nil, rfl⟩

theorem sameTerms_commitLine (s : State) (seg : Tag) (l o c : Nat) : SameTerms s (commitLine seg l o c s) := by
  apply SameTerms.of_evolves (evolves_commitLine seg l o c s) (commitLine_calenders seg l o c s) <;> simp

theorem sameTerms_endCheck (s : State) (slot : Fin 8) (id : BankId) (f : Frame) : SameTerms s
    (endCheck slot id f s) := by
  apply SameTerms.of_rls_eq <;> simp

theorem sameTerms_driveFaultLevel (s : State) (x : Bool) : SameTerms s (driveFaultLevel x s) := by
  apply SameTerms.of_rls_eq <;> simp

theorem sameTerms_barFaultLevel (s : State) (k : Bar) (x : Bool) : SameTerms s (barFaultLevel k x s) := by
  apply SameTerms.of_rls_eq <;> simp

theorem sameTerms_tensionReadingEvent (s : State) (z : TensionZone) (n : Nat) :
    SameTerms s (tensionReadingEvent z n s) := by
  apply SameTerms.of_rls_eq <;> simp

theorem sameTerms_missingExpired (s : State) (z : TensionZone) : SameTerms s (missingExpired z s) := by
  apply SameTerms.of_rls_eq <;> simp

theorem speedFormed_taken (s t : State) (hs : SpeedFormed s) (h : Taken s t) : SpeedFormed t := by
  apply path_keeps (P := SpeedFormed) (s := s) (t := t) (hs := hs) (h := h)
  case hsame => exact fun s t h => h.sameTerms.speedFormed
  case hsettle => exact fun s => (retargeted_settle s).speedFormed
  case hsent => exact fun s hs => (sameTerms_frameSent s hs.1).speedFormed hs
  case hencoder => exact fun s a b => speedFormed_encoderLevels a b s
  case hsample => exact speedFormed_sampleLine
  case hdrive => exact fun s x => (sameTerms_driveFaultLevel s x).speedFormed
  case hbar => exact fun s k x => (sameTerms_barFaultLevel s k x).speedFormed
  case hreading => exact fun s z n => (sameTerms_tensionReadingEvent s z n).speedFormed
  case hmissing => exact fun s z => (sameTerms_missingExpired s z).speedFormed
  case hheat => exact fun s e => (retargeted_heatSampleEvent e s).speedFormed
  case hreset => exact fun s _ => (sameTerms_beginAtReset _).speedFormed (speedFormed_resetBlocks s)
  case hcommit => exact fun s seg l o c => (sameTerms_commitLine s seg l o c).speedFormed
  case hperform => exact fun s r hs _ hpass => speedFormed_perform s r hs hpass
  case hcheck => exact fun s slot id f hs _ => (sameTerms_endCheck s slot id f).speedFormed hs

theorem heatFormed_taken (s t : State) (hs : HeatFormed s) (h : Taken s t) : HeatFormed t := by
  apply path_keeps (P := HeatFormed) (s := s) (t := t) (hs := hs) (h := h)
  case hsame => exact fun s t h => h.sameTerms.heatFormed
  case hsettle => exact fun s => (retargeted_settle s).heatFormed
  case hsent => exact fun s hs => (sameTerms_frameSent s hs.1).heatFormed hs
  case hencoder => exact fun s a b => heatFormed_encoderLevels a b s
  case hsample => exact heatFormed_sampleLine
  case hdrive => exact fun s x => (sameTerms_driveFaultLevel s x).heatFormed
  case hbar => exact fun s k x => (sameTerms_barFaultLevel s k x).heatFormed
  case hreading => exact fun s z n => (sameTerms_tensionReadingEvent s z n).heatFormed
  case hmissing => exact fun s z => (sameTerms_missingExpired s z).heatFormed
  case hheat => exact fun s e => (retargeted_heatSampleEvent e s).heatFormed
  case hreset => exact fun s _ => (sameTerms_beginAtReset _).heatFormed (heatFormed_resetBlocks s)
  case hcommit => exact fun s seg l o c => (sameTerms_commitLine s seg l o c).heatFormed
  case hperform => exact fun s r hs _ hpass => heatFormed_perform s r hs hpass
  case hcheck => exact fun s slot id f hs _ => (sameTerms_endCheck s slot id f).heatFormed hs

/-- The least of a bound and a list lies at or below each of them. -/
theorem foldl_min_le (l : List Nat) (b : Nat) : l.foldl min b ≤ b ∧ ∀ x ∈ l, l.foldl min b ≤ x := by
  induction l generalizing b with
  | nil => exact ⟨le_rfl, by simp⟩
  | cons a l ih =>
    obtain ⟨hbound, hall⟩ := ih (min b a)
    refine ⟨hbound.trans (min_le_left _ _), fun x hx => ?_⟩
    rcases List.mem_cons.mp hx with rfl | hx
    · exact hbound.trans (min_le_right _ _)
    · exact hall x hx

/-- A formed target keeps the reference at or below every term that is in force (R100). -/
theorem speedSafe_of_formed (s : State) (hs : SpeedFormed s) : SpeedSafe s := by
  obtain ⟨-, htarget, hrun, -⟩ := hs
  intro hmode
  have hle := hrun hmode
  rw [htarget, speedTarget, if_pos hmode] at hle
  obtain ⟨hbound, hcaps⟩ := foldl_min_le (capsInForce s)
    (if Grade.rank .slow ≤ s.alc.reaction.rank then min s.mou.requested s.line.creep else s.mou.requested)
  have hbase := hle.trans hbound
  refine ⟨hbase.trans ?_, fun hslow => ?_, fun r hr hlive hin => hle.trans (hcaps _ ?_)⟩
  · split
    · exact min_le_left _ _
    · exact le_rfl
  · rw [if_pos hslow] at hbase
    exact hbase.trans (min_le_right _ _)
  · refine List.mem_map.mpr ⟨r, List.mem_filter.mpr ⟨hr, ?_⟩, rfl⟩
    rcases hin with h | h <;> simp [hlive, h]

/-- Settles O8: every event that changes a term of a target forms the target again, and a formed target bounds the
reference. -/
theorem speedKept : Obligations.SpeedKept :=
  ⟨fun _ _ hs h => step_keeps (P := SpeedFormed) (fun _ _ => id) speedFormed_taken hs h, speedSafe_of_formed,
    fun _ _ hs h => step_keeps (P := HeatFormed) (fun _ _ => id) heatFormed_taken hs h⟩

end Sys2Proof.Machine
end

section
/-! SUPPORT and the settling of O59. The stages of the colour path stay within their ranges for a clamped bank: a blend
is a mean of clamped values, a yield curve interpolates them, and a drop level is at most 3 (R61 to R66). -/

namespace Sys2Proof.Machine

/-! ### Clamped values -/

/-- Values read from a clamped bank are clamped (R28). -/
theorem pieceValuesAt_le {b : Bank} (hb : BankClamped b) (i : Nat) {v : Nat} (hv : v ∈ pieceValuesAt b i) :
    v ≤ if i ≤ 104 then 4096 else 4094 := by
  unfold pieceValuesAt at hv
  split at hv
  · next vs hvs =>
    have hclamped := pieceClamped_of_pieceAt hb hvs
    simp only [pieceClamped, List.all_eq_true, decide_eq_true_eq] at hclamped
    exact hclamped v hv
  · cases hv

theorem getD_le {l : List Nat} {m : Nat} (h : ∀ v ∈ l, v ≤ m) (i : Nat) : l.getD i 0 ≤ m := by
  rw [List.getD_eq_getElem?_getD]
  cases hi : l[i]? with
  | none => exact Nat.zero_le _
  | some v => exact h v (List.mem_of_getElem? hi)

theorem pieceValuesAt_getD_le {b : Bank} (hb : BankClamped b) (i j : Nat) : (pieceValuesAt b i).getD j 0 ≤ 4096 := by
  refine getD_le (fun v hv => (pieceValuesAt_le hb i hv).trans ?_) j
  split <;> decide

theorem threshold_le {b : Bank} (hb : BankClamped b) (n x : Nat) (ch : Fin 6) : threshold b n x ch ≤ 4094 := by
  refine getD_le (fun v hv => (pieceValuesAt_le hb _ hv).trans ?_) _
  rw [if_neg (by omega)]

/-! ### Stages 1 and 2 -/

/-- The four weights of a blend make up 32 (R63). -/
theorem blend_le {c0 c1 c2 c3 fp fq fs m : Nat} (h0 : c0 ≤ m) (h1 : c1 ≤ m) (h2 : c2 ≤ m) (h3 : c3 ≤ m)
    (hp : fp ≤ 32) (hq : fq ≤ fp) (hs : fs ≤ fq) : blend c0 c1 c2 c3 fp fq fs ≤ m := by
  have hsum : m * (32 - fp) + m * (fp - fq) + m * (fq - fs) + m * fs = m * 32 := by
    rw [← Nat.mul_add, ← Nat.mul_add, ← Nat.mul_add]
    congr 1
    omega
  have e0 := Nat.mul_le_mul_right (32 - fp) h0
  have e1 := Nat.mul_le_mul_right (fp - fq) h1
  have e2 := Nat.mul_le_mul_right (fq - fs) h2
  have e3 := Nat.mul_le_mul_right fs h3
  unfold blend
  omega

/-- The fraction of a byte's cell is at most 32 (R61). -/
theorem axisCell_frac_le (a : Byte) : (axisCell a.toNat).2 ≤ 32 := by
  have ha := a.isLt
  simp only [axisCell]
  omega

/-- The axis order puts the fractions in falling order (R62). -/
theorem axisOrder_sorted (f0 f1 f2 : Nat) : ∀ v : Vector Nat 3, v = #v[f0, f1, f2] →
    v[(axisOrder f0 f1 f2).2.2] ≤ v[(axisOrder f0 f1 f2).2.1]
      ∧ v[(axisOrder f0 f1 f2).2.1] ≤ v[(axisOrder f0 f1 f2).1] := by
  rintro v rfl
  unfold axisOrder
  (repeat' split) <;> simp <;> omega

theorem interpolate_le {b : Bank} (hb : BankClamped b) (a0 a1 a2 : Byte) (c : Fin 6) :
    (interpolate b a0.toNat a1.toNat a2.toNat)[c] ≤ 4096 := by
  have hgrid : ∀ node, gridValue b node c ≤ 4096 := fun node => pieceValuesAt_getD_le hb _ _
  obtain ⟨hs, hq⟩ := axisOrder_sorted (axisCell a0.toNat).2 (axisCell a1.toNat).2 (axisCell a2.toNat).2
    (vmap Prod.snd #v[axisCell a0.toNat, axisCell a1.toNat, axisCell a2.toNat]) rfl
  simp only [vmap_getElem] at hs hq
  have hfrac : ∀ i : Fin 3, (#v[axisCell a0.toNat, axisCell a1.toNat, axisCell a2.toNat][i]).2 ≤ 32 := by
    intro i
    fin_cases i
    · exact axisCell_frac_le a0
    · exact axisCell_frac_le a1
    · exact axisCell_frac_le a2
  simp only [interpolate, Fin.getElem_fin, Vector.getElem_ofFn]
  exact blend_le (hgrid _) (hgrid _) (hgrid _) (hgrid _) (hfrac _) hq hs

/-! ### Stages 4 and 5 -/

theorem yieldCurve_le {b : Bank} (hb : BankClamped b) (grade : Nat) (c : Fin 6) {v : Nat} (hv : v ≤ 4096) :
    yieldCurve b grade c v ≤ 4096 := by
  unfold yieldCurve
  simp only
  generalize hj : min (v / 256) 15 = j
  have e0 := Nat.mul_le_mul_right (256 - (v - 256 * j)) (pieceValuesAt_getD_le hb (81 + 6 * grade + c.val) j)
  have e1 := Nat.mul_le_mul_right (v - 256 * j) (pieceValuesAt_getD_le hb (81 + 6 * grade + c.val) (j + 1))
  have hh : v - 256 * j ≤ 256 := by omega
  omega

theorem dropLevel_le {y : Nat} (t : Nat) (hy : y ≤ 4096) : dropLevel y t ≤ 3 := by
  unfold dropLevel
  simp only
  split <;> omega

theorem dropLevel_full (t : Nat) : dropLevel 4096 t = 3 := by
  unfold dropLevel
  simp

/-- More ink never makes a smaller drop (R66). -/
theorem dropLevel_mono {y y' : Nat} (t : Nat) (h : y' ≤ y) : dropLevel y' t ≤ dropLevel y t := by
  unfold dropLevel
  simp only
  split <;> split <;> omega

theorem convertPixel_dropsOk {b : Bank} (hb : BankClamped b) (grade n x : Nat) (a0 a1 a2 : Byte) :
    DropsOk (convertPixel b grade n x a0.toNat a1.toNat a2.toNat) := by
  intro c
  rw [convertPixel_getElem]
  exact dropLevel_le _ (yieldCurve_le hb _ _ ((limitInk_getElem_le _ _ c).trans (interpolate_le hb a0 a1 a2 c)))

/-- Settles O59: each stage of a clamped bank stays within its range. -/
theorem colourBounds : Obligations.ColourBounds := by
  intro b hb
  refine ⟨fun a0 a1 a2 c => ⟨interpolate_le hb a0 a1 a2 c,
      (limitInk_getElem_le _ _ c).trans (interpolate_le hb a0 a1 a2 c)⟩,
    fun grade c v hv => yieldCurve_le hb grade c hv, threshold_le hb, fun y t hy _ => ⟨dropLevel_le t hy, ?_, ?_⟩,
    convertPixel_dropsOk hb⟩
  · rintro rfl
    exact dropLevel_full t
  · exact fun y' h => dropLevel_mono t h

end Sys2Proof.Machine
end

section
/-! SUPPORT and the settling of O11 and O13. What changes the profile store: the eight operations on its banks (R35 to
R50); and what changes the stored drop levels (R58, R121, R131, R132). -/

namespace Sys2Proof.Machine

/-! ### The profile store over every step -/

/-- The slots of the profile store, and the bank under check, are kept or released to by the calender. -/
theorem calender_pfs {Q : Pfs → Prop} (hrelease : ∀ (s : State) slot id, Q s.pfs → Q (releaseBank slot id s).pfs) (s :
    State)
    (hs : Q s.pfs) : Q (calenderAdvance s).pfs := by
  have hstep : ∀ u t, Q u.pfs → Q (retireAt t (enterArc t u)).pfs := by
    intro u t hu
    have harc : (enterArc t u).pfs = u.pfs := by simp [enterArc]
    unfold retireAt
    split
    · next r _ =>
      split
      · simpa [releaseRefs] using hrelease ((enterArc t u).modSegment t retiredRecord) r.slot r.bank
          (by simpa [harc] using hu)
      · rwa [harc]
    · rwa [harc]
  exact foldl_keeps (P := fun u => Q u.pfs) (fun acc t => retireAt t (enterArc t acc)) hstep _ s hs

theorem increaseOfP_pfs (s : State) : (increaseOfP s).pfs = (calenderAdvance (risen s)).pfs := by
  rw [increaseOfP_eq]
  (repeat' split) <;> simp

theorem encoderLevels_pfs {Q : Pfs → Prop} (hrelease : ∀ (s : State) slot id, Q s.pfs → Q (releaseBank slot id s).pfs)
    (a b : Bool) (s : State) (hs : Q s.pfs) : Q (encoderLevels a b s).pfs := by
  unfold encoderLevels countEdge
  split
  · split
    · rw [increaseOfP_pfs]
      exact calender_pfs hrelease _ (by simpa [risen] using hs)
    · exact hs
  · split <;> exact hs
  · exact hs

/-- The object step has passed. -/
theorem objectCheck_of_refusal {s : State} {r : Request} (h : refusal s r = none) : objectCheck s r = none := by
  unfold refusal at h
  split at h
  · cases h
  · split at h
    · cases h
    · exact h

/-- The header bound at a SEGMENT_OPEN is the ACTIVE bank's (R48). -/
theorem activeBank_of_activeHeader {s : State} {slot : Fin 8} {id : BankId} {h : Header}
    (hh : activeHeader s slot = some (id, h)) :
    activeBank s.pfs.slots[slot] = some id ∧ headerOf (bankOf s slot id) = some h := by
  unfold activeHeader at hh
  split at hh
  · next x hactive =>
    split at hh
    · next y hheader =>
      obtain ⟨rfl, rfl⟩ := Prod.mk.inj (Option.some.inj hh)
      exact ⟨hactive, hheader⟩
    · cases hh
  · cases hh

theorem addSegment_pfs (r : Segment) (s : State) : (addSegment r s).pfs = (bindBank r.slot r.bank s).pfs := by
  simp only [addSegment]
  split <;> simp [bindBank, State.modBank]

theorem abortWaiting_pfs (r : Segment) (s : State) : (abortWaiting r s).pfs = (releaseBank r.slot r.bank s).pfs := by
  simp only [abortWaiting]
  split <;> simp [releaseRefs, releaseBank, State.modBank]

/-- An invariant of the profile store that the operations on banks keep is kept by every execution. -/
theorem pfs_perform {Q : Pfs → Prop} (hrelease : ∀ (s : State) slot id, Q s.pfs → Q (releaseBank slot id s).pfs)
    (hbind : ∀ (s : State) slot id, Q s.pfs → activeBank s.pfs.slots[slot] = some id → Q (bindBank slot id s).pfs)
    (hclear : ∀ s : State, Q s.pfs → Q (clearPfs s).pfs)
    (htable : ∀ (s : State) slot piece body, Q s.pfs → s.pfs.check = none →
      refusal s (.table slot piece body) = none → Q (tableEffect (slotOf slot) piece.toNat body s).pfs)
    (hdiscard : ∀ (s : State) slot, Q s.pfs → s.pfs.check = none → refusal s (.profileDiscard slot) = none →
      Q (discardEffect (slotOf slot) s).pfs)
    (hcommit : ∀ (s : State) slot, Q s.pfs → s.pfs.check = none → refusal s (.profileCommit slot) = none →
      Q (commitEffect (slotOf slot) s).pfs)
    (s : State) (r : Request) (hs : Q s.pfs) (hcheck : s.pfs.check = none) (hpass : refusal s r = none) :
    Q (perform r s).1.pfs := by
  cases r
  case table slot piece body => exact htable s slot piece body hs hcheck hpass
  case profileDiscard slot => exact hdiscard s slot hs hcheck hpass
  case profileCommit slot => exact hcommit s slot hs hcheck hpass
  case clearLine => simpa [perform, clearEffect] using hclear s hs
  case segmentOpen slot seg lines gap =>
    simp only [perform, openEffect]
    split
    · next bank h fabric f hheader _ =>
      rw [addSegment_pfs]
      exact hbind s _ _ hs (activeBank_of_activeHeader hheader).1
    · exact hs
  case segmentAbort seg =>
    simp only [perform, abortEffect]
    split
    · exact hs
    · split
      · rw [abortWaiting_pfs]
        exact hrelease s _ _ hs
      · simpa using hs
      · simpa using hs
  all_goals simpa [perform] using hs

/-- The end of a bank check as its operation on the bank (R43, R44). -/
theorem pfs_endCheck {Q : Pfs → Prop} {s : State} {slot : Fin 8} {id : BankId} (f : Frame)
    (hmatch : Q (commitBank slot id (s.setPfs { s.pfs with check := none })).pfs)
    (hrevert : Q (revertBank slot id (s.setPfs { s.pfs with check := none })).pfs) : Q (endCheck slot id f s).pfs := by
  unfold endCheck
  simp only
  split
  · simpa using hmatch
  · simpa using hrevert

/-- An invariant of the profile store that its operations keep is kept by every command. -/
theorem pfs_keeps {Q : Pfs → Prop} (hrelease : ∀ (s : State) slot id, Q s.pfs → Q (releaseBank slot id s).pfs)
    (hbind : ∀ (s : State) slot id, Q s.pfs → activeBank s.pfs.slots[slot] = some id → Q (bindBank slot id s).pfs)
    (hclear : ∀ s : State, Q s.pfs → Q (clearPfs s).pfs)
    (htable : ∀ (s : State) slot piece body, Q s.pfs → s.pfs.check = none →
      refusal s (.table slot piece body) = none → Q (tableEffect (slotOf slot) piece.toNat body s).pfs)
    (hdiscard : ∀ (s : State) slot, Q s.pfs → s.pfs.check = none → refusal s (.profileDiscard slot) = none →
      Q (discardEffect (slotOf slot) s).pfs)
    (hcommit : ∀ (s : State) slot, Q s.pfs → s.pfs.check = none → refusal s (.profileCommit slot) = none →
      Q (commitEffect (slotOf slot) s).pfs)
    (hmatch : ∀ (s : State) slot id, Q s.pfs → s.pfs.check = some (slot, id) →
      Q (commitBank slot id (s.setPfs { s.pfs with check := none })).pfs)
    (hrevert : ∀ (s : State) slot id, Q s.pfs → s.pfs.check = some (slot, id) →
      Q (revertBank slot id (s.setPfs { s.pfs with check := none })).pfs)
    (hreset : Q Pfs.reset) (s t : State) (hs : Q s.pfs) (h : Taken s t) : Q t.pfs := by
  apply path_keeps (P := fun s => Q s.pfs) (s := s) (t := t) (hs := hs) (h := h)
  case hsame =>
    intro s t h hs
    rwa [h.pfs]
  case hencoder => exact fun s a b hs => encoderLevels_pfs hrelease a b s hs
  case hreset => exact fun s _ => by simpa [resetBlocks, State.reset] using hreset
  case hperform => exact fun s r hs hcheck => pfs_perform hrelease hbind hclear htable hdiscard hcommit s r hs hcheck
  case hcheck =>
    exact fun s slot id f hs hcheck => pfs_endCheck f (hmatch s slot id hs hcheck) (hrevert s slot id hs hcheck)
  all_goals
    intros
    simpa

end Sys2Proof.Machine
end

section
/-! SUPPORT and the settling of O11. The shape of the profile store, bank by bank: what each operation on a bank has to
keep (R35 to R50). -/

namespace Sys2Proof.Machine

/-! ### The store's shape by banks -/

/-- The shape of the profile store in terms of its banks: each is in the shape its state demands; where no bank of a
slot is ACTIVE none is DRAINING and one is FREE; and the bank under check is the one that is CHECKING. -/
structure StoreShaped (s : State) : Prop where
  ok : ∀ n id, BankOk (bankOf s n id)
  inactive : ∀ n id, (bankOf s n id).state ≠ .active → (bankOf s n id.other).state ≠ .active →
    (bankOf s n id).state ≠ .draining ∧ ((bankOf s n id).state = .free ∨ (bankOf s n id.other).state = .free)
  checking : ∀ n id, (bankOf s n id).state = .checking ↔ s.pfs.check = some (n, id)

theorem activeBank_eq_none_iff (s : State) (n : Fin 8) : activeBank s.pfs.slots[n] = none ↔
    (bankOf s n .a).state ≠ .active ∧ (bankOf s n .b).state ≠ .active := by
  show activeBank s.pfs.slots[n] = none ↔ s.pfs.slots[n].a.state ≠ .active ∧ s.pfs.slots[n].b.state ≠ .active
  generalize s.pfs.slots[n] = x
  unfold activeBank
  split
  · next ha => simp [ha]
  · next ha =>
    split
    · next hb => simp [hb]
    · next hb => simp [ha, hb]

theorem banksShaped_iff (s : State) : BanksShaped s ↔ StoreShaped s := by
  constructor
  · rintro ⟨hslots, hcheck⟩
    refine ⟨fun n id => ?_, fun n id h1 h2 => ?_, fun n id => ⟨fun h => ?_, fun h => hcheck _ h⟩⟩
    · obtain ⟨ha, hb, -⟩ := hslots n
      cases id
      · exact ha
      · exact hb
    · obtain ⟨-, -, hnone, -⟩ := hslots n
      cases id
      · obtain ⟨hfree, ha, -⟩ := hnone ((activeBank_eq_none_iff s n).mpr ⟨h1, h2⟩)
        exact ⟨ha, hfree⟩
      · obtain ⟨hfree, -, hb⟩ := hnone ((activeBank_eq_none_iff s n).mpr ⟨h2, h1⟩)
        exact ⟨hb, hfree.symm⟩
    · obtain ⟨-, -, -, ha, hb⟩ := hslots n
      cases id
      · exact ha h
      · exact hb h
  · intro h
    refine ⟨fun n => ⟨h.ok n .a, h.ok n .b, fun hnone => ?_, (h.checking n .a).mp, (h.checking n .b).mp⟩,
      fun x hx => (h.checking x.1 x.2).mpr hx⟩
    obtain ⟨ha, hb⟩ := (activeBank_eq_none_iff s n).mp hnone
    exact ⟨(h.inactive n .a ha hb).2, (h.inactive n .a ha hb).1, (h.inactive n .b hb ha).1⟩

theorem storeShaped_congr {s t : State} (h : t.pfs = s.pfs) (hs : StoreShaped s) : StoreShaped t := by
  have hbank : ∀ n id, bankOf t n id = bankOf s n id := fun n id => by unfold bankOf; rw [h]
  obtain ⟨hok, hinactive, hcheck⟩ := hs
  constructor <;> simp only [hbank, h] <;> assumption

theorem BankId.eq_or_eq_other (id x : BankId) : x = id ∨ x = id.other := by
  cases id <;> cases x <;> simp [BankId.other]

@[simp] theorem BankId.other_other (id : BankId) : id.other.other = id := by
  cases id <;> rfl

/-- One bank changed, and the bank under check with it: what the store's shape asks of the new bank. -/
theorem storeShaped_modBank {s t : State} {n : Fin 8} {id : BankId} {f : Bank → Bank} (hs : StoreShaped s)
    (hslots : t.pfs.slots = (s.modBank n id f).pfs.slots) (hok : BankOk (f (bankOf s n id)))
    (hinactive : (f (bankOf s n id)).state ≠ .active → (bankOf s n id.other).state ≠ .active →
      (f (bankOf s n id)).state ≠ .draining ∧ (bankOf s n id.other).state ≠ .draining
        ∧ ((f (bankOf s n id)).state = .free ∨ (bankOf s n id.other).state = .free))
    (hcheck : (f (bankOf s n id)).state = .checking ↔ t.pfs.check = some (n, id))
    (hother : ∀ m x, ¬(m = n ∧ x = id) → (t.pfs.check = some (m, x) ↔ s.pfs.check = some (m, x))) : StoreShaped t := by
  have hbank : ∀ m x, bankOf t m x = bankOf (s.modBank n id f) m x := fun m x => by unfold bankOf; rw [hslots]
  have hsame : bankOf t n id = f (bankOf s n id) := by rw [hbank, bankOf_modBank_same]
  have hkept : ∀ m x, ¬(m = n ∧ x = id) → bankOf t m x = bankOf s m x := fun m x h => by
    rw [hbank, bankOf_modBank_other _ _ _ _ _ _ h]
  have hpartner : bankOf t n id.other = bankOf s n id.other := hkept _ _ fun h => BankId.other_ne id h.2
  refine ⟨fun m x => ?_, fun m x => ?_, fun m x => ?_⟩
  · by_cases h : m = n ∧ x = id
    · obtain ⟨rfl, rfl⟩ := h
      rwa [hsame]
    · rw [hkept m x h]
      exact hs.ok m x
  · by_cases hm : m = n
    · subst hm
      rcases BankId.eq_or_eq_other id x with rfl | rfl
      · rw [hsame, hpartner]
        exact fun h1 h2 => ⟨(hinactive h1 h2).1, (hinactive h1 h2).2.2⟩
      · rw [BankId.other_other, hsame, hpartner]
        exact fun h1 h2 => ⟨(hinactive h2 h1).2.1, (hinactive h2 h1).2.2.symm⟩
    · rw [hkept m x fun h => hm h.1, hkept m x.other fun h => hm h.1]
      exact hs.inactive m x
  · by_cases h : m = n ∧ x = id
    · obtain ⟨rfl, rfl⟩ := h
      rwa [hsame]
    · rw [hkept m x h, hs.checking, hother m x h]

/-! ### The operations on a bank -/

/-- A bank in a new state and with a new count, and its pieces: the shape asks for them again where the state does. -/
theorem bankOk_of_pieces {b b' : Bank} (h : BankOk b) (hpieces : b'.pieces = b.pieces)
    (hfree : b'.state = .free → b'.pieces = [] ∧ b'.count = 0)
    (hcomplete : b'.state = .checking ∨ b'.state = .active ∨ b'.state = .draining → complete b = true) : BankOk b' := by
  obtain ⟨hsorted, hindex, -, -⟩ := h
  refine ⟨by rwa [hpieces], by rwa [hpieces], hfree, fun hs => ?_⟩
  simpa [complete, hasPiece, hpieces] using hcomplete hs

theorem bankOk_free : BankOk Bank.free := by
  refine ⟨.nil, fun x hx => (List.not_mem_nil hx).elim, fun _ => ⟨rfl, rfl⟩, fun h => ?_⟩
  rcases h with h | h | h <;> cases h

/-- A release changes a bank's state only from DRAINING to FREE (R47). -/
theorem releaseOf_cases (b : Bank) : b.state = .draining ∧ releaseOf b = Bank.free
    ∨ releaseOf b = { b with count := b.count - 1 } := by
  unfold releaseOf
  split
  · next h => exact .inl ⟨h.1, rfl⟩
  · exact .inr rfl

theorem storeShaped_releaseBank (s : State) (n : Fin 8) (id : BankId) (hs : StoreShaped s) :
    StoreShaped (releaseBank n id s) := by
  have hok := hs.ok n id
  have hinactive := hs.inactive n id
  have hpartner := hs.inactive n id.other
  rw [BankId.other_other] at hpartner
  refine storeShaped_modBank (f := releaseOf) hs rfl ?_ ?_ ?_ fun _ _ _ => Iff.rfl
  · rcases releaseOf_cases (bankOf s n id) with ⟨-, h⟩ | h
    · rw [h]
      exact bankOk_free
    · rw [h]
      refine bankOk_of_pieces hok rfl (fun hfree => ?_) hok.2.2.2
      obtain ⟨hnil, hzero⟩ := hok.2.2.1 hfree
      exact ⟨hnil, by simp [hzero]⟩
  · intro h1 h2
    rcases releaseOf_cases (bankOf s n id) with ⟨hdrain, h⟩ | h
    · have hnot : (bankOf s n id).state ≠ .active := by rw [hdrain]; decide
      exact absurd hdrain (hinactive hnot h2).1
    · rw [h] at h1 ⊢
      exact ⟨(hinactive h1 h2).1, (hpartner h2 h1).1, (hinactive h1 h2).2⟩
  · rcases releaseOf_cases (bankOf s n id) with ⟨hdrain, h⟩ | h
    · rw [h]
      refine ⟨fun hc => (by cases hc), fun hc => ?_⟩
      rw [(hs.checking n id).mpr hc] at hdrain
      cases hdrain
    · rw [h]
      exact hs.checking n id

/-- The ACTIVE bank's state (R35). -/
theorem state_of_activeBank {s : State} {n : Fin 8} {id : BankId} (h : activeBank s.pfs.slots[n] = some id) :
    (bankOf s n id).state = .active := by
  show (s.pfs.slots[n].get id).state = .active
  generalize s.pfs.slots[n] = x at h ⊢
  unfold activeBank at h
  split at h
  · next ha =>
    obtain rfl := Option.some.inj h
    exact ha
  · split at h
    · next hb =>
      obtain rfl := Option.some.inj h
      exact hb
    · cases h

theorem storeShaped_bindBank (s : State) (n : Fin 8) (id : BankId) (hs : StoreShaped s)
    (hactive : activeBank s.pfs.slots[n] = some id) : StoreShaped (bindBank n id s) := by
  have hstate := state_of_activeBank hactive
  refine storeShaped_modBank (f := fun b => { b with count := b.count + 1 }) hs rfl ?_ (fun h => absurd hstate h)
    (hs.checking n id) fun _ _ _ => Iff.rfl
  refine bankOk_of_pieces (hs.ok n id) rfl (fun hfree => ?_) (hs.ok n id).2.2.2
  rw [hstate] at hfree
  cases hfree

/-- CLEAR_LINE frees the DRAINING banks and clears the counts (R50). -/
theorem bankOf_clearPfs (s : State) (n : Fin 8) (id : BankId) :
    bankOf (clearPfs s) n id = clearBank (bankOf s n id) := by
  cases id <;> simp [bankOf, clearPfs, -Fin.getElem_fin, Slot.get]

theorem storeShaped_clearPfs (s : State) (hs : StoreShaped s) : StoreShaped (clearPfs s) := by
  have hcases : ∀ b : Bank, b.state = .draining ∧ clearBank b = Bank.free
      ∨ b.state ≠ .draining ∧ clearBank b = { b with count := 0 } := by
    intro b
    unfold clearBank
    split
    · next h => exact .inl ⟨h, rfl⟩
    · next h => exact .inr ⟨h, rfl⟩
  have hstate : ∀ b : Bank, b.state ≠ .draining → (clearBank b).state = b.state := by
    intro b hb
    rcases hcases b with ⟨h, -⟩ | ⟨-, h⟩
    · exact absurd h hb
    · rw [h]
  refine ⟨fun n id => ?_, fun n id => ?_, fun n id => ?_⟩
  · rw [bankOf_clearPfs]
    rcases hcases (bankOf s n id) with ⟨-, h⟩ | ⟨-, h⟩
    · rw [h]
      exact bankOk_free
    · rw [h]
      exact bankOk_of_pieces (hs.ok n id) rfl (fun hfree => ⟨((hs.ok n id).2.2.1 hfree).1, rfl⟩) (hs.ok n id).2.2.2
  · rw [bankOf_clearPfs, bankOf_clearPfs]
    intro h1 h2
    rcases hcases (bankOf s n id) with ⟨-, h⟩ | ⟨hd, -⟩
    · rw [h]
      exact ⟨by decide, .inl rfl⟩
    · rcases hcases (bankOf s n id.other) with ⟨-, h⟩ | ⟨hd', -⟩
      · rw [h, hstate _ hd]
        exact ⟨hd, .inr rfl⟩
      · rw [hstate _ hd, hstate _ hd'] at *
        exact hs.inactive n id h1 h2
  · rw [bankOf_clearPfs]
    rcases hcases (bankOf s n id) with ⟨hdrain, h⟩ | ⟨-, h⟩
    · rw [h]
      refine ⟨fun hc => (by cases hc), fun hc => ?_⟩
      rw [(hs.checking n id).mpr hc] at hdrain
      cases hdrain
    · rw [h]
      exact hs.checking n id

/-- Where its slot's other bank is not ACTIVE, the inactive bank stands beside a FREE one (R36). -/
theorem other_free_of_inactive {s : State} {n : Fin 8} {id : BankId} (hs : StoreShaped s)
    (hid : id = inactiveBank s.pfs.slots[n]) (hother : (bankOf s n id.other).state ≠ .active) :
    (bankOf s n id.other).state = .free := by
  subst hid
  cases hactive : activeBank s.pfs.slots[n] with
  | some j =>
    have hj : inactiveBank s.pfs.slots[n] = j.other := by rw [inactiveBank, hactive]
    rw [hj, BankId.other_other] at hother
    exact absurd (state_of_activeBank hactive) hother
  | none =>
    obtain ⟨ha, hb⟩ := (activeBank_eq_none_iff s n).mp hactive
    have hfree := (hs.inactive n .a ha hb).2
    by_cases hafree : (bankOf s n .a).state = .free
    · by_cases hbfree : (bankOf s n .b).state = .free
      · cases inactiveBank s.pfs.slots[n]
        · exact hbfree
        · exact hafree
      · have hid : inactiveBank s.pfs.slots[n] = .b := by
          unfold inactiveBank
          rw [hactive]
          exact (if_neg (not_not.mpr hafree)).trans (if_pos hbfree)
        rw [hid]
        exact hafree
    · have hid : inactiveBank s.pfs.slots[n] = .a := by
        unfold inactiveBank
        rw [hactive]
        exact if_pos hafree
      rw [hid]
      exact hfree.resolve_left hafree

/-- A bank that is neither ACTIVE, CHECKING nor DRAINING takes a piece, a discard or the start of its check. -/
theorem storeShaped_inactive {s t : State} {n : Fin 8} {id : BankId} {f : Bank → Bank} (hs : StoreShaped s)
    (hid : id = inactiveBank s.pfs.slots[n]) (hslots : t.pfs.slots = (s.modBank n id f).pfs.slots)
    (hok : BankOk (f (bankOf s n id))) (hdraining : (f (bankOf s n id)).state ≠ .draining)
    (hcheck : (f (bankOf s n id)).state = .checking ↔ t.pfs.check = some (n, id))
    (hother : ∀ m x, ¬(m = n ∧ x = id) → (t.pfs.check = some (m, x) ↔ s.pfs.check = some (m, x))) : StoreShaped t := by
  refine storeShaped_modBank hs hslots hok (fun _ h2 => ?_) hcheck hother
  have hfree := other_free_of_inactive hs hid h2
  exact ⟨hdraining, by rw [hfree]; decide, .inr hfree⟩

theorem mem_insertPiece (i : Nat) (p : Piece) (l : List (Nat × Piece)) :
    ∀ x ∈ insertPiece i p l, x = (i, p) ∨ x ∈ l := by
  induction l with
  | nil => simp [insertPiece]
  | cons y ys ih =>
    obtain ⟨j, q⟩ := y
    unfold insertPiece
    split
    · simp
    · split
      · rintro x hx
        rcases List.mem_cons.mp hx with rfl | hx <;> simp [*]
      · rintro x hx
        rcases List.mem_cons.mp hx with rfl | hx
        · simp
        · rcases ih x hx with rfl | hx <;> simp [*]

/-- Inserted pieces stay in rising order (R38, R39). -/
theorem insertPiece_sorted (i : Nat) (p : Piece) (l : List (Nat × Piece))
    (h : (l.map Prod.fst).Pairwise (· < ·)) : ((insertPiece i p l).map Prod.fst).Pairwise (· < ·) := by
  induction l with
  | nil => simp [insertPiece]
  | cons x xs ih =>
    obtain ⟨j, q⟩ := x
    rw [List.map_cons, List.pairwise_cons] at h
    unfold insertPiece
    split
    · next hij =>
      rw [List.map_cons, List.map_cons, List.pairwise_cons, List.pairwise_cons]
      refine ⟨fun y hy => ?_, h⟩
      rcases List.mem_cons.mp hy with rfl | hy
      · exact hij
      · exact lt_trans hij (h.1 y hy)
    · split
      · next hij =>
        subst hij
        simpa using h
      · next hnot hne =>
        rw [List.map_cons, List.pairwise_cons]
        refine ⟨fun y hy => ?_, ih h.2⟩
        obtain ⟨x, hx, rfl⟩ := List.mem_map.mp hy
        rcases mem_insertPiece i p xs x hx with rfl | hx
        · show j < i
          omega
        · exact h.1 _ (List.mem_map_of_mem hx)

theorem storeShaped_tableEffect (s : State) (slot piece : Byte) (body : TableBody) (hs : StoreShaped s)
    (hcheck : s.pfs.check = none) (hpass : refusal s (.table slot piece body) = none) :
    StoreShaped (tableEffect (slotOf slot) piece.toNat body s) := by
  have hrange := rangeOk_of_refusal hpass
  simp only [rangeOk, tableRangeOk, Bool.and_eq_true, decide_eq_true_eq] at hrange
  have hok := hs.ok (slotOf slot) (inactiveBank s.pfs.slots[slotOf slot])
  refine storeShaped_inactive (f := writePiece piece.toNat (storedPiece piece.toNat body)) hs rfl rfl ?_
    (fun h => (by cases h)) ⟨fun h => (by cases h), fun h => ?_⟩ fun _ _ _ => Iff.rfl
  · refine ⟨insertPiece_sorted piece.toNat (storedPiece piece.toNat body) _ hok.1, fun x hx => ?_, fun h =>
      (by cases h), fun h => ?_⟩
    · rcases mem_insertPiece _ _ _ x hx with rfl | hx
      · exact Nat.lt_succ_of_le hrange.1.2
      · exact hok.2.1 x hx
    · rcases h with h | h | h <;> cases h
  · have hnone : s.pfs.check = some (slotOf slot, inactiveBank s.pfs.slots[slotOf slot]) := h
    rw [hcheck] at hnone
    cases hnone

theorem storeShaped_discardEffect (s : State) (slot : Byte) (hs : StoreShaped s) (hcheck : s.pfs.check = none) :
    StoreShaped (discardEffect (slotOf slot) s) := by
  refine storeShaped_inactive (f := fun _ => Bank.free) hs rfl rfl bankOk_free (fun h => (by cases h))
    ⟨fun h => (by cases h), fun h => ?_⟩ fun _ _ _ => Iff.rfl
  have hnone : s.pfs.check = some (slotOf slot, inactiveBank s.pfs.slots[slotOf slot]) := h
  rw [hcheck] at hnone
  cases hnone

/-- PROFILE_COMMIT's object check: the inactive bank is STAGING, and complete (R27, R41). -/
theorem objectCheck_profileCommit (s : State) (slot : Byte) : objectCheck s (.profileCommit slot) =
    if (bankOf s (slotOf slot) (inactiveBank s.pfs.slots[slotOf slot])).state ≠ .staging then some (.notFound, 0)
    else if complete (bankOf s (slotOf slot) (inactiveBank s.pfs.slots[slotOf slot])) = true then none
    else some (.incomplete, missingCount (bankOf s (slotOf slot) (inactiveBank s.pfs.slots[slotOf slot]))) := rfl

/-- PROFILE_COMMIT finds its bank STAGING and complete (R41). -/
theorem complete_of_commit {s : State} {slot : Byte} (hpass : refusal s (.profileCommit slot) = none) :
    (bankOf s (slotOf slot) (inactiveBank s.pfs.slots[slotOf slot])).state = .staging
      ∧ complete (bankOf s (slotOf slot) (inactiveBank s.pfs.slots[slotOf slot])) = true := by
  have hobject := objectCheck_of_refusal hpass
  rw [objectCheck_profileCommit] at hobject
  split at hobject
  · cases hobject
  · next hstate =>
    split at hobject
    · next hcomplete => exact ⟨not_not.mp hstate, hcomplete⟩
    · cases hobject

theorem storeShaped_commitEffect (s : State) (slot : Byte) (hs : StoreShaped s) (hcheck : s.pfs.check = none)
    (hpass : refusal s (.profileCommit slot) = none) : StoreShaped (commitEffect (slotOf slot) s) := by
  obtain ⟨-, hcomplete⟩ := complete_of_commit hpass
  refine storeShaped_inactive (f := fun b => { b with state := .checking }) hs rfl rfl ?_ (fun h => (by cases h))
    ⟨fun _ => rfl, fun _ => rfl⟩ fun m x hne => ?_
  · exact bankOk_of_pieces (hs.ok _ _) rfl (fun h => (by cases h)) fun _ => hcomplete
  · rw [hcheck]
    refine ⟨fun h => ?_, fun h => (by cases h)⟩
    obtain ⟨rfl, rfl⟩ := Prod.mk.inj (Option.some.inj h)
    exact absurd ⟨rfl, rfl⟩ hne

/-- The end of the check with the bank in a new state that is neither CHECKING nor DRAINING (R43, R44). -/
theorem storeShaped_checkOver {s t : State} {n : Fin 8} {id : BankId} {f : Bank → Bank} (hs : StoreShaped s)
    (hcheck : s.pfs.check = some (n, id)) (hslots : t.pfs.slots = (s.modBank n id f).pfs.slots)
    (hover : t.pfs.check = none) (hpieces : (f (bankOf s n id)).pieces = (bankOf s n id).pieces)
    (hstate : (f (bankOf s n id)).state = .active ∨ (f (bankOf s n id)).state = .staging) : StoreShaped t := by
  have hchecking := (hs.checking n id).mpr hcheck
  have hok := hs.ok n id
  have hpartner := hs.inactive n id
  refine storeShaped_modBank hs hslots ?_ (fun h1 h2 => ?_) ?_ fun m x hne => ?_
  · refine bankOk_of_pieces hok hpieces (fun h => ?_) fun _ => hok.2.2.2 (.inl hchecking)
    rcases hstate with h' | h' <;> rw [h'] at h <;> cases h
  · have hfree := (hpartner (by rw [hchecking]; decide) h2).2
    rw [hchecking] at hfree
    have hother : (bankOf s n id.other).state = .free := hfree.resolve_left (by decide)
    have hstaging := hstate.resolve_left h1
    exact ⟨by rw [hstaging]; decide, by rw [hother]; decide, .inr hother⟩
  · rw [hover]
    refine ⟨fun h => ?_, fun h => (by cases h)⟩
    rcases hstate with h' | h' <;> rw [h'] at h <;> cases h
  · rw [hover, hcheck]
    refine ⟨fun h => (by cases h), fun h => ?_⟩
    obtain ⟨rfl, rfl⟩ := Prod.mk.inj (Option.some.inj h)
    exact absurd ⟨rfl, rfl⟩ hne

theorem storeShaped_commitBank (s : State) (n : Fin 8) (id : BankId) (hs : StoreShaped s)
    (hcheck : s.pfs.check = some (n, id)) :
    StoreShaped (commitBank n id (s.setPfs { s.pfs with check := none })) := by
  have hactive : StoreShaped ((s.setPfs { s.pfs with check := none }).modBank n id
      fun b => { b with state := .active, count := 0 }) :=
    storeShaped_checkOver (f := fun b => { b with state := .active, count := 0 }) hs hcheck rfl rfl rfl (.inl rfl)
  generalize hu : (s.setPfs { s.pfs with check := none }).modBank n id
    (fun b => { b with state := .active, count := 0 }) = u at hactive
  have hnone : u.pfs.check = none := by subst hu; rfl
  have hstate : (bankOf u n id).state = .active := by subst hu; rw [bankOf_modBank_same]
  have hcommit : commitBank n id (s.setPfs { s.pfs with check := none }) = u.modBank n id.other supersede := by
    rw [← hu]
    rfl
  rw [hcommit]
  have hok := hactive.ok n id.other
  have hcases : supersede (bankOf u n id.other) = Bank.free
      ∨ (bankOf u n id.other).state = .active
        ∧ supersede (bankOf u n id.other) = { bankOf u n id.other with state := .draining }
      ∨ supersede (bankOf u n id.other) = bankOf u n id.other := by
    unfold supersede
    split
    · next h =>
      split
      · exact .inr (.inl ⟨h, rfl⟩)
      · exact .inl rfl
    · exact .inr (.inr rfl)
  refine storeShaped_modBank hactive rfl ?_ (fun _ h => absurd hstate (by rwa [BankId.other_other] at h)) ?_
    fun _ _ _ => Iff.rfl
  · rcases hcases with h | ⟨hstate', h⟩ | h
    · rw [h]
      exact bankOk_free
    · rw [h]
      exact bankOk_of_pieces hok rfl (fun h => (by cases h)) fun _ => hok.2.2.2 (.inr (.inl hstate'))
    · rwa [h]
  · rcases hcases with h | ⟨-, h⟩ | h
    · rw [h]
      exact ⟨fun h => (by cases h), fun h => (by rw [modBank_check, hnone] at h; cases h)⟩
    · rw [h]
      exact ⟨fun h => (by cases h), fun h => (by rw [modBank_check, hnone] at h; cases h)⟩
    · rw [h]
      exact hactive.checking n id.other

theorem storeShaped_revertBank (s : State) (n : Fin 8) (id : BankId) (hs : StoreShaped s)
    (hcheck : s.pfs.check = some (n, id)) :
    StoreShaped (revertBank n id (s.setPfs { s.pfs with check := none })) :=
  storeShaped_checkOver (f := fun b => { b with state := .staging }) hs hcheck rfl rfl rfl (.inr rfl)

/-! ### The store over every step -/

theorem storeShaped_taken (s t : State) (hs : StoreShaped s) (h : Taken s t) : StoreShaped t := by
  have hvalue : ∀ u : State, StoreShaped u ↔ StoreShaped (State.reset.setPfs u.pfs) := fun u =>
    ⟨storeShaped_congr rfl, storeShaped_congr rfl⟩
  rw [hvalue] at hs ⊢
  apply pfs_keeps (Q := fun p => StoreShaped (State.reset.setPfs p)) (s := s) (t := t) (hs := hs) (h := h)
  case hrelease => exact fun s n id hs => (hvalue _).mp (storeShaped_releaseBank s n id ((hvalue s).mpr hs))
  case hbind => exact fun s n id hs hactive => (hvalue _).mp (storeShaped_bindBank s n id ((hvalue s).mpr hs) hactive)
  case hclear => exact fun s hs => (hvalue _).mp (storeShaped_clearPfs s ((hvalue s).mpr hs))
  case htable =>
    exact fun s slot piece body hs hcheck hpass =>
      (hvalue _).mp (storeShaped_tableEffect s slot piece body ((hvalue s).mpr hs) hcheck hpass)
  case hdiscard =>
    exact fun s slot hs hcheck _ => (hvalue _).mp (storeShaped_discardEffect s slot ((hvalue s).mpr hs) hcheck)
  case hcommit =>
    exact fun s slot hs hcheck hpass =>
      (hvalue _).mp (storeShaped_commitEffect s slot ((hvalue s).mpr hs) hcheck hpass)
  case hmatch => exact fun s n id hs hcheck => (hvalue _).mp (storeShaped_commitBank s n id ((hvalue s).mpr hs) hcheck)
  case hrevert => exact fun s n id hs hcheck => (hvalue _).mp (storeShaped_revertBank s n id ((hvalue s).mpr hs) hcheck)
  case hreset =>
    have hfree : ∀ n id, bankOf (State.reset.setPfs Pfs.reset) n id = Bank.free := fun n id => by
      cases id <;> simp [bankOf, Pfs.reset, Slot.get]
    refine ⟨fun n id => ?_, fun n id _ _ => ?_, fun n id => ?_⟩
    · rw [hfree]
      exact bankOk_free
    · rw [hfree]
      exact ⟨by decide, .inl rfl⟩
    · rw [hfree]
      exact ⟨fun h => (by cases h), fun h => (by cases h)⟩

/-- Settles O11: each operation on a bank leaves it in the shape its new state demands (R35 to R50). -/
theorem banksKept : Obligations.BanksKept := by
  intro s t hs h
  rw [banksShaped_iff] at hs ⊢
  exact step_keeps (P := StoreShaped) (fun _ _ => storeShaped_congr rfl) storeShaped_taken hs h

end Sys2Proof.Machine
end

section
/-! SUPPORT and the settling of O13. A stored value is clamped as it is written, a drop level is made by the colour path
of a clamped bank, and what else is done to banks and entries keeps or drops them (R28, R39, R58, R67). -/

namespace Sys2Proof.Machine

/-! ### Stored values -/

/-- Every bank's stored pieces are clamped (R28). -/
def StoreClamped (p : Pfs) : Prop :=
  ∀ (n : Fin 8) (id : BankId), BankClamped (p.slots[n].get id)

theorem storeClamped_modBank {s : State} {n : Fin 8} {id : BankId} {f : Bank → Bank} (hs : StoreClamped s.pfs)
    (hf : BankClamped (f (bankOf s n id))) : StoreClamped (s.modBank n id f).pfs := by
  intro m x
  have hbank : (s.modBank n id f).pfs.slots[m].get x = bankOf (s.modBank n id f) m x := rfl
  rw [hbank]
  by_cases h : m = n ∧ x = id
  · obtain ⟨rfl, rfl⟩ := h
    rwa [bankOf_modBank_same]
  · rw [bankOf_modBank_other _ _ _ _ _ _ h]
    exact hs m x

theorem bankClamped_free : BankClamped Bank.free := fun _ hx => (List.not_mem_nil hx).elim

theorem storeClamped_releaseBank (s : State) (n : Fin 8) (id : BankId) (hs : StoreClamped s.pfs) :
    StoreClamped (releaseBank n id s).pfs := by
  refine storeClamped_modBank hs ?_
  rcases releaseOf_cases (bankOf s n id) with ⟨-, h⟩ | h
  · rw [h]
    exact bankClamped_free
  · rw [h]
    exact hs n id

theorem storeClamped_bindBank (s : State) (n : Fin 8) (id : BankId) (hs : StoreClamped s.pfs) :
    StoreClamped (bindBank n id s).pfs :=
  storeClamped_modBank hs (hs n id)

theorem storeClamped_clearPfs (s : State) (hs : StoreClamped s.pfs) : StoreClamped (clearPfs s).pfs := by
  intro n id
  have hbank : (clearPfs s).pfs.slots[n].get id = clearBank (bankOf s n id) := bankOf_clearPfs s n id
  rw [hbank]
  unfold clearBank
  split
  · exact bankClamped_free
  · exact hs n id

/-- What is stored of a body is clamped (R28). -/
theorem pieceClamped_storedPiece (i : Nat) (body : TableBody) : pieceClamped i (storedPiece i body) = true := by
  cases body with
  | values vs =>
    simp only [storedPiece, pieceClamped, List.all_map, List.all_eq_true]
    intro v _
    simp only [Function.comp, clampValue]
    split <;> simp
  | header h => simp [storedPiece, pieceClamped, clampInk]
  | unchecked bs => rfl

theorem storeClamped_tableEffect (s : State) (n : Fin 8) (i : Nat) (body : TableBody) (hs : StoreClamped s.pfs) :
    StoreClamped (tableEffect n i body s).pfs := by
  refine storeClamped_modBank hs fun x hx => ?_
  rcases mem_insertPiece i _ _ x hx with rfl | hx
  · exact pieceClamped_storedPiece i body
  · exact hs _ _ x hx

theorem storeClamped_commitBank (s : State) (n : Fin 8) (id : BankId) (hs : StoreClamped s.pfs) :
    StoreClamped (commitBank n id (s.setPfs { s.pfs with check := none })).pfs := by
  have hactive : StoreClamped ((s.setPfs { s.pfs with check := none }).modBank n id
      fun b => { b with state := .active, count := 0 }).pfs := storeClamped_modBank hs (hs n id)
  refine storeClamped_modBank hactive ?_
  unfold supersede
  split
  · split
    · exact hactive n id.other
    · exact bankClamped_free
  · exact hactive n id.other

theorem storeClamped_perform (s : State) (r : Request) (hs : StoreClamped s.pfs) (hcheck : s.pfs.check = none)
    (hpass : refusal s r = none) : StoreClamped (perform r s).1.pfs := by
  refine pfs_perform (Q := StoreClamped) storeClamped_releaseBank (fun s n id hs _ => storeClamped_bindBank s n id hs)
    storeClamped_clearPfs (fun s slot piece body hs _ _ => storeClamped_tableEffect s _ _ body hs) ?_ ?_ s r hs hcheck
    hpass
  · exact fun s slot hs _ _ => storeClamped_modBank hs bankClamped_free
  · exact fun s slot hs _ _ => storeClamped_modBank (f := fun b => { b with state := .checking }) hs (hs _ _)

/-! ### Stored drop levels -/

/-- Every drop level of an entry lies in 0..3 (R67). -/
def LevelsOk (l : List Entry) : Prop :=
  ∀ e ∈ l, (∀ d ∈ e.written, DropsOk d) ∧ ∀ d ∈ e.provisional, DropsOk d

theorem LevelsOk.subset {l l' : List Entry} (h : LevelsOk l) (hsub : ∀ e ∈ l', e ∈ l) : LevelsOk l' :=
  fun e he => h e (hsub e he)

theorem LevelsOk.modFilling {l : List Entry} (h : LevelsOk l) (t : Tag) (n : Nat) {f : Entry → Entry}
    (hf : ∀ e ∈ l, (∀ d ∈ (f e).written, DropsOk d) ∧ ∀ d ∈ (f e).provisional, DropsOk d) :
    LevelsOk (modFilling t n f l) := by
  intro e he
  obtain ⟨x, hx, rfl⟩ := List.mem_map.mp he
  split
  · exact hf x hx
  · exact h x hx

theorem LevelsOk.releaseFilling {l : List Entry} (h : LevelsOk l) (t : Tag) (n : Nat) :
    LevelsOk (releaseFilling t n l) :=
  h.subset fun _ he => (List.mem_filter.mp he).1

theorem LevelsOk.voidEntries {l : List Entry} (h : LevelsOk l) (t : Tag) : LevelsOk (voidEntries t l) := by
  intro e he
  obtain ⟨x, hx, rfl⟩ := List.mem_map.mp he
  split
  · exact ⟨fun _ hd => (List.not_mem_nil hd).elim, fun _ hd => (List.not_mem_nil hd).elim⟩
  · exact h x hx

theorem levelsOk_freeEntries (s : State) (h : LevelsOk s.lst) : LevelsOk (freeEntries s).lst :=
  h.subset fun _ he => (List.dropWhile_sublist _).subset he

theorem levelsOk_discardLine (s : State) (h : LevelsOk s.lst) : LevelsOk (discardLine s).lst := by
  unfold discardLine
  split
  · split
    · exact h.releaseFilling _ _
    · exact h.modFilling _ _ fun e he => ⟨(h e he).1, fun _ hd => (List.not_mem_nil hd).elim⟩
  · exact h

theorem levelsOk_framingError (x : RxState) (n : Nat) (s : State) (h : LevelsOk s.lst) :
    LevelsOk (framingError x n s).lst := by
  simpa [framingError] using levelsOk_discardLine s h

/-- An accepted LINE frame's new entry holds no pixels (R130). -/
theorem levelsOk_acceptLine (seg : Tag) (line offset count : Nat) (slot : Bool) (s : State) (h : LevelsOk s.lst) :
    LevelsOk (acceptLine seg line offset count slot s).lst := by
  unfold acceptLine
  simp only
  split
  · intro e he
    rcases List.mem_append.mp he with he | he
    · exact h e he
    · obtain rfl := List.mem_singleton.mp he
      exact ⟨fun _ hd => (List.not_mem_nil hd).elim, fun _ hd => (List.not_mem_nil hd).elim⟩
  · exact h

theorem levelsOk_lineWithSlot (line : LineRx) (s : State) (h : LevelsOk s.lst) :
    LevelsOk (lineWithSlot line s).lst := by
  simpa using h

theorem levelsOk_checkLine (s : State) (h : LevelsOk s.lst) : LevelsOk (checkLine s).lst := by
  unfold checkLine
  simp only
  split
  · split
    · exact levelsOk_lineWithSlot _ s h
    · split
      · split
        · exact levelsOk_acceptLine _ _ _ _ _ s h
        · exact levelsOk_lineWithSlot _ s h
      · exact levelsOk_acceptLine _ _ _ _ _ s h
  · exact levelsOk_lineWithSlot _ s h

/-- A pixel's levels come from the colour path of a clamped bank (R57, R67). -/
theorem levelsOk_takePixel (s : State) (hs : StoreClamped s.pfs) (h : LevelsOk s.lst) : LevelsOk (takePixel s).lst := by
  unfold takePixel
  split
  · split
    · next seg line offset _ _ _ r _ =>
      refine h.modFilling _ _ fun e he => ⟨(h e he).1, fun d hd => ?_⟩
      rcases List.mem_append.mp hd with hd | hd
      · exact (h e he).2 d hd
      · obtain rfl := List.mem_singleton.mp hd
        exact convertPixel_dropsOk (hs r.slot r.bank) _ _ _ _ _ _
    · exact h
  · exact h

theorem levelsOk_linePayloadByte (s : State) (hs : StoreClamped s.pfs) (h : LevelsOk s.lst) :
    LevelsOk (linePayloadByte s).lst := by
  unfold linePayloadByte
  simp only
  split
  · exact levelsOk_checkLine s h
  · split
    · split
      · exact levelsOk_lineWithSlot _ s h
      · exact h
    · split
      · exact levelsOk_takePixel s hs h
      · exact h

theorem levelsOk_takePayloadByte (b : Byte) (s : State) (hs : StoreClamped s.pfs) (h : LevelsOk s.lst) :
    LevelsOk (takePayloadByte b s).lst := by
  have hline := levelsOk_linePayloadByte
    (s.modLrx fun l => { l with payload := l.payload ++ [b], crc := crcByte l.crc b }) hs h
  unfold takePayloadByte
  simp only
  split
  · split
    · exact hline
    · exact hline
  · split
    · exact h
    · exact h

theorem levelsOk_takeData (b : Byte) (s : State) (hs : StoreClamped s.pfs) (h : LevelsOk s.lst) :
    LevelsOk (takeData b s).lst := by
  unfold takeData
  split
  · exact h
  · exact h
  · unfold takeHeaderByte
    simp only
    split
    · exact h
    · split
      · exact levelsOk_framingError _ _ _ h
      · split
        · split
          · exact levelsOk_lineWithSlot _ _ h
          · exact h
        · exact h
  · exact levelsOk_takePayloadByte b s hs h
  · unfold takeTrailerByte
    split
    · exact h
    · exact levelsOk_framingError _ _ _ h

theorem levelsOk_takeStart (s : State) (h : LevelsOk s.lst) : LevelsOk (takeStart s).lst := by
  unfold takeStart
  split
  · split
    · exact h
    · simpa using h
  · exact h
  all_goals exact levelsOk_framingError _ _ _ h

theorem levelsOk_takeIdle (s : State) (h : LevelsOk s.lst) : LevelsOk (takeIdle s).lst := by
  have hrestart : LevelsOk (restartTimer s).lst := by simpa using h
  unfold takeIdle
  simp only
  split
  · exact hrestart
  · exact hrestart
  all_goals exact levelsOk_framingError _ _ _ hrestart

/-- Commitment makes provisional pixels written ones (R53). -/
theorem levelsOk_commitLine (seg : Tag) (line offset count : Nat) (s : State) (h : LevelsOk s.lst) :
    LevelsOk (commitLine seg line offset count s).lst := by
  have hwritten : ∀ st : EntryState, LevelsOk (modFilling seg line
      (fun e => { e with written := e.written ++ e.provisional, provisional := [], state := st }) s.lst) := by
    intro st
    refine h.modFilling _ _ fun e he => ⟨fun d hd => ?_, fun _ hd => (List.not_mem_nil hd).elim⟩
    rcases List.mem_append.mp hd with hd | hd
    · exact (h e he).1 d hd
    · exact (h e he).2 d hd
  unfold commitLine
  split
  · exact h
  · simp only
    split <;> simpa using hwritten _

theorem levelsOk_completeLine (s : State) (h : LevelsOk s.lst) : LevelsOk (completeLine s).lst := by
  have hcommit : ∀ seg l o c, LevelsOk (commitLine seg l o c (s.modLrx fun l => l.without .hunt 0)).lst :=
    fun seg l o c => levelsOk_commitLine seg l o c _ h
  unfold completeLine
  simp only
  split
  · split
    · exact hcommit _ _ _ _
    · exact hcommit _ _ _ _
  all_goals exact h

/-- A handled line frees at most an entry that it declares lost (R138). -/
theorem levelsOk_handleLine (k : Bar) (r : Segment) (n : Nat) (s : State) (h : LevelsOk s.lst) :
    LevelsOk (handleLine k r n s).lst := by
  unfold handleLine
  simp only
  split
  · simpa [declareLost, State.modBar, reportHandling] using h.releaseFilling r.tag n
  · simpa [State.modBar, reportHandling] using h

theorem levelsOk_handleDue (k : Bar) (fuel : Nat) (s : State) (h : LevelsOk s.lst) :
    LevelsOk (handleDue k fuel s).lst := by
  induction fuel generalizing s with
  | zero => exact h
  | succ fuel ih =>
    unfold handleDue
    split
    · exact h
    · split
      · exact h
      · split
        · exact ih _ (levelsOk_handleLine _ _ _ s h)
        · exact h

theorem levelsOk_barAdvance (s : State) (k : Bar) (h : LevelsOk s.lst) : LevelsOk (barAdvance s k).lst := by
  unfold barAdvance
  simp only
  split
  · exact levelsOk_handleDue _ _ _ h
  · exact h

theorem levelsOk_barsAdvance (s : State) (h : LevelsOk s.lst) : LevelsOk (barsAdvance s).lst :=
  levelsOk_freeEntries _ (foldl_keeps (P := fun u => LevelsOk u.lst) barAdvance levelsOk_barAdvance allBars s h)

/-- At an increase of P the bars alone touch the line store (R86, R132). -/
theorem increaseOfP_lst (s : State) : (increaseOfP s).lst
    = (barsAdvance (raiseHigh (s.setMou { s.mou with p := s.mou.p + 1 }))).lst := by
  rw [increaseOfP_eq]
  (repeat' split) <;> simp [risen]

theorem levelsOk_encoderLevels (a b : Bool) (s : State) (h : LevelsOk s.lst) : LevelsOk (encoderLevels a b s).lst := by
  have hlevels : LevelsOk (s.setMou { s.mou with encA := a, encB := b }).lst := h
  unfold encoderLevels
  generalize s.setMou { s.mou with encA := a, encB := b } = u at hlevels
  unfold countEdge
  split
  · split
    · rw [increaseOfP_lst]
      exact levelsOk_barsAdvance _ hlevels
    · exact hlevels
  · split <;> exact hlevels
  · exact hlevels

theorem levelsOk_abortEffect (t : Tag) (s : State) (h : LevelsOk s.lst) : LevelsOk (abortEffect t s).lst := by
  unfold abortEffect
  split
  · exact h
  · split
    · unfold abortWaiting
      simp only [formHeat_lst, formSpeed_lst]
      refine levelsOk_freeEntries _ ?_
      split <;> simpa [removeSegment] using h.voidEntries _
    · unfold abortPrinting
      simp only
      split
      · split
        · simpa [abortFlags] using h.releaseFilling _ _
        · simpa using h
      · simpa using h
    · simpa using h

theorem levelsOk_perform (s : State) (r : Request) (h : LevelsOk s.lst) : LevelsOk (perform r s).1.lst := by
  cases r
  case segmentAbort seg => exact levelsOk_abortEffect seg s h
  case barConfig bars =>
    simp only [perform, barConfigEffect]
    exact levelsOk_freeEntries _ (by simpa using h)
  case clearLine => exact fun e he => by simp [perform, clearEffect, clearStore] at he
  all_goals simpa [perform] using h

/-! ### Colour over every step -/

/-- Stored values and stored drop levels together. -/
def ColourKeeps (s : State) : Prop :=
  StoreClamped s.pfs ∧ LevelsOk s.lst

theorem colourKeeps_congr {s t : State} (hpfs : t.pfs = s.pfs) (hlst : LevelsOk s.lst → LevelsOk t.lst)
    (hs : ColourKeeps s) : ColourKeeps t :=
  ⟨by rw [hpfs]; exact hs.1, hlst hs.2⟩

theorem colourKeeps_event {s t : State} (hs : ColourKeeps s) (h : Event s t) : ColourKeeps t := by
  cases h
  case startMark => exact colourKeeps_congr (by simp) (levelsOk_takeStart s) hs
  case dataSymbol b => exact colourKeeps_congr (by simp) (levelsOk_takeData b s hs.1) hs
  case idleFill => exact colourKeeps_congr (by simp) (levelsOk_takeIdle s) hs
  case abortMark =>
    refine colourKeeps_congr (by simp) (fun h => ?_) hs
    simpa [takeAbort] using levelsOk_discardLine s h
  case encoderEdge a b =>
    exact ⟨encoderLevels_pfs storeClamped_releaseBank a b s hs.1, levelsOk_encoderLevels a b s hs.2⟩
  case hardwareReset =>
    refine ⟨fun n id => ?_, fun e he => ?_⟩
    · cases id <;> simpa [resetBlocks, State.reset, Pfs.reset, Slot.get] using bankClamped_free
    · simp [resetBlocks, State.reset] at he
  all_goals exact colourKeeps_congr (by simp) (fun h => by simpa using h) hs

theorem colourKeeps_taken (s t : State) (hs : ColourKeeps s) (h : Taken s t) : ColourKeeps t := by
  apply taken_keeps (P := ColourKeeps) (s := s) (t := t) (hs := hs) (h := h)
  case hevent => exact fun s t => colourKeeps_event
  case hdiscard => exact fun s => colourKeeps_congr (by simp) (levelsOk_discardLine s)
  case hline => exact fun s => colourKeeps_congr (by simp) (levelsOk_completeLine s)
  case hperform =>
    exact fun s r hs hcheck hpass => ⟨storeClamped_perform s r hs.1 hcheck hpass, levelsOk_perform s r hs.2⟩
  case hcheck =>
    intro s n id f hs _
    have hrevert : StoreClamped (revertBank n id (s.setPfs { s.pfs with check := none })).pfs :=
      storeClamped_modBank (f := fun b => { b with state := .staging }) hs.1 (hs.1 n id)
    exact ⟨pfs_endCheck f (storeClamped_commitBank s n id hs.1) hrevert, by simpa using hs.2⟩
  all_goals
    intros
    refine colourKeeps_congr ?_ (fun h => ?_) ‹ColourKeeps _›
    · simp
    · simpa using h

theorem colourOk_iff (s : State) : ColourOk s ↔ ColourKeeps s := by
  refine and_congr_left fun _ => ⟨fun h n id => ?_, fun h n => ⟨h n .a, h n .b⟩⟩
  cases id
  · exact (h n).1
  · exact (h n).2

/-- Settles O13: a value is clamped where it is stored, and a level made where a pixel is taken. -/
theorem colourKept : Obligations.ColourKept := by
  intro s t hs h
  rw [colourOk_iff] at hs ⊢
  exact step_keeps (P := ColourKeeps) (fun _ _ => id) colourKeeps_taken hs h

end Sys2Proof.Machine
end

section
/-! SUPPORT and the settling of O10. Counting the live records that meet a test: what advances keeps the count, a record
that leaves the live set takes one off, one that opens adds one; and the banks' and the fabrics' counts follow (R47,
R69, R106, R118). -/

namespace Sys2Proof.Machine

/-! ### Counting live records -/

/-- The live records of a list that meet a test. -/
def liveCount (p : Segment → Bool) (l : List Segment) : Nat :=
  l.countP fun r => r.live && p r

theorem boundTo_eq (s : State) (n : Fin 8) (id : BankId) :
    boundTo s n id = liveCount (fun r => decide (r.slot = n) && decide (r.bank = id)) s.rls := by
  simp only [boundTo, liveCount, List.countP_eq_length_filter, Bool.and_assoc]

theorem boundToFabric_eq (s : State) (k : Fin 16) :
    boundToFabric s k = liveCount (fun r => decide (r.fabric = k)) s.rls := by
  simp only [boundToFabric, liveCount, List.countP_eq_length_filter]

/-- A test that reads bound fields alone. -/
def ReadsBound (p : Segment → Bool) : Prop :=
  ∀ r r' : Segment, SameBound r r' → p r' = p r

theorem readsBound_bank (n : Fin 8) (id : BankId) :
    ReadsBound fun r => decide (r.slot = n) && decide (r.bank = id) := by
  intro r r' h
  obtain ⟨-, -, -, -, -, -, -, hslot, hbank, -⟩ := h
  simp [hslot, hbank]

theorem readsBound_fabric (k : Fin 16) : ReadsBound fun r => decide (r.fabric = k) := by
  intro r r' h
  obtain ⟨-, -, -, -, -, -, -, -, -, -, -, -, -, hfabric, -⟩ := h
  simp [hfabric]

/-- Advances that leave the live set as it is keep the count (R106). -/
theorem liveCount_evolves {p : Segment → Bool} (hp : ReadsBound p) {l l' : List Segment} (h : Evolves l l')
    (hlive : l'.map Segment.live = l.map Segment.live) : liveCount p l' = liveCount p l := by
  unfold liveCount
  induction h with
  | nil => rfl
  | cons hr _ ih =>
    obtain ⟨hhead, htail⟩ := List.cons.inj hlive
    rw [List.countP_cons, List.countP_cons, ih htail, hhead, hp _ _ hr.bound]

theorem modSeg_of_new {t : Tag} {f : Segment → Segment} {l : List Segment} (h : ∀ x ∈ l, x.tag ≠ t) :
    modSeg t f l = l := by
  have hid : modSeg t f l = l.map id := List.map_congr_left fun x hx => if_neg (h x hx)
  rw [hid, List.map_id]

theorem filter_of_new {t : Tag} {l : List Segment} (h : ∀ x ∈ l, x.tag ≠ t) :
    (l.filter fun r => !decide (r.tag = t)) = l :=
  List.filter_eq_self.mpr fun x hx => by simp [h x hx]

/-- A live record that is retired takes one off the count (R118). -/
theorem liveCount_retired {p : Segment → Bool} {l : List Segment} {r : Segment} (htags : (l.map Segment.tag).Nodup)
    (hmem : r ∈ l) (hlive : r.live = true) :
    liveCount p l = liveCount p (modSeg r.tag retiredRecord l) + if p r then 1 else 0 := by
  have hretired : ∀ x, (retiredRecord x).live = false := fun x => by simp [retiredRecord, Segment.live]
  unfold liveCount
  induction l with
  | nil => cases hmem
  | cons x l ih =>
    rw [List.map_cons, List.nodup_cons] at htags
    have hnot : ∀ y ∈ l, y.tag ≠ x.tag := fun y hy h => htags.1 (h ▸ List.mem_map_of_mem hy)
    rcases List.mem_cons.mp hmem with rfl | hmem
    · have htail : modSeg r.tag retiredRecord (r :: l) = retiredRecord r :: l := by
        have := modSeg_of_new (f := retiredRecord) hnot
        simp only [modSeg] at this
        simp [modSeg, this]
      rw [htail, List.countP_cons, List.countP_cons]
      simp [hlive, hretired]
    · have htail : modSeg r.tag retiredRecord (x :: l) = x :: modSeg r.tag retiredRecord l := by
        simp [modSeg, (hnot r hmem).symm]
      rw [htail, List.countP_cons, List.countP_cons, ih htags.2 hmem]
      omega

/-- A live record that leaves the list takes one off the count (R118, R121). -/
theorem liveCount_removed {p : Segment → Bool} {l : List Segment} {r : Segment} (htags : (l.map Segment.tag).Nodup)
    (hmem : r ∈ l) (hlive : r.live = true) :
    liveCount p l = liveCount p (l.filter fun x => !decide (x.tag = r.tag)) + if p r then 1 else 0 := by
  unfold liveCount
  induction l with
  | nil => cases hmem
  | cons x l ih =>
    rw [List.map_cons, List.nodup_cons] at htags
    have hnot : ∀ y ∈ l, y.tag ≠ x.tag := fun y hy h => htags.1 (h ▸ List.mem_map_of_mem hy)
    rcases List.mem_cons.mp hmem with rfl | hmem
    · rw [List.filter_cons_of_neg (by simp), filter_of_new hnot, List.countP_cons]
      simp [hlive]
    · rw [List.filter_cons_of_pos (by simp [(hnot r hmem).symm]), List.countP_cons, List.countP_cons,
        ih htags.2 hmem]
      omega

/-- A record that is not live leaves the count as it is when it leaves the list (R125). -/
theorem liveCount_removed_retired {p : Segment → Bool} {l : List Segment} {r : Segment}
    (htags : (l.map Segment.tag).Nodup) (hmem : r ∈ l) (hlive : r.live = false) :
    liveCount p (l.filter fun x => !decide (x.tag = r.tag)) = liveCount p l := by
  unfold liveCount
  rw [List.countP_filter]
  refine List.countP_congr fun x hx => ?_
  by_cases hxr : x.tag = r.tag
  · have heq : x = r := List.inj_on_of_nodup_map htags hx hmem hxr
    simp [heq, hlive]
  · simp [hxr]

theorem liveCount_append (p : Segment → Bool) (l : List Segment) {r : Segment} (hlive : r.live = true) :
    liveCount p (l ++ [r]) = liveCount p l + if p r then 1 else 0 := by
  simp [liveCount, List.countP_append, List.countP_singleton, hlive]

/-! ### The counts -/

/-- `RefCounts` for any bank of a slot. -/
structure RefsHeld (s : State) : Prop where
  tags : (s.rls.map Segment.tag).Nodup
  printed : ∀ r ∈ s.rls, r.calender = .retired → r.print = .printed
  bank : ∀ n id, (bankOf s n id).count = boundTo s n id
  idle : ∀ n id, (bankOf s n id).state = .active ∨ (bankOf s n id).state = .draining ∨ (bankOf s n id).count = 0
  one : ∀ n id, (bankOf s n id).state = .active → (bankOf s n id.other).state ≠ .active
  check : ∀ x ∈ s.pfs.check, (bankOf s x.1 x.2).state = .checking
  fabric : ∀ k : Fin 16, s.tnc.fabrics[k].segs = boundToFabric s k

theorem refCounts_iff (s : State) : RefCounts s ↔ RefsHeld s := by
  constructor
  · rintro ⟨htags, hprinted, hbank, hstates, hcheck, hfabric⟩
    refine ⟨htags, hprinted, fun n id => ?_, fun n id => ?_, fun n id => ?_, hcheck, hfabric⟩
    · cases id
      · exact (hbank n).1
      · exact (hbank n).2
    · obtain ⟨ha, hb, -⟩ := hstates n
      cases id
      · exact ha
      · exact hb
    · obtain ⟨-, -, hboth⟩ := hstates n
      cases id
      · exact fun ha hb => hboth ⟨ha, hb⟩
      · exact fun hb ha => hboth ⟨ha, hb⟩
  · intro h
    exact ⟨h.tags, h.printed, fun n => ⟨h.bank n .a, h.bank n .b⟩,
      fun n => ⟨h.idle n .a, h.idle n .b, fun hboth => h.one n .a hboth.1 hboth.2⟩, h.check, h.fabric⟩

theorem Evolves.mem_key {κ : Type} {l l' : List Segment} (h : Evolves l l') {k : Segment → κ}
    (hk : l'.map k = l.map k) {r' : Segment} (hr : r' ∈ l') : ∃ r ∈ l, Stays r r' ∧ k r' = k r := by
  induction h with
  | nil => cases hr
  | cons hx _ ih =>
    obtain ⟨hhead, htail⟩ := List.cons.inj hk
    rcases List.mem_cons.mp hr with rfl | hr
    · exact ⟨_, List.mem_cons_self, hx, hhead⟩
    · obtain ⟨r, hmem, hstays⟩ := ih htail hr
      exact ⟨r, List.mem_cons_of_mem _ hmem, hstays⟩

theorem printed_of_number_le {x : PrintState} (h : printStateNumber .printed ≤ printStateNumber x) : x = .printed := by
  cases x
  · exact absurd h (by decide)
  · exact absurd h (by decide)
  · rfl

/-- A record stays PRINTED, so what was retired and PRINTED is so still (R117). -/
theorem printed_evolves {l l' : List Segment} (h : Evolves l l') (hlive : l'.map Segment.live = l.map Segment.live)
    (hs : ∀ r ∈ l, r.calender = .retired → r.print = .printed) :
    ∀ r ∈ l', r.calender = .retired → r.print = .printed := by
  intro r' hr' hretired
  obtain ⟨r, hr, hstays, hkey⟩ := h.mem_key hlive hr'
  have hprinted := hs r hr (by simpa [Segment.live, hretired] using hkey)
  obtain ⟨-, hprint, -⟩ := hstays.advanced
  rw [hprinted] at hprint
  exact printed_of_number_le hprint

/-- Advances that leave the live set, the store and the segment counts as they are. -/
theorem refsHeld_evolves {s t : State} (h : Evolves s.rls t.rls)
    (hlive : t.rls.map Segment.live = s.rls.map Segment.live) (hpfs : t.pfs = s.pfs)
    (hfabrics : ∀ k : Fin 16, t.tnc.fabrics[k].segs = s.tnc.fabrics[k].segs) (hs : RefsHeld s) : RefsHeld t := by
  have hbank : ∀ n id, bankOf t n id = bankOf s n id := fun n id => by unfold bankOf; rw [hpfs]
  refine ⟨by rw [h.tags]; exact hs.tags, printed_evolves h hlive hs.printed, fun n id => ?_, fun n id => ?_,
    fun n id => ?_, ?_,
    fun k => ?_⟩
  · rw [hbank, hs.bank, boundTo_eq, boundTo_eq, liveCount_evolves (readsBound_bank n id) h hlive]
  · rw [hbank]
    exact hs.idle n id
  · rw [hbank, hbank]
    exact hs.one n id
  · simp only [hpfs, hbank]
    exact hs.check
  · rw [hfabrics, hs.fabric, boundToFabric_eq, boundToFabric_eq, liveCount_evolves (readsBound_fabric k) h hlive]

/-- A live record's references are released as it leaves the live set (R118). -/
theorem refsHeld_released {s t : State} {r : Segment} (hs : RefsHeld s)
    (htags : (t.rls.map Segment.tag).Nodup) (hprinted : ∀ x ∈ t.rls, x.calender = .retired → x.print = .printed)
    (hcount : ∀ p : Segment → Bool, liveCount p s.rls = liveCount p t.rls + if p r then 1 else 0)
    (hpfs : t.pfs = (releaseBank r.slot r.bank s).pfs)
    (hfabrics : ∀ k : Fin 16, t.tnc.fabrics[k].segs
      = if k = r.fabric then s.tnc.fabrics[k].segs - 1 else s.tnc.fabrics[k].segs) : RefsHeld t := by
  have hbank : ∀ n id, bankOf t n id = bankOf (releaseBank r.slot r.bank s) n id := fun n id => by
    unfold bankOf
    rw [hpfs]
  have hsame : bankOf t r.slot r.bank = releaseOf (bankOf s r.slot r.bank) := by
    rw [hbank]
    exact bankOf_modBank_same s _ _ _
  have hother : ∀ n id, ¬(n = r.slot ∧ id = r.bank) → bankOf t n id = bankOf s n id := fun n id h => by
    rw [hbank]
    exact bankOf_modBank_other s _ _ _ _ _ h
  have hnotactive : ∀ b : Bank, (releaseOf b).state = .active → b.state = .active := by
    intro b
    rcases releaseOf_cases b with ⟨-, h⟩ | h
    · rw [h]
      exact fun h => by cases h
    · rw [h]
      exact id
  have hactive : ∀ n id, (bankOf t n id).state = .active → (bankOf s n id).state = .active := by
    intro n id
    by_cases h : n = r.slot ∧ id = r.bank
    · obtain ⟨rfl, rfl⟩ := h
      rw [hsame]
      exact hnotactive _
    · rw [hother n id h]
      exact fun h => h
  refine ⟨htags, hprinted, fun n id => ?_, fun n id => ?_, fun n id h1 h2 => hs.one n id (hactive _ _ h1)
    (hactive _ _ h2),
    fun x hx => ?_, fun k => ?_⟩
  · have hstep := hcount fun x => decide (x.slot = n) && decide (x.bank = id)
    rw [← boundTo_eq, ← boundTo_eq, ← hs.bank] at hstep
    by_cases h : n = r.slot ∧ id = r.bank
    · obtain ⟨rfl, rfl⟩ := h
      rw [hsame]
      simp only [decide_true, Bool.and_self, if_true] at hstep
      unfold releaseOf
      split
      · next hdrain =>
        show 0 = _
        omega
      · show _ - 1 = _
        omega
    · rw [hother n id h]
      have hno : ¬(r.slot = n ∧ r.bank = id) := fun e => h ⟨e.1.symm, e.2.symm⟩
      have hfalse : (decide (r.slot = n) && decide (r.bank = id)) = false := by
        simpa using fun e1 e2 => hno ⟨e1, e2⟩
      simp only [hfalse] at hstep
      simpa using hstep
  · by_cases h : n = r.slot ∧ id = r.bank
    · obtain ⟨rfl, rfl⟩ := h
      rw [hsame]
      rcases releaseOf_cases (bankOf s r.slot r.bank) with ⟨-, h⟩ | h
      · rw [h]
        exact .inr (.inr rfl)
      · rw [h]
        rcases hs.idle r.slot r.bank with h | h | h
        · exact .inl h
        · exact .inr (.inl h)
        · exact .inr (.inr (by simp [h]))
    · rw [hother n id h]
      exact hs.idle n id
  · have hchecking : (bankOf s x.1 x.2).state = .checking := hs.check x (by rw [hpfs] at hx; exact hx)
    by_cases h : x.1 = r.slot ∧ x.2 = r.bank
    · rw [h.1, h.2] at hchecking ⊢
      rw [hsame]
      unfold releaseOf
      rw [if_neg (by rw [hchecking]; simp)]
      exact hchecking
    · rw [hother _ _ h]
      exact hchecking
  · have hstep := hcount fun x => decide (x.fabric = k)
    rw [← boundToFabric_eq, ← boundToFabric_eq, ← hs.fabric] at hstep
    rw [hfabrics]
    by_cases h : k = r.fabric
    · rw [if_pos h]
      simp only [h, decide_true, if_true] at hstep ⊢
      omega
    · rw [if_neg h]
      have hfalse : decide (r.fabric = k) = false := decide_eq_false fun e => h e.symm
      simp only [hfalse] at hstep
      simpa using hstep

/-! ### The calender and the list -/

theorem modSegs_segs (k : Fin 16) (f : Nat → Nat) (s : State) (j : Fin 16) :
    (modSegs k f s).tnc.fabrics[j].segs = if j = k then f s.tnc.fabrics[j].segs else s.tnc.fabrics[j].segs := by
  simp only [modSegs, State.modTnc, State.setTnc_tnc]
  split
  · next h =>
    subst h
    rw [vmod_same]
  · next h => rw [vmod_other _ _ _ _ h]

theorem releaseRefs_segs (r : Segment) (s : State) (k : Fin 16) :
    (releaseRefs r s).tnc.fabrics[k].segs
      = if k = r.fabric then s.tnc.fabrics[k].segs - 1 else s.tnc.fabrics[k].segs :=
  modSegs_segs r.fabric (· - 1) (releaseBank r.slot r.bank s) k

theorem refsHeld_retireAt (t : Tag) (s : State) (hs : RefsHeld s) : RefsHeld (retireAt t s) := by
  unfold retireAt
  split
  · next r hfind =>
    split
    · next h =>
      obtain ⟨htag, hmem⟩ := findSeg_some hfind
      have hlive : r.live = true := by simp [Segment.live, h.1]
      subst htag
      have hevolves : Evolves s.rls (modSeg r.tag retiredRecord s.rls) := evolves_modSeg _ _ stays_retired
      refine refsHeld_released (r := r) hs ?_ ?_ (fun p => ?_) ?_ fun k => ?_
      · simpa [hevolves.tags] using hs.tags
      · intro x hx
        obtain ⟨y, hy, rfl⟩ := List.mem_map.mp (by simpa [State.modSegment] using hx :
          x ∈ modSeg r.tag retiredRecord s.rls)
        split
        · exact fun _ => rfl
        · exact hs.printed y hy
      · simpa [State.modSegment] using liveCount_retired hs.tags hmem hlive
      · simp [releaseRefs, releaseBank, State.modBank]
      · simp only [tensionReleased_frame]
        exact releaseRefs_segs r _ k
    · exact hs
  · exact hs

theorem refsHeld_calenderAdvance (s : State) (hs : RefsHeld s) : RefsHeld (calenderAdvance s) := by
  refine foldl_keeps (fun acc t => retireAt t (enterArc t acc)) (fun u t hu => refsHeld_retireAt t _ ?_) _ s hs
  refine refsHeld_evolves (evolves_enterArc t u) ?_ (by simp) (by simp) hu
  simp only [enterArc, State.modSegment, State.setRls_rls, modSeg, List.map_map]
  refine List.map_congr_left fun x _ => ?_
  simp only [Function.comp]
  split
  · split
    · next h => simp [Segment.live, h.1]
    · rfl
  · rfl

theorem refsHeld_setLtx (s : State) (l : Ltx) (hs : RefsHeld s) : RefsHeld (s.setLtx l) :=
  ⟨hs.tags, hs.printed, hs.bank, hs.idle, hs.one, hs.check, hs.fabric⟩

/-- A retired record leaves the list without references (R118, R125). -/
theorem refsHeld_removeSegment {s : State} {r : Segment} (hs : RefsHeld s) (hmem : r ∈ s.rls) (hlive : r.live = false) :
    RefsHeld (removeSegment r.tag s) := by
  have hrls := removeSegment_rls r.tag s
  refine ⟨?_, fun x hx => hs.printed x ?_, fun n id => ?_, hs.idle, hs.one, hs.check, fun k => ?_⟩
  · rw [hrls]
    exact hs.tags.sublist (List.filter_sublist.map _)
  · rw [hrls] at hx
    exact (List.mem_filter.mp hx).1
  · rw [boundTo_eq, hrls, liveCount_removed_retired hs.tags hmem hlive, ← boundTo_eq]
    exact hs.bank n id
  · rw [boundToFabric_eq, hrls, liveCount_removed_retired hs.tags hmem hlive, ← boundToFabric_eq]
    exact hs.fabric k

theorem refsHeld_frameSent (s : State) (hs : RefsHeld s) : RefsHeld (frameSent s) := by
  unfold frameSent
  split
  · unfold traceDone
    split
    · next r hfind =>
      split
      · next h =>
        obtain ⟨htag, hmem⟩ := findSeg_some hfind
        rw [← htag]
        exact refsHeld_removeSegment (refsHeld_setLtx s _ hs) hmem (by simp [Segment.live, h.1])
      · exact refsHeld_setLtx s _ hs
    · exact refsHeld_setLtx s _ hs
  · exact refsHeld_setLtx s _ hs
  · exact hs
  · exact hs

theorem refsHeld_abortWaiting {s : State} {r : Segment} (hs : RefsHeld s) (hmem : r ∈ s.rls) (hlive : r.live = true) :
    RefsHeld (abortWaiting r s) := by
  have hrls := abortWaiting_rls r s
  refine refsHeld_released (r := r) hs ?_ (fun x hx => hs.printed x ?_) (fun p => ?_) (abortWaiting_pfs r s) fun k => ?_
  · rw [hrls]
    exact hs.tags.sublist (List.filter_sublist.map _)
  · rw [hrls] at hx
    exact (List.mem_filter.mp hx).1
  · rw [hrls]
    exact liveCount_removed hs.tags hmem hlive
  · simp only [abortWaiting, formHeat_tnc, formSpeed_tnc, freeEntries_frame, tensionReleased_frame]
    split
    · simp only [overtakeOf_frame, State.setCpa_tnc]
      refine (releaseRefs_segs r _ k).trans ?_
      simp
    · refine (releaseRefs_segs r _ k).trans ?_
      simp

/-- A record that opens is live, and takes up a reference of its bank and of its fabric (R47, R69). -/
theorem refsHeld_addSegment {s : State} {r : Segment} (hs : RefsHeld s) (hnew : ∀ x ∈ s.rls, x.tag ≠ r.tag)
    (happroach : r.calender = .approach) (hactive : (bankOf s r.slot r.bank).state = .active) :
    RefsHeld (addSegment r s) := by
  have hrls := addSegment_rls r s
  have hlive : r.live = true := by simp [Segment.live, happroach]
  have hbank : ∀ n id, bankOf (addSegment r s) n id = bankOf (bindBank r.slot r.bank s) n id := fun n id => by
    unfold bankOf
    rw [addSegment_pfs]
  have hsame : bankOf (addSegment r s) r.slot r.bank
      = { bankOf s r.slot r.bank with count := (bankOf s r.slot r.bank).count + 1 } := by
    rw [hbank]
    exact bankOf_modBank_same s _ _ _
  have hother : ∀ n id, ¬(n = r.slot ∧ id = r.bank) → bankOf (addSegment r s) n id = bankOf s n id := fun n id h => by
    rw [hbank]
    exact bankOf_modBank_other s _ _ _ _ _ h
  have hstate : ∀ n id, (bankOf (addSegment r s) n id).state = (bankOf s n id).state := by
    intro n id
    by_cases h : n = r.slot ∧ id = r.bank
    · obtain ⟨rfl, rfl⟩ := h
      rw [hsame]
    · rw [hother n id h]
  refine ⟨?_, fun x hx hretired => ?_, fun n id => ?_, fun n id => ?_, fun n id => ?_, fun x hx => ?_, fun k => ?_⟩
  · rw [hrls, List.map_append, List.nodup_append]
    exact ⟨hs.tags, by simp, by simpa using hnew⟩
  · rw [hrls] at hx
    rcases List.mem_append.mp hx with hx | hx
    · exact hs.printed x hx hretired
    · rw [List.mem_singleton.mp hx, happroach] at hretired
      cases hretired
  · rw [boundTo_eq, hrls, liveCount_append _ _ hlive, ← boundTo_eq, ← hs.bank]
    by_cases h : n = r.slot ∧ id = r.bank
    · obtain ⟨rfl, rfl⟩ := h
      rw [hsame]
      simp
    · rw [hother n id h]
      have hfalse : (decide (r.slot = n) && decide (r.bank = id)) = false := by
        simpa using fun e1 e2 => h ⟨e1.symm, e2.symm⟩
      simp [hfalse]
  · by_cases h : n = r.slot ∧ id = r.bank
    · obtain ⟨rfl, rfl⟩ := h
      exact .inl ((hstate _ _).trans hactive)
    · rw [hother n id h]
      exact hs.idle n id
  · rw [hstate, hstate]
    exact hs.one n id
  · rw [hstate]
    exact hs.check x (by simpa using hx)
  · rw [boundToFabric_eq, hrls, liveCount_append _ _ hlive, ← boundToFabric_eq, ← hs.fabric]
    have hsegs : (addSegment r s).tnc.fabrics[k].segs
        = if k = r.fabric then s.tnc.fabrics[k].segs + 1 else s.tnc.fabrics[k].segs := by
      simp only [addSegment, formHeat_tnc, formSpeed_tnc, tensionQualify_frame, cursorsOpen_frame]
      split
      · exact modSegs_segs r.fabric (· + 1) _ k
      · exact modSegs_segs r.fabric (· + 1) _ k
    rw [hsegs]
    by_cases h : k = r.fabric
    · simp [h]
    · have hno : ¬r.fabric = k := fun e => h e.symm
      simp [h, hno]

/-! ### Banks that change state -/

/-- One bank changed, with its count kept, and the bank under check with it. -/
theorem refsHeld_modBank {s t : State} {n : Fin 8} {id : BankId} {f : Bank → Bank} (hs : RefsHeld s)
    (hrls : t.rls = s.rls) (htnc : t.tnc = s.tnc) (hslots : t.pfs.slots = (s.modBank n id f).pfs.slots)
    (hcount : (f (bankOf s n id)).count = (bankOf s n id).count)
    (hidle : (f (bankOf s n id)).state = .active ∨ (f (bankOf s n id)).state = .draining
      ∨ (f (bankOf s n id)).count = 0)
    (hone : (f (bankOf s n id)).state = .active → (bankOf s n id.other).state ≠ .active)
    (hcheck : ∀ x ∈ t.pfs.check, (bankOf t x.1 x.2).state = .checking) : RefsHeld t := by
  have hbank : ∀ m x, bankOf t m x = bankOf (s.modBank n id f) m x := fun m x => by unfold bankOf; rw [hslots]
  have hsame : bankOf t n id = f (bankOf s n id) := by rw [hbank, bankOf_modBank_same]
  have hkept : ∀ m x, ¬(m = n ∧ x = id) → bankOf t m x = bankOf s m x := fun m x h => by
    rw [hbank, bankOf_modBank_other _ _ _ _ _ _ h]
  have hpartner : bankOf t n id.other = bankOf s n id.other := hkept _ _ fun h => BankId.other_ne id h.2
  refine ⟨by rw [hrls]; exact hs.tags, by rw [hrls]; exact hs.printed, fun m x => ?_, fun m x => ?_, fun m x => ?_,
    hcheck, fun k => ?_⟩
  · rw [boundTo_eq, hrls, ← boundTo_eq, ← hs.bank]
    by_cases h : m = n ∧ x = id
    · obtain ⟨rfl, rfl⟩ := h
      rw [hsame, hcount]
    · rw [hkept m x h]
  · by_cases h : m = n ∧ x = id
    · obtain ⟨rfl, rfl⟩ := h
      rwa [hsame]
    · rw [hkept m x h]
      exact hs.idle m x
  · by_cases hm : m = n
    · subst hm
      rcases BankId.eq_or_eq_other id x with rfl | rfl
      · rw [hsame, hpartner]
        exact hone
      · rw [BankId.other_other, hsame, hpartner]
        exact fun h1 h2 => hone h2 h1
    · rw [hkept m x fun h => hm h.1, hkept m x.other fun h => hm h.1]
      exact hs.one m x
  · rw [htnc, hs.fabric, boundToFabric_eq, boundToFabric_eq, hrls]

/-- The inactive bank is not ACTIVE (R36). -/
theorem inactive_not_active {s : State} (hs : RefsHeld s) (n : Fin 8) :
    (bankOf s n (inactiveBank s.pfs.slots[n])).state ≠ .active := by
  cases hactive : activeBank s.pfs.slots[n] with
  | some j =>
    have hj : inactiveBank s.pfs.slots[n] = j.other := by rw [inactiveBank, hactive]
    rw [hj]
    exact hs.one n j (state_of_activeBank hactive)
  | none =>
    obtain ⟨ha, hb⟩ := (activeBank_eq_none_iff s n).mp hactive
    cases inactiveBank s.pfs.slots[n]
    · exact ha
    · exact hb

/-- TABLE finds the inactive bank neither CHECKING nor DRAINING (R39). -/
theorem not_draining_of_table {s : State} {slot piece : Byte} {body : TableBody}
    (hpass : refusal s (.table slot piece body) = none) :
    (bankOf s (slotOf slot) (inactiveBank s.pfs.slots[slotOf slot])).state ≠ .draining := by
  intro h
  have hobject := objectCheck_of_refusal hpass
  have hmatch : objectCheck s (.table slot piece body)
      = match (bankOf s (slotOf slot) (inactiveBank s.pfs.slots[slotOf slot])).state with
        | .checking | .draining => some (.bankBusy, 0)
        | .free | .staging | .active => none := rfl
  rw [hmatch, h] at hobject
  cases hobject

theorem staging_of_discard {s : State} {slot : Byte} (hpass : refusal s (.profileDiscard slot) = none) :
    (bankOf s (slotOf slot) (inactiveBank s.pfs.slots[slotOf slot])).state = .staging := by
  have hobject := objectCheck_of_refusal hpass
  have hcheck : objectCheck s (.profileDiscard slot)
      = if (bankOf s (slotOf slot) (inactiveBank s.pfs.slots[slotOf slot])).state = .staging then none
        else some (.notFound, 0) := rfl
  rw [hcheck] at hobject
  split at hobject
  · assumption
  · cases hobject

/-! ### The counts over every step -/

theorem lives_of_calenders {l l' : List Segment} (h : l'.map Segment.calender = l.map Segment.calender) :
    l'.map Segment.live = l.map Segment.live := by
  have hlive : Segment.live = (fun c => decide (c ≠ CalenderState.retired)) ∘ Segment.calender := rfl
  rw [hlive, ← List.map_map, h, List.map_map]

theorem refsHeld_congr {s t : State} (hrls : t.rls = s.rls) (hpfs : t.pfs = s.pfs)
    (htnc : t.tnc.fabrics = s.tnc.fabrics)
    (hs : RefsHeld s) : RefsHeld t :=
  refsHeld_evolves (.of_eq hrls) (by rw [hrls]) hpfs (fun _ => by rw [htnc]) hs

/-- Advances that leave the calender states as they are. -/
theorem refsHeld_advance {s t : State} (h : Evolves s.rls t.rls)
    (hcalender : t.rls.map Segment.calender = s.rls.map Segment.calender) (hpfs : t.pfs = s.pfs)
    (htnc : t.tnc.fabrics = s.tnc.fabrics) (hs : RefsHeld s) : RefsHeld t :=
  refsHeld_evolves h (lives_of_calenders hcalender) hpfs (fun _ => by rw [htnc]) hs

theorem refsHeld_encoderLevels (a b : Bool) (s : State) (hs : RefsHeld s) : RefsHeld (encoderLevels a b s) := by
  have hmou : ∀ (u : State) m, RefsHeld u → RefsHeld (u.setMou m) := fun u m =>
    refsHeld_congr (s := u) (t := u.setMou m) rfl rfl rfl
  unfold encoderLevels countEdge
  split
  · split
    · have hrisen : RefsHeld (risen (s.setMou { s.mou with encA := a, encB := b })) := by
        have hlevels := hmou s { s.mou with encA := a, encB := b } hs
        exact refsHeld_advance (evolves_risen _) (risen_frame _).2.2.2.1 (by simp [risen, raiseHigh])
          (by simp [risen, raiseHigh]) hlevels
      refine refsHeld_congr ?_ ?_ ?_ (refsHeld_calenderAdvance _ hrisen)
      all_goals
        rw [increaseOfP_eq]
        (repeat' split) <;> simp
    · exact hmou _ _ hs
  · split
    · exact hmou _ _ (hmou _ _ hs)
    · exact hmou _ _ hs
  · exact hmou _ _ hs

/-- CLEAR_LINE leaves no record and no count (R50, R83, R127). -/
theorem refsHeld_clearEffect (s : State) (hs : RefsHeld s) (hcheck : s.pfs.check = none) :
    RefsHeld (clearEffect s) := by
  have hbank : ∀ n id, bankOf (clearEffect s) n id = clearBank (bankOf s n id) := fun n id => by
    rw [← bankOf_clearPfs]
    unfold bankOf
    simp [clearEffect]
  have hcount : ∀ b : Bank, (clearBank b).count = 0 := fun b => by
    unfold clearBank
    split <;> rfl
  have hactive : ∀ n id, (bankOf (clearEffect s) n id).state = .active → (bankOf s n id).state = .active := by
    intro n id
    rw [hbank]
    unfold clearBank
    split
    · exact fun h => (by cases h)
    · exact fun h => h
  have hrls := clearEffect_rls s
  refine ⟨by simp [hrls], by simp [hrls], fun n id => ?_, fun n id => .inr (.inr (by rw [hbank, hcount])),
    fun n id h1 h2 => hs.one n id (hactive _ _ h1) (hactive _ _ h2), ?_, fun k => ?_⟩
  · rw [hbank, hcount]
    simp [boundTo, hrls]
  · have hnone : (clearEffect s).pfs.check = none := by simpa [clearEffect, clearPfs] using hcheck
    rw [hnone]
    exact fun x hx => (by cases hx)
  · have hsegs : (clearEffect s).tnc.fabrics[k].segs = 0 := by
      simp [clearEffect, clearTnc, State.modTnc, clearHtc, State.modHtc, clearAlc, State.modAlc, -Fin.getElem_fin]
    rw [hsegs]
    simp [boundToFabric, hrls]

theorem refsHeld_openEffect {s : State} {slot : Fin 8} {tag : Tag} {lines : Nat} (gap : Nat) (hs : RefsHeld s)
    (hobject : openObject s slot tag = none) : RefsHeld (openEffect slot tag lines gap s) := by
  unfold openEffect
  split
  · next bank h fabric f hheader _ =>
    exact refsHeld_addSegment hs (by simpa [newSegment] using tag_new_of_openObject hobject) rfl
      (state_of_activeBank (activeBank_of_activeHeader hheader).1)
  · exact hs

theorem refsHeld_abortEffect (t : Tag) (s : State) (hs : RefsHeld s) : RefsHeld (abortEffect t s) := by
  unfold abortEffect
  split
  · exact hs
  · next r hfind =>
    obtain ⟨-, hmem⟩ := findSeg_some hfind
    split
    · next hwaiting =>
      refine refsHeld_abortWaiting hs hmem ?_
      have hnot : r.calender ≠ .retired := fun h => by
        have := hs.printed r hmem h
        rw [hwaiting] at this
        cases this
      simpa [Segment.live] using hnot
    · exact refsHeld_advance (evolves_abortPrinting r s) (abortPrinting_calenders r s) (by simp) (by simp) hs
    · exact refsHeld_advance (evolves_abortFlags t s) (abortFlags_calenders t s) (by simp) (by simp) hs

theorem refsHeld_tableEffect (s : State) (slot piece : Byte) (body : TableBody) (hs : RefsHeld s)
    (hcheck : s.pfs.check = none) (hpass : refusal s (.table slot piece body) = none) :
    RefsHeld (tableEffect (slotOf slot) piece.toNat body s) := by
  have hactive := inactive_not_active hs (slotOf slot)
  have hdraining := not_draining_of_table hpass
  have hcount := ((hs.idle _ _).resolve_left hactive).resolve_left hdraining
  refine refsHeld_modBank hs rfl rfl rfl rfl (.inr (.inr hcount)) (fun h => (by cases h)) ?_
  simp [tableEffect, hcheck]

theorem refsHeld_discardEffect (s : State) (slot : Byte) (hs : RefsHeld s) (hcheck : s.pfs.check = none)
    (hpass : refusal s (.profileDiscard slot) = none) : RefsHeld (discardEffect (slotOf slot) s) := by
  have hactive := inactive_not_active hs (slotOf slot)
  have hdraining : (bankOf s (slotOf slot) (inactiveBank s.pfs.slots[slotOf slot])).state ≠ .draining := by
    rw [staging_of_discard hpass]
    decide
  have hcount := ((hs.idle _ _).resolve_left hactive).resolve_left hdraining
  refine refsHeld_modBank hs rfl rfl rfl hcount.symm (.inr (.inr rfl)) (fun h => (by cases h)) ?_
  simp [discardEffect, hcheck]

theorem refsHeld_commitEffect (s : State) (slot : Byte) (hs : RefsHeld s)
    (hpass : refusal s (.profileCommit slot) = none) : RefsHeld (commitEffect (slotOf slot) s) := by
  have hactive := inactive_not_active hs (slotOf slot)
  have hdraining : (bankOf s (slotOf slot) (inactiveBank s.pfs.slots[slotOf slot])).state ≠ .draining := by
    rw [(complete_of_commit hpass).1]
    decide
  have hcount := ((hs.idle _ _).resolve_left hactive).resolve_left hdraining
  refine refsHeld_modBank (f := fun b => { b with state := .checking }) hs rfl rfl rfl rfl (.inr (.inr hcount))
    (fun h => (by cases h)) fun x hx => ?_
  obtain rfl := Option.some.inj hx
  have hsame := bankOf_modBank_same s (slotOf slot) (inactiveBank s.pfs.slots[slotOf slot])
    fun b => { b with state := .checking }
  exact congrArg Bank.state hsame

/-! The end of a check -/

theorem refsHeld_checkOver {s : State} {n : Fin 8} {id : BankId} {f : Bank → Bank} (hs : RefsHeld s)
    (hcheck : s.pfs.check = some (n, id)) (hcount : (f (bankOf s n id)).count = (bankOf s n id).count)
    (hone : (f (bankOf s n id)).state = .active → (bankOf s n id.other).state ≠ .active) :
    RefsHeld ((s.setPfs { s.pfs with check := none }).modBank n id f) := by
  have hchecking := hs.check _ hcheck
  have hzero : (bankOf s n id).count = 0 := by
    rcases hs.idle n id with h | h | h
    · rw [hchecking] at h
      cases h
    · rw [hchecking] at h
      cases h
    · exact h
  exact refsHeld_modBank hs rfl rfl rfl hcount (.inr (.inr (hcount.trans hzero))) hone fun x hx => (by cases hx)

theorem refsHeld_revertBank (s : State) (n : Fin 8) (id : BankId) (hs : RefsHeld s)
    (hcheck : s.pfs.check = some (n, id)) : RefsHeld (revertBank n id (s.setPfs { s.pfs with check := none })) :=
  refsHeld_checkOver (f := fun b => { b with state := .staging }) hs hcheck rfl fun h => (by cases h)

theorem refsHeld_banks {s t : State} (hs : RefsHeld s) (hbank : ∀ n id, bankOf t n id = bankOf s n id)
    (hcheck : t.pfs.check = s.pfs.check) (hrls : t.rls = s.rls) (htnc : t.tnc = s.tnc) : RefsHeld t := by
  refine ⟨by rw [hrls]; exact hs.tags, by rw [hrls]; exact hs.printed, fun n id => ?_, fun n id => ?_, fun n id => ?_,
    ?_,
    fun k => ?_⟩
  · rw [hbank, hs.bank, boundTo_eq, boundTo_eq, hrls]
  · rw [hbank]
    exact hs.idle n id
  · rw [hbank, hbank]
    exact hs.one n id
  · simp only [hcheck, hbank]
    exact hs.check
  · rw [htnc, hs.fabric, boundToFabric_eq, boundToFabric_eq, hrls]

/-- The slot's other bank gives way while the checked bank is still CHECKING (R43 step 2). -/
theorem refsHeld_superseded {s : State} {n : Fin 8} {id : BankId} (hs : RefsHeld s)
    (hchecking : ∀ x ∈ s.pfs.check, x = (n, id)) :
    RefsHeld (s.modBank n id.other supersede) ∧ (supersede (bankOf s n id.other)).state ≠ .active := by
  have hnot : (supersede (bankOf s n id.other)).state ≠ .active := by
    unfold supersede
    split
    · split
      · exact fun h => (by cases h)
      · exact fun h => (by cases h)
    · assumption
  refine ⟨refsHeld_modBank hs rfl rfl rfl ?_ ?_ (fun h => absurd h hnot) fun x hx => ?_, hnot⟩
  · unfold supersede
    split
    · split
      · rfl
      · next h => exact (Nat.eq_zero_of_not_pos h).symm
    · rfl
  · unfold supersede
    split
    · split
      · exact .inr (.inl rfl)
      · exact .inr (.inr rfl)
    · exact hs.idle n id.other
  · have hx' : x ∈ s.pfs.check := hx
    obtain rfl := hchecking x hx'
    rw [bankOf_modBank_other _ _ _ _ _ _ fun h => BankId.other_ne id h.2.symm]
    exact hs.check _ hx'

theorem refsHeld_commitBank (s : State) (n : Fin 8) (id : BankId) (hs : RefsHeld s)
    (hcheck : s.pfs.check = some (n, id)) : RefsHeld (commitBank n id (s.setPfs { s.pfs with check := none })) := by
  obtain ⟨hother, hnot⟩ := refsHeld_superseded hs (n := n) (id := id) fun x hx => by
    rw [hcheck] at hx
    exact (Option.some.inj hx).symm
  have hzero : (bankOf s n id).count = 0 := by
    have hchecking := hs.check _ hcheck
    have hidle := hs.idle n id
    rw [hchecking] at hidle
    simpa using hidle
  have hkept : bankOf (s.modBank n id.other supersede) n id = bankOf s n id :=
    bankOf_modBank_other _ _ _ _ _ _ fun h => BankId.other_ne id h.2.symm
  have hgone : bankOf (s.modBank n id.other supersede) n id.other = supersede (bankOf s n id.other) :=
    bankOf_modBank_same _ _ _ _
  have hswapped := refsHeld_checkOver (n := n) (id := id)
    (f := fun b => { b with state := .active, count := 0 }) hother hcheck
    (by rw [hkept, hzero]) (fun _ => by rwa [hgone])
  refine refsHeld_banks hswapped (fun m x => ?_) rfl rfl rfl
  unfold commitBank
  by_cases h1 : m = n ∧ x = id
  · obtain ⟨rfl, rfl⟩ := h1
    rw [bankOf_modBank_other _ _ _ _ _ _ fun h => BankId.other_ne x h.2.symm, bankOf_modBank_same, bankOf_modBank_same]
    exact congrArg (fun b : Bank => { b with state := .active, count := 0 }) hkept.symm
  · refine Eq.trans ?_ (bankOf_modBank_other _ n m id x _ h1).symm
    by_cases h2 : m = n ∧ x = id.other
    · obtain ⟨rfl, rfl⟩ := h2
      rw [bankOf_modBank_same, bankOf_modBank_other _ _ _ _ _ _ h1]
      exact hgone.symm
    · rw [bankOf_modBank_other _ _ _ _ _ _ h2, bankOf_modBank_other _ _ _ _ _ _ h1]
      exact (bankOf_modBank_other s _ _ _ _ _ h2).symm

theorem refsHeld_fabricLoad (c : FabricFields) (s : State) (hs : RefsHeld s) : RefsHeld (fabricLoadEffect c s) := by
  refine refsHeld_evolves (s := s) (.refl _) rfl rfl (fun k => ?_) hs
  simp only [fabricLoadEffect, State.modTnc, State.setTnc_tnc]
  by_cases h : k = fabricSlotOf c.slot
  · rw [h, vmod_same]
  · rw [vmod_other _ _ _ _ h]

theorem refsHeld_perform (s : State) (r : Request) (hs : RefsHeld s) (hcheck : s.pfs.check = none)
    (hpass : refusal s r = none) : RefsHeld (perform r s).1 := by
  cases r
  case table slot piece body => exact refsHeld_tableEffect s slot piece body hs hcheck hpass
  case profileDiscard slot => exact refsHeld_discardEffect s slot hs hcheck hpass
  case profileCommit slot => exact refsHeld_commitEffect s slot hs hpass
  case clearLine => exact refsHeld_clearEffect s hs hcheck
  case segmentOpen slot seg lines gap => exact refsHeld_openEffect _ hs (openObject_of_refusal hpass)
  case segmentAbort seg => exact refsHeld_abortEffect seg s hs
  case fabricLoad c => exact refsHeld_fabricLoad c s hs
  case barConfig bars =>
    exact refsHeld_advance (evolves_barConfigEffect _ s) (barConfigEffect_calenders _ s) (by simp [perform])
      (by simp [perform]) hs
  case stop =>
    refine refsHeld_advance (evolves_stopDirective s) ?_ (by simp [perform]) (by simp [perform]) hs
    simp only [perform, stopDirective]
    (repeat' split) <;> simp
  all_goals exact refsHeld_congr (by simp [perform]) (by simp [perform]) (by simp [perform]) hs

theorem refsHeld_endCheck (s : State) (n : Fin 8) (id : BankId) (f : Frame) (hs : RefsHeld s)
    (hcheck : s.pfs.check = some (n, id)) : RefsHeld (endCheck n id f s) := by
  unfold endCheck
  simp only
  split
  · refine refsHeld_congr ?_ ?_ ?_ (refsHeld_commitBank s n id hs hcheck) <;> simp
  · refine refsHeld_congr ?_ ?_ ?_ (refsHeld_revertBank s n id hs hcheck) <;> simp

theorem refsHeld_taken (s t : State) (hs : RefsHeld s) (h : Taken s t) : RefsHeld t := by
  apply path_keeps (P := RefsHeld) (s := s) (t := t) (hs := hs) (h := h)
  case hsame => exact fun s t h => refsHeld_congr h.rls h.pfs (congrArg Tnc.fabrics h.tnc)
  case hsettle => exact fun s => refsHeld_advance (evolves_settle s) (settle_calenders s) (by simp) (by simp)
  case hsent => exact refsHeld_frameSent
  case hencoder => exact fun s a b => refsHeld_encoderLevels a b s
  case hsample =>
    refine fun s => refsHeld_advance (evolves_sampleLine s) ?_ (by simp) (by simp)
    simp [sampleLine]
  case hheat =>
    refine fun s e => refsHeld_advance (evolves_heatSampleEvent e s) ?_ (by simp) (by simp)
    simp [heatSampleEvent]
  case hcommit =>
    exact fun s seg l o c => refsHeld_advance (evolves_commitLine seg l o c s) (commitLine_calenders seg l o c s)
      (by simp) (by simp)
  case hreset =>
    intro s _
    refine refsHeld_congr (s := State.reset) ?_ ?_ ?_ ((refCounts_iff _).mp (by decide)) <;> simp [resetBlocks]
  case hperform => exact refsHeld_perform
  case hcheck => exact refsHeld_endCheck
  all_goals
    intros
    refine refsHeld_congr ?_ ?_ ?_ ‹RefsHeld _› <;> simp

/-- Settles O10: a live record takes up its references as it opens and gives them back as it leaves the live set, and
no other operation touches a count that stands for a record (R47, R69, R118). -/
theorem refCountsKept : Obligations.RefCountsKept := by
  intro s t hs h
  rw [refCounts_iff] at hs ⊢
  exact step_keeps (P := RefsHeld) (fun _ _ => refsHeld_congr rfl rfl rfl) refsHeld_taken hs h

end Sys2Proof.Machine
end

section
/-! SUPPORT and the settling of O14. The tension source, the tension fabric and the taper move together, in
`setTension`, `sourceBecomes` and `tensionReleased` alone (R73 to R75). -/

namespace Sys2Proof.Machine

/-! ### The source among the records -/

/-- The source is a live record whose fabric is the tension fabric, or INTAKE. -/
def SourceFollows (s : State) : Prop :=
  match s.tnc.source with
  | none => s.tnc.tension = s.tnc.intake
  | some t => ∃ r ∈ s.rls, r.tag = t ∧ r.live = true ∧ s.tnc.tension = some r.fabric

/-- A running taper leads to the tension fabric, short of its end. -/
def TaperLeads (s : State) : Prop :=
  ∀ x ∈ s.tnc.taper, s.tnc.tension = some x.newFabric ∧ x.t0 ≤ x.q ∧ x.q < x.t0 + x.length

/-- Without an intake fabric there is neither a tension fabric nor a record. -/
def IntakeFirst (s : State) : Prop :=
  s.tnc.intake = none → s.tnc.tension = none ∧ s.rls = []

/-- `TensionFollows` but for the source. -/
structure Taut (s : State) : Prop where
  tags : (s.rls.map Segment.tag).Nodup
  intake : IntakeFirst s
  taper : TaperLeads s

theorem tensionFollows_iff (s : State) : TensionFollows s ↔ Taut s ∧ SourceFollows s :=
  ⟨fun ⟨htags, hsource, hintake, htaper⟩ => ⟨⟨htags, hintake, htaper⟩, hsource⟩,
    fun ⟨⟨htags, hintake, htaper⟩, hsource⟩ => ⟨htags, hsource, hintake, htaper⟩⟩

theorem sourceFollows_intake {s : State} (hsource : s.tnc.source = none) (htension : s.tnc.tension = s.tnc.intake) :
    SourceFollows s := by
  unfold SourceFollows
  rw [hsource]
  exact htension

theorem sourceFollows_record {s : State} {r : Segment} (hsource : s.tnc.source = some r.tag) (hmem : r ∈ s.rls)
    (hlive : r.live = true) (htension : s.tnc.tension = some r.fabric) : SourceFollows s := by
  unfold SourceFollows
  rw [hsource]
  exact ⟨r, hmem, rfl, hlive, htension⟩

theorem sourceFollows_cases {s : State} (h : SourceFollows s) :
    s.tnc.source = none ∧ s.tnc.tension = s.tnc.intake
      ∨ ∃ r ∈ s.rls, s.tnc.source = some r.tag ∧ r.live = true ∧ s.tnc.tension = some r.fabric := by
  unfold SourceFollows at h
  split at h
  · next hsource => exact .inl ⟨hsource, h⟩
  · next t hsource =>
    obtain ⟨r, hmem, rfl, hlive, htension⟩ := h
    exact .inr ⟨r, hmem, hsource, hlive, htension⟩

/-- Two states agree on intake, source, tension fabric and taper. -/
structure SameTension (s t : State) : Prop where
  intake : t.tnc.intake = s.tnc.intake
  source : t.tnc.source = s.tnc.source
  tension : t.tnc.tension = s.tnc.tension
  taper : t.tnc.taper = s.tnc.taper

theorem SameTension.of_eq {s t : State} (h : t.tnc = s.tnc) : SameTension s t :=
  ⟨by rw [h], by rw [h], by rw [h], by rw [h]⟩

theorem taut_of_same {s t : State} (h : SameTension s t) (htags : (t.rls.map Segment.tag).Nodup)
    (hempty : s.rls = [] → t.rls = []) (hs : Taut s) : Taut t := by
  refine ⟨htags, fun hnone => ?_, fun x hx => ?_⟩
  · rw [h.intake] at hnone
    obtain ⟨htension, hrls⟩ := hs.intake hnone
    exact ⟨by rw [h.tension, htension], hempty hrls⟩
  · rw [h.tension]
    rw [h.taper] at hx
    exact hs.taper x hx

/-- Where the live record of the source stays, so does what follows from it. -/
theorem sourceFollows_of_same {s t : State} (h : SameTension s t)
    (hstay : ∀ r ∈ s.rls, r.live = true → s.tnc.source = some r.tag →
      ∃ r' ∈ t.rls, r'.tag = r.tag ∧ r'.live = true ∧ r'.fabric = r.fabric) (hs : SourceFollows s) :
    SourceFollows t := by
  rcases sourceFollows_cases hs with ⟨hsource, htension⟩ | ⟨r, hmem, hsource, hlive, htension⟩
  · exact sourceFollows_intake (by rw [h.source, hsource]) (by rw [h.tension, htension, h.intake])
  · obtain ⟨r', hmem', htag, hlive', hfabric⟩ := hstay r hmem hlive hsource
    exact sourceFollows_record (by rw [h.source, hsource, htag]) hmem' hlive' (by rw [h.tension, htension, hfabric])

theorem Evolves.mem_left_key {κ : Type} {l l' : List Segment} (h : Evolves l l') {k : Segment → κ}
    (hk : l'.map k = l.map k) {r : Segment} (hr : r ∈ l) : ∃ r' ∈ l', Stays r r' ∧ k r' = k r := by
  induction h with
  | nil => cases hr
  | cons hx _ ih =>
    obtain ⟨hhead, htail⟩ := List.cons.inj hk
    rcases List.mem_cons.mp hr with rfl | hr
    · exact ⟨_, List.mem_cons_self, hx, hhead⟩
    · obtain ⟨r', hmem, hstays⟩ := ih htail hr
      exact ⟨r', List.mem_cons_of_mem _ hmem, hstays⟩

/-- Advances that leave the live set as it is leave the source's record live. -/
theorem follows_evolves {s t : State} (h : SameTension s t) (hlist : Evolves s.rls t.rls)
    (hlive : t.rls.map Segment.live = s.rls.map Segment.live) (hs : TensionFollows s) : TensionFollows t := by
  obtain ⟨htaut, hsource⟩ := (tensionFollows_iff s).mp hs
  refine (tensionFollows_iff t).mpr ⟨taut_of_same h (by rw [hlist.tags]; exact htaut.tags) (fun hnil => ?_) htaut,
    sourceFollows_of_same h (fun r hr hr' _ => ?_) hsource⟩
  · exact List.length_eq_zero_iff.mp (by rw [hlist.length, hnil, List.length_nil])
  · obtain ⟨r', hmem, hstays, hkey⟩ := hlist.mem_left_key hlive hr
    obtain ⟨-, -, -, -, -, -, -, -, -, -, -, -, -, hfabric, -⟩ := hstays.bound
    exact ⟨r', hmem, hstays.bound.1, hkey.trans hr', hfabric⟩

theorem follows_congr {s t : State} (h : SameTension s t) (hrls : t.rls = s.rls) (hs : TensionFollows s) :
    TensionFollows t :=
  follows_evolves h (.of_eq hrls) (by rw [hrls]) hs

theorem follows_advance {s t : State} (htnc : t.tnc = s.tnc) (hlist : Evolves s.rls t.rls)
    (hcalender : t.rls.map Segment.calender = s.rls.map Segment.calender) (hs : TensionFollows s) :
    TensionFollows t :=
  follows_evolves (.of_eq htnc) hlist (lives_of_calenders hcalender) hs

/-! ### The change of the tension fabric -/

theorem mem_unlessEnded {x y : Taper} (h : y ∈ unlessEnded x) : y = x ∧ x.q ≠ x.t0 + x.length := by
  unfold unlessEnded at h
  split at h
  · cases h
  · next hne => exact ⟨(Option.some.inj h).symm, hne⟩

theorem le_clampInt {x low high : Int} (h : low ≤ high) : low ≤ clampInt x low high ∧ clampInt x low high ≤ high := by
  exact ⟨le_max_left _ _, max_le h (min_le_right _ _)⟩

theorem setTension_tension (new : Option (Fin 16)) (t0 : Int) (s : State) :
    (setTension new t0 s).tnc.tension = new := by
  unfold setTension
  simp only [State.modTnc, State.setTnc_tnc]
  split
  · next o n htension =>
    split
    · next h => rw [htension, h]
    · rfl
  · rfl

theorem setTension_source (new : Option (Fin 16)) (t0 : Int) (s : State) :
    (setTension new t0 s).tnc.source = s.tnc.source := by
  unfold setTension
  simp only [State.modTnc, State.setTnc_tnc]
  split
  · split <;> rfl
  · rfl

/-- A change to a slot keeps a taper short of its end; a change to none finds none running (R74). -/
theorem taperLeads_setTension {new : Option (Fin 16)} (t0 : Int) {s : State} (hs : TaperLeads s)
    (hnew : new = none → s.tnc.tension = none) : TaperLeads (setTension new t0 s) := by
  have hidle : s.tnc.tension = none → ∀ x ∈ s.tnc.taper, False := fun hnone x hx => by
    rw [(hs x hx).1] at hnone
    cases hnone
  unfold setTension TaperLeads
  simp only [State.modTnc, State.setTnc_tnc]
  cases new with
  | none =>
    simp only [hnew rfl]
    exact fun x hx => (hidle (hnew rfl) x hx).elim
  | some n =>
    cases htension : s.tnc.tension with
    | none => exact fun x hx => (hidle htension x hx).elim
    | some o =>
      simp only
      split
      · rw [htension]
        simpa only [TaperLeads, htension] using hs
      · intro x hx
        obtain ⟨rfl, hne⟩ := mem_unlessEnded hx
        have hclamp := le_clampInt (x := s.mou.p) (low := t0) (high := t0 + (s.tnc.group.taperLen : Int)) (by omega)
        exact ⟨rfl, hclamp.1, lt_of_le_of_ne hclamp.2 hne⟩

theorem taut_setTension {new : Option (Fin 16)} (t0 : Int) {s : State} (hs : Taut s)
    (hnew : new = none → s.tnc.tension = none) (hintake : s.tnc.intake = none → new = none) :
    Taut (setTension new t0 s) := by
  refine ⟨by simpa using hs.tags, fun h => ⟨?_, ?_⟩, taperLeads_setTension t0 hs.taper hnew⟩
  · rw [setTension_tension]
    exact hintake (by simpa using h)
  · simpa using (hs.intake (by simpa using h)).2

/-- A live record of the list becomes the source (R73). -/
theorem follows_sourceBecomes {s : State} {r : Segment} (t0 : Int) (hs : Taut s) (hmem : r ∈ s.rls)
    (hlive : r.live = true) : TensionFollows (sourceBecomes r t0 s) := by
  have hintake : s.tnc.intake ≠ none := fun h => by
    rw [(hs.intake h).2] at hmem
    cases hmem
  have hnamed : Taut (s.modTnc fun t => { t with source := some r.tag }) := ⟨hs.tags, hs.intake, hs.taper⟩
  refine (tensionFollows_iff _).mpr ⟨taut_setTension t0 hnamed (fun h => (by cases h)) fun h => absurd h hintake, ?_⟩
  refine sourceFollows_record (r := r) ?_ (by simpa using hmem) hlive (setTension_tension _ _ _)
  exact setTension_source _ _ _

theorem newestLive_some {test : Segment → Bool} {l : List Segment} {r : Segment} (h : newestLive test l = some r) :
    r ∈ l ∧ r.live = true := by
  have hmem := List.mem_of_find?_eq_some h
  have htest := List.find?_some h
  rw [Bool.and_eq_true] at htest
  exact ⟨List.mem_reverse.mp hmem, htest.1⟩

theorem segsAfter_sublist (t : Tag) (l : List Segment) : (segsAfter t l).Sublist l := by
  induction l with
  | nil => exact List.Sublist.refl _
  | cons x l ih =>
    unfold segsAfter
    split
    · exact List.sublist_cons_self x l
    · exact ih.trans (List.sublist_cons_self x l)

theorem follows_tensionQualify {s : State} (hs : TensionFollows s) : TensionFollows (tensionQualify s) := by
  obtain ⟨htaut, -⟩ := (tensionFollows_iff s).mp hs
  unfold tensionQualify
  simp only
  split
  · next r hnewest =>
    obtain ⟨hmem, hlive⟩ := newestLive_some hnewest
    refine follows_sourceBecomes _ htaut ?_ hlive
    split at hmem
    · exact (segsAfter_sublist _ _).subset hmem
    · exact hmem
  · exact hs

/-- The release of a record: the source is another one, or it is chosen anew (R73). -/
theorem follows_tensionReleased {s : State} {t : Tag} (hs : Taut s)
    (hother : s.tnc.source ≠ some t → SourceFollows s) : TensionFollows (tensionReleased t s) := by
  unfold tensionReleased
  split
  · split
    · next r hnewest =>
      obtain ⟨hmem, hlive⟩ := newestLive_some hnewest
      exact follows_sourceBecomes _ hs hmem hlive
    · have hnamed : Taut (s.modTnc fun x => { x with source := none }) := ⟨hs.tags, hs.intake, hs.taper⟩
      refine (tensionFollows_iff _).mpr
        ⟨taut_setTension _ hnamed (fun h => (hs.intake h).1) fun h => h, sourceFollows_intake ?_ ?_⟩
      · exact setTension_source _ _ _
      · rw [setTension_tension]
        simp
  · next h => exact (tensionFollows_iff s).mpr ⟨hs, hother h⟩

theorem follows_advanceTaper {s : State} (hs : TensionFollows s) : TensionFollows (advanceTaper s) := by
  obtain ⟨htaut, hsource⟩ := (tensionFollows_iff s).mp hs
  have hintake : IntakeFirst (advanceTaper s) := fun h => by
    simpa using htaut.intake (by simpa using h)
  refine (tensionFollows_iff _).mpr
    ⟨⟨by simpa using htaut.tags, hintake, ?_⟩, by simpa [SourceFollows] using hsource⟩
  unfold advanceTaper TaperLeads
  simp only [State.modTnc, State.setTnc_tnc]
  split
  · next hnone =>
    rw [hnone]
    exact fun x hx => (by cases hx)
  · next x htaper =>
    intro y hy
    obtain ⟨rfl, hne⟩ := mem_unlessEnded hy
    obtain ⟨htension, hlow, hhigh⟩ := htaut.taper x htaper
    have hclamp := le_clampInt (x := s.mou.p) (low := x.t0) (high := x.t0 + (x.length : Int)) (by omega)
    simp only at hne ⊢
    refine ⟨htension, by omega, by omega⟩

/-! ### The list -/

theorem sameTension_releaseRefs (r : Segment) (s : State) : SameTension s (releaseRefs r s) := by
  constructor <;> simp [releaseRefs, modSegs, releaseBank, State.modBank]

theorem releaseRefs_rls (r : Segment) (s : State) : (releaseRefs r s).rls = s.rls := by simp

theorem follows_retireAt (t : Tag) (s : State) (hs : TensionFollows s) : TensionFollows (retireAt t s) := by
  unfold retireAt
  split
  · next r hfind =>
    split
    · obtain ⟨htag, hmem⟩ := findSeg_some hfind
      obtain ⟨htaut, hsource⟩ := (tensionFollows_iff s).mp hs
      have hrefs := sameTension_releaseRefs r (s.modSegment t retiredRecord)
      have hsame : SameTension s (releaseRefs r (s.modSegment t retiredRecord)) :=
        ⟨hrefs.intake, hrefs.source, hrefs.tension, hrefs.taper⟩
      have hrls : (releaseRefs r (s.modSegment t retiredRecord)).rls = modSeg t retiredRecord s.rls := by
        simp [State.modSegment]
      have hlist : Evolves s.rls (modSeg t retiredRecord s.rls) := evolves_modSeg _ _ stays_retired
      refine follows_tensionReleased (taut_of_same hsame ?_ (fun hnil => ?_) htaut) fun hother => ?_
      · rw [hrls, hlist.tags]
        exact htaut.tags
      · rw [hrls, hnil]
        rfl
      · rw [hsame.source] at hother
        refine sourceFollows_of_same hsame (fun x hx hlive hxsource => ⟨x, ?_, rfl, hlive, rfl⟩) hsource
        rw [hrls]
        have hne : x.tag ≠ t := fun h => hother (h ▸ hxsource)
        exact List.mem_map.mpr ⟨x, hx, if_neg hne⟩
    · exact hs
  · exact hs

theorem enterArc_lives (t : Tag) (s : State) : (enterArc t s).rls.map Segment.live = s.rls.map Segment.live := by
  simp only [enterArc, State.modSegment, State.setRls_rls, modSeg, List.map_map]
  refine List.map_congr_left fun x _ => ?_
  simp only [Function.comp]
  split
  · split
    · next h => simp [Segment.live, h.1]
    · rfl
  · rfl

theorem follows_calenderAdvance (s : State) (hs : TensionFollows s) : TensionFollows (calenderAdvance s) :=
  foldl_keeps (fun acc t => retireAt t (enterArc t acc)) (fun u t hu => follows_retireAt t _
    (follows_evolves (.of_eq (by simp)) (evolves_enterArc t u) (enterArc_lives t u) hu)) _ s hs

theorem follows_risen {s : State} (hs : TensionFollows s) : TensionFollows (risen s) := by
  have hrisen : TensionFollows (raiseHigh (s.setMou { s.mou with p := s.mou.p + 1 })) :=
    follows_congr (.of_eq (by simp [raiseHigh])) (by simp [raiseHigh]) hs
  unfold risen
  generalize raiseHigh (s.setMou { s.mou with p := s.mou.p + 1 }) = u at hrisen ⊢
  exact follows_tensionQualify (follows_advanceTaper
    (follows_advance (by simp) (evolves_barsAdvance u) (barsAdvance_calenders u) hrisen))

theorem follows_encoderLevels (a b : Bool) (s : State) (hs : TensionFollows s) :
    TensionFollows (encoderLevels a b s) := by
  have hmou : ∀ (u : State) m, TensionFollows u → TensionFollows (u.setMou m) := fun _ _ hu => hu
  unfold encoderLevels countEdge
  split
  · split
    · refine follows_congr (.of_eq ?_) ?_
        (follows_calenderAdvance _ (follows_risen (hmou s { s.mou with encA := a, encB := b } hs)))
      all_goals
        rw [increaseOfP_eq]
        (repeat' split) <;> simp
    · exact hmou _ _ hs
  · split
    · exact hmou _ _ (hmou _ _ hs)
    · exact hmou _ _ hs
  · exact hmou _ _ hs

/-- A record that leaves the list. -/
theorem taut_filtered {s t : State} {p : Segment → Bool} (h : SameTension s t) (hrls : t.rls = s.rls.filter p)
    (hs : Taut s) : Taut t :=
  taut_of_same h (by rw [hrls]; exact hs.tags.sublist (List.filter_sublist.map _)) (fun hnil => by rw [hrls, hnil]; rfl)
    hs

/-- A retired record is no tension source (R73, R125). -/
theorem follows_removeSegment {s : State} {r : Segment} (hs : TensionFollows s) (hmem : r ∈ s.rls)
    (hlive : r.live = false) : TensionFollows (removeSegment r.tag s) := by
  obtain ⟨htaut, hsource⟩ := (tensionFollows_iff s).mp hs
  have hsame : SameTension s (removeSegment r.tag s) := .of_eq (by simp)
  have hrls := removeSegment_rls r.tag s
  refine (tensionFollows_iff _).mpr ⟨taut_filtered hsame hrls htaut, sourceFollows_of_same hsame (fun x hx hxlive _ =>
    ?_)
    hsource⟩
  refine ⟨x, ?_, rfl, hxlive, rfl⟩
  rw [hrls]
  refine List.mem_filter.mpr ⟨hx, ?_⟩
  have hne : x.tag ≠ r.tag := fun h => by
    rw [List.inj_on_of_nodup_map htaut.tags hx hmem h, hlive] at hxlive
    cases hxlive
  simpa using hne

theorem follows_frameSent (s : State) (hs : TensionFollows s) : TensionFollows (frameSent s) := by
  have hltx : ∀ l, TensionFollows (s.setLtx l) := fun _ => hs
  unfold frameSent
  split
  · unfold traceDone
    split
    · next r hfind =>
      split
      · next h =>
        obtain ⟨htag, hmem⟩ := findSeg_some hfind
        rw [← htag]
        exact follows_removeSegment (hltx _) hmem (by simp [Segment.live, h.1])
      · exact hltx _
    · exact hltx _
  · exact hltx _
  · exact hs
  · exact hs

theorem follows_abortWaiting {s : State} (r : Segment) (hs : TensionFollows s) : TensionFollows (abortWaiting r s) := by
  obtain ⟨htaut, hsource⟩ := (tensionFollows_iff s).mp hs
  have houter : ∀ u : State, TensionFollows u → TensionFollows (formHeat (formSpeed (freeEntries u))) := fun u hu =>
    follows_congr (.of_eq (by simp)) (by simp) hu
  unfold abortWaiting
  simp only
  refine houter _ ?_
  generalize hu : (if decide (s.cpa.map FillCursor.tag = some r.tag) = true then _ else _ : State) = u
  have hrls : u.rls = s.rls.filter fun x => !decide (x.tag = r.tag) := by
    rw [← hu]
    split <;> simp [removeSegment_rls]
  have hsame : SameTension s u := by
    rw [← hu]
    split <;> constructor <;> simp [releaseRefs, modSegs, releaseBank, State.modBank]
  refine follows_tensionReleased (taut_filtered hsame hrls htaut) fun hother => ?_
  rw [hsame.source] at hother
  refine sourceFollows_of_same hsame (fun x hx hlive hxsource => ⟨x, ?_, rfl, hlive, rfl⟩) hsource
  rw [hrls]
  refine List.mem_filter.mpr ⟨hx, ?_⟩
  have hne : x.tag ≠ r.tag := fun h => hother (h ▸ hxsource)
  simpa using hne

theorem follows_abortEffect (t : Tag) (s : State) (hs : TensionFollows s) : TensionFollows (abortEffect t s) := by
  unfold abortEffect
  split
  · exact hs
  · next r _ =>
    split
    · exact follows_abortWaiting r hs
    · exact follows_advance (by simp) (evolves_abortPrinting r s) (abortPrinting_calenders r s) hs
    · exact follows_advance (by simp) (evolves_abortFlags t s) (abortFlags_calenders t s) hs

theorem intake_of_intakeFabric {s : State} {k : Fin 16} {f : Fabric} (h : intakeFabric s = some (k, f)) :
    s.tnc.intake = some k := by
  unfold intakeFabric at h
  split at h
  · next j hintake =>
    split at h
    · obtain ⟨rfl, -⟩ := Prod.mk.inj (Option.some.inj h)
      exact hintake
    · cases h
  · cases h

theorem follows_openEffect {s : State} {slot : Fin 8} {tag : Tag} {lines : Nat} (gap : Nat) (hs : TensionFollows s)
    (hobject : openObject s slot tag = none) : TensionFollows (openEffect slot tag lines gap s) := by
  unfold openEffect
  split
  · next bank h fabric f _ hintake =>
    obtain ⟨htaut, hsource⟩ := (tensionFollows_iff s).mp hs
    have hsome := intake_of_intakeFabric hintake
    generalize hr : newSegment s slot tag lines gap bank h fabric f = r
    have htag : r.tag = tag := by
      rw [← hr]
      rfl
    have houter : ∀ u : State, TensionFollows u → TensionFollows (formHeat (formSpeed (tensionQualify
        (cursorsOpen r.tag u)))) := fun u hu =>
      follows_congr (s := tensionQualify (cursorsOpen r.tag u)) (.of_eq (by simp)) (by simp)
        (follows_tensionQualify (follows_congr (.of_eq (by simp)) (by simp) hu))
    have hopened : ∀ u : State, u.rls = s.rls ++ [r] → SameTension s u → TensionFollows u := fun u hrls hsame => by
      refine (tensionFollows_iff _).mpr ⟨⟨?_, fun hnone => ?_, fun x hx => ?_⟩, sourceFollows_of_same hsame
        (fun x hx hlive _ => ⟨x, by rw [hrls]; exact List.mem_append_left _ hx, rfl, hlive, rfl⟩) hsource⟩
      · rw [hrls, List.map_append, List.nodup_append]
        exact ⟨htaut.tags, by simp, by simpa [htag] using tag_new_of_openObject hobject⟩
      · rw [hsame.intake, hsome] at hnone
        cases hnone
      · rw [hsame.tension]
        rw [hsame.taper] at hx
        exact htaut.taper x hx
    unfold addSegment
    simp only
    refine houter _ ?_
    split
    · refine hopened _ (by simp [modSegs, bindBank, State.modBank]) ?_
      constructor <;> simp [modSegs, bindBank, State.modBank]
    · refine hopened _ (by simp [modSegs, bindBank, State.modBank]) ?_
      constructor <;> simp [modSegs, bindBank, State.modBank]
  · exact hs

/-- CLEAR_LINE leaves INTAKE as the source and no taper (R83). -/
theorem follows_clearEffect (s : State) : TensionFollows (clearEffect s) := by
  have hrls := clearEffect_rls s
  have htnc : (clearEffect s).tnc.source = none ∧ (clearEffect s).tnc.tension = (clearEffect s).tnc.intake
      ∧ (clearEffect s).tnc.taper = none := by
    simp [clearEffect, clearTnc, State.modTnc]
  obtain ⟨hsource, htension, htaper⟩ := htnc
  refine (tensionFollows_iff _).mpr
    ⟨⟨by simp [hrls], fun h => ⟨by rw [htension, h], hrls⟩, fun x hx => ?_⟩, sourceFollows_intake hsource htension⟩
  rw [htaper] at hx
  cases hx

/-- SPLICE while the source is INTAKE moves the tension fabric too (R73). -/
theorem follows_spliceEffect (slot : Fin 16) (s : State) (hs : TensionFollows s) : TensionFollows
    (spliceEffect slot s) := by
  obtain ⟨htaut, hsource⟩ := (tensionFollows_iff s).mp hs
  have hspliced : Taut (s.modTnc fun t => { t with intake := some slot }) :=
    ⟨htaut.tags, fun h => (by cases h), htaut.taper⟩
  unfold spliceEffect
  simp only
  split
  · next hnone =>
    refine (tensionFollows_iff _).mpr ⟨taut_setTension _ hspliced (fun h => (by cases h)) fun h => (by cases h),
      sourceFollows_intake ?_ ?_⟩
    · rw [setTension_source]
      exact hnone
    · rw [setTension_tension]
      simp
  · next hsome =>
    rcases sourceFollows_cases hsource with ⟨hnone, -⟩ | ⟨r, hmem, hrecord, hlive, htension⟩
    · exact absurd hnone hsome
    · exact (tensionFollows_iff _).mpr ⟨hspliced, sourceFollows_record (r := r) hrecord hmem hlive htension⟩

/-! ### The tension fabric over every step -/

theorem follows_perform (s : State) (r : Request) (hs : TensionFollows s) (hpass : refusal s r = none) :
    TensionFollows (perform r s).1 := by
  cases r
  case clearLine => exact follows_clearEffect s
  case segmentOpen slot seg lines gap => exact follows_openEffect _ hs (openObject_of_refusal hpass)
  case segmentAbort seg => exact follows_abortEffect seg s hs
  case splice slot => exact follows_spliceEffect _ s hs
  case barConfig bars =>
    exact follows_advance (by simp [perform]) (evolves_barConfigEffect _ s) (barConfigEffect_calenders _ s) hs
  case stop =>
    refine follows_advance (by simp [perform]) (evolves_stopDirective s) ?_ hs
    simp only [perform, stopDirective]
    (repeat' split) <;> simp
  all_goals
    refine follows_congr ?_ (by simp [perform]) hs
    constructor <;> simp [perform, tensionConfigEffect, fabricLoadEffect, State.modTnc]

theorem follows_taken (s t : State) (hs : TensionFollows s) (h : Taken s t) : TensionFollows t := by
  apply path_keeps (P := TensionFollows) (s := s) (t := t) (hs := hs) (h := h)
  case hsame => exact fun s t h => follows_congr (.of_eq h.tnc) h.rls
  case hsettle => exact fun s => follows_advance (by simp) (evolves_settle s) (settle_calenders s)
  case hsent => exact follows_frameSent
  case hencoder => exact fun s a b => follows_encoderLevels a b s
  case hsample => exact fun s => follows_advance (by simp) (evolves_sampleLine s) (by simp [sampleLine])
  case hheat => exact fun s e => follows_advance (by simp) (evolves_heatSampleEvent e s) (by simp [heatSampleEvent])
  case hcommit =>
    exact fun s seg l o c => follows_advance (by simp) (evolves_commitLine seg l o c s)
      (commitLine_calenders seg l o c s)
  case hreset =>
    intro s _
    refine follows_congr (s := State.reset) (.of_eq ?_) ?_ ⟨by decide, rfl, fun _ => ⟨rfl, rfl⟩, fun x hx =>
      (by cases hx)⟩
      <;> simp [resetBlocks]
  case hperform => exact fun s r hs _ hpass => follows_perform s r hs hpass
  case hreading =>
    refine fun s z n => follows_congr ?_ (by simp)
    constructor <;> simp
  case hmissing =>
    refine fun s z => follows_congr ?_ (by simp)
    constructor <;> simp
  all_goals
    intros
    refine follows_congr (.of_eq ?_) ?_ ‹TensionFollows _› <;> simp

/-- Settles O14: the source, the tension fabric and the taper change together, and a source that leaves the live set
is chosen anew (R73 to R75). -/
theorem tensionFollowsKept : Obligations.TensionFollowsKept :=
  fun _ _ hs h => step_keeps (P := TensionFollows) (fun _ _ hs => hs) follows_taken hs h

end Sys2Proof.Machine
end

section
/-! SUPPORT and the settling of O5. Capacities (R17, R85, R129, R152), the answer slots (R16), and the control buffers
(R5, R6). -/

namespace Sys2Proof.Machine

/-! ### Notices -/

/-- At most eight notices wait (R17). -/
def NoticesFit (s : State) : Prop :=
  s.ltx.notices.length ≤ Config.noticePlaces

theorem noticesFit_queueNotice (n : Notice) (s : State) (h : NoticesFit s) : NoticesFit (queueNotice n s) := by
  unfold queueNotice
  split
  · next hroom => simpa [NoticesFit] using hroom
  · exact h

theorem noticesFit_evaluateRounds (n : Nat) (s : State) (h : NoticesFit s) : NoticesFit (evaluateRounds n s) := by
  induction n generalizing s with
  | zero => exact h
  | succ n ih =>
    unfold evaluateRounds
    split
    · exact h
    · exact ih _ (noticesFit_queueNotice _ _ h)

theorem noticesFit_settle (s : State) (h : NoticesFit s) : NoticesFit (settle s) := by
  have hlog : NoticesFit (logAndEvaluate s) := by
    unfold logAndEvaluate
    simp only
    split
    · exact noticesFit_evaluateRounds _ _ h
    · exact h
  have hhand : NoticesFit (handReaction (logAndEvaluate s)) := by
    simpa only [NoticesFit, handReaction_ltx] using hlog
  unfold settle ltxChoose
  split
  · exact hhand
  · exact hhand
  · split
    · exact hhand
    · split
      · exact hhand
      · exact hhand
      · split
        · next n rest hnotices =>
          have hle : (n :: rest).length ≤ Config.noticePlaces := hnotices ▸ hhand
          exact (Nat.le_succ _).trans hle
        · split
          · exact hhand
          · exact hhand

/-! ### The line store -/

theorem length_freeEntries (s : State) : (freeEntries s).lst.length ≤ s.lst.length :=
  (List.dropWhile_sublist _).length_le

theorem length_releaseFilling (t : Tag) (n : Nat) (l : List Entry) : (releaseFilling t n l).length ≤ l.length :=
  List.length_filter_le _ _

@[simp] theorem length_modFilling (t : Tag) (n : Nat) (f : Entry → Entry) (l : List Entry) :
    (modFilling t n f l).length = l.length := by
  simp [modFilling]

@[simp] theorem length_voidEntries (t : Tag) (l : List Entry) : (voidEntries t l).length = l.length := by
  simp [voidEntries]

theorem length_discardLine (s : State) : (discardLine s).lst.length ≤ s.lst.length := by
  unfold discardLine
  split
  · split
    · exact length_releaseFilling _ _ _
    · simp
  · exact le_rfl

theorem length_framingError (x : RxState) (n : Nat) (s : State) :
    (framingError x n s).lst.length ≤ s.lst.length := by
  simpa [framingError] using length_discardLine s

theorem length_commitLine (seg : Tag) (line offset count : Nat) (s : State) :
    (commitLine seg line offset count s).lst.length = s.lst.length := by
  unfold commitLine
  split
  · rfl
  · simp only
    split <;> simp

theorem length_completeLine (s : State) : (completeLine s).lst.length = s.lst.length := by
  unfold completeLine
  simp only
  split
  · split <;> simp [length_commitLine]
  all_goals simp

theorem length_handleLine (k : Bar) (r : Segment) (n : Nat) (s : State) :
    (handleLine k r n s).lst.length ≤ s.lst.length := by
  unfold handleLine
  simp only
  split
  · simpa [declareLost, State.modBar, reportHandling] using length_releaseFilling r.tag n s.lst
  · simp [State.modBar, reportHandling]

theorem length_handleDue (k : Bar) (fuel : Nat) (s : State) : (handleDue k fuel s).lst.length ≤ s.lst.length := by
  induction fuel generalizing s with
  | zero => exact le_rfl
  | succ fuel ih =>
    unfold handleDue
    split
    · exact le_rfl
    · split
      · exact le_rfl
      · split
        · exact (ih _).trans (length_handleLine _ _ _ s)
        · exact le_rfl

theorem length_barAdvance (s : State) (k : Bar) : (barAdvance s k).lst.length ≤ s.lst.length := by
  unfold barAdvance
  simp only
  split
  · exact length_handleDue _ _ _
  · exact le_rfl

theorem length_barsAdvance (s : State) : (barsAdvance s).lst.length ≤ s.lst.length :=
  (length_freeEntries _).trans (foldl_keeps (P := fun u => u.lst.length ≤ s.lst.length) barAdvance
    (fun u k hu => (length_barAdvance u k).trans hu) allBars s le_rfl)

theorem length_abortEffect (t : Tag) (s : State) : (abortEffect t s).lst.length ≤ s.lst.length := by
  unfold abortEffect
  split
  · exact le_rfl
  · split
    · unfold abortWaiting
      simp only [formHeat_lst, formSpeed_lst]
      refine (length_freeEntries _).trans ?_
      split <;> simp [removeSegment]
    · unfold abortPrinting
      simp only
      split
      · split
        · simpa [abortFlags] using length_releaseFilling _ _ s.lst
        · simp
      · simp
    · simp

/-! ### Capacities other than answer slots -/

/-- Notices, line entries and the position within their bounds. -/
structure Roomy (s : State) : Prop where
  notices : NoticesFit s
  entries : s.lst.length ≤ Config.ringEntries
  position : s.mou.p ≤ Config.maxPosition
  high : s.mou.p ≤ s.htc.pHigh

theorem roomy_congr {s t : State} (hltx : t.ltx.notices = s.ltx.notices) (hlst : t.lst.length ≤ s.lst.length)
    (hp : t.mou.p = s.mou.p) (hhigh : t.htc.pHigh = s.htc.pHigh) (hs : Roomy s) : Roomy t :=
  ⟨by unfold NoticesFit; rw [hltx]; exact hs.notices, hlst.trans hs.entries, by rw [hp]; exact hs.position,
    by rw [hp, hhigh]; exact hs.high⟩

theorem roomy_modLrx (f : Lrx → Lrx) (s : State) (hs : Roomy s) : Roomy (s.modLrx f) :=
  ⟨hs.notices, hs.entries, hs.position, hs.high⟩

/-- An entry is allocated where one is free (R9, R130). -/
theorem roomy_checkLine (s : State) (hs : Roomy s) : Roomy (checkLine s) := by
  have hslot : ∀ l, Roomy (lineWithSlot l s) := fun l => roomy_congr (by simp) (by simp) (by simp) (by simp) hs
  have haccept : ∀ seg line offset count slot, cursorCheck s seg line offset count = none →
      Roomy (acceptLine seg line offset count slot s) := by
    intro seg line offset count slot hcheck
    unfold acceptLine
    simp only
    split
    · next hzero =>
      have hfree : freeCount s ≠ 0 := fun hfull => by
        unfold cursorCheck at hcheck
        simp only [hzero, hfull] at hcheck
        (repeat' split at hcheck) <;> simp_all
      refine ⟨hs.notices, ?_, hs.position, hs.high⟩
      have hlt : s.lst.length < Config.ringEntries := by
        simp only [freeCount, usedCount] at hfree
        omega
      simpa using hlt
    · exact roomy_modLrx _ s hs
  unfold checkLine
  simp only
  split
  · split
    · exact hslot _
    · next hcheck =>
      split
      · split
        · exact haccept _ _ _ _ _ hcheck
        · exact hslot _
      · exact haccept _ _ _ _ _ hcheck
  · exact hslot _

theorem roomy_takePixel (s : State) (hs : Roomy s) : Roomy (takePixel s) := by
  refine roomy_congr (by simp) ?_ (by simp) (by simp) hs
  unfold takePixel
  split
  · split
    · simp
    · exact le_rfl
  · exact le_rfl

theorem roomy_linePayloadByte (s : State) (hs : Roomy s) : Roomy (linePayloadByte s) := by
  have hslot : ∀ l, Roomy (lineWithSlot l s) := fun l => roomy_congr (by simp) (by simp) (by simp) (by simp) hs
  unfold linePayloadByte
  simp only
  split
  · exact roomy_checkLine s hs
  · split
    · split
      · exact hslot _
      · exact hs
    · split
      · exact roomy_takePixel s hs
      · exact hs

theorem roomy_framingError (x : RxState) (n : Nat) (s : State) (hs : Roomy s) : Roomy (framingError x n s) :=
  roomy_congr (by simp) (length_framingError x n s) (by simp) (by simp) hs

theorem roomy_takePayloadByte (b : Byte) (s : State) (hs : Roomy s) : Roomy (takePayloadByte b s) := by
  have htaken := roomy_modLrx (fun l => { l with payload := l.payload ++ [b], crc := crcByte l.crc b }) s hs
  unfold takePayloadByte
  simp only
  split
  · split
    · exact roomy_modLrx _ _ (roomy_linePayloadByte _ htaken)
    · exact roomy_linePayloadByte _ htaken
  · split
    · exact roomy_modLrx _ _ htaken
    · exact htaken

theorem roomy_takeData (b : Byte) (s : State) (hs : Roomy s) : Roomy (takeData b s) := by
  unfold takeData
  split
  · exact hs
  · exact hs
  · have htaken := roomy_modLrx (fun l => { l with header := l.header ++ [b], crc := crcByte l.crc b }) s hs
    unfold takeHeaderByte
    simp only
    split
    · exact htaken
    · split
      · exact roomy_framingError _ _ _ htaken
      · split
        · have hclosed := roomy_modLrx (fun l => { l with state := .trailer }) _ htaken
          split
          · exact roomy_congr (by simp) (by simp) (by simp) (by simp) hclosed
          · exact hclosed
        · exact roomy_modLrx _ _ htaken
  · exact roomy_takePayloadByte b s hs
  · unfold takeTrailerByte
    split
    · exact roomy_modLrx _ _ hs
    · exact roomy_framingError _ _ _ hs

theorem roomy_takeStart (s : State) (hs : Roomy s) : Roomy (takeStart s) := by
  unfold takeStart
  split
  · split
    · exact roomy_modLrx _ _ hs
    · exact roomy_congr (by simp) (by simp) (by simp) (by simp) hs
  · exact hs
  all_goals exact roomy_framingError _ _ _ hs

theorem roomy_takeIdle (s : State) (hs : Roomy s) : Roomy (takeIdle s) := by
  have hrestart : Roomy (restartTimer s) := roomy_congr (by simp) (by simp) (by simp) (by simp) hs
  unfold takeIdle
  simp only
  split
  · exact roomy_modLrx _ _ hrestart
  · exact hrestart
  all_goals exact roomy_framingError _ _ _ hrestart

/-- The position rises below the counter's limit alone, and P_high with it (R85, R152). -/
theorem roomy_encoderLevels (a b : Bool) (s : State) (hs : Roomy s) : Roomy (encoderLevels a b s) := by
  have hlevels : Roomy (s.setMou { s.mou with encA := a, encB := b }) :=
    ⟨hs.notices, hs.entries, hs.position, hs.high⟩
  unfold encoderLevels
  generalize s.setMou { s.mou with encA := a, encB := b } = u at hlevels
  unfold countEdge
  split
  · split
    · next hlt =>
      have hp : (increaseOfP u).mou.p = u.mou.p + 1 := by
        rw [increaseOfP_eq]
        (repeat' split) <;> simp [risen, raiseHigh]
      have hhigh : (increaseOfP u).htc.pHigh = max u.htc.pHigh (u.mou.p + 1) := by
        rw [increaseOfP_eq]
        (repeat' split) <;> simp [risen, raiseHigh]
      refine ⟨?_, ?_, by omega, by omega⟩
      · simpa [NoticesFit] using hlevels.notices
      · rw [increaseOfP_lst]
        exact (length_barsAdvance _).trans hlevels.entries
    · exact hlevels
  · split
    · obtain ⟨hnotices, hentries, hposition, hhigh⟩ := hlevels
      exact ⟨hnotices, hentries, (Nat.sub_le _ _).trans hposition, (Nat.sub_le _ _).trans hhigh⟩
    · exact hlevels
  · exact hlevels

theorem roomy_event {s t : State} (hs : Roomy s) (h : Event s t) : Roomy t := by
  cases h
  case startMark => exact roomy_takeStart s hs
  case dataSymbol b => exact roomy_takeData b s hs
  case idleFill => exact roomy_takeIdle s hs
  case abortMark =>
    refine roomy_congr (by simp) ?_ (by simp) (by simp) hs
    simpa [takeAbort] using length_discardLine s
  case encoderEdge a b => exact roomy_encoderLevels a b s hs
  case frameSent =>
    refine roomy_congr ?_ (by simp) (by simp) (by simp) hs
    unfold frameSent
    split <;> simp
  case gapEnd =>
    refine roomy_congr ?_ (by simp) (by simp) (by simp) hs
    unfold gapEnd
    split <;> rfl
  case hardwareReset =>
    refine ⟨?_, ?_, ?_, ?_⟩ <;> simp [NoticesFit, resetBlocks, State.reset, Ltx.reset, Mou.reset]
  all_goals exact roomy_congr (by simp) (by simp) (by simp) (by simp) hs

theorem roomy_perform (s : State) (r : Request) (hs : Roomy s) : Roomy (perform r s).1 := by
  cases r
  case segmentAbort seg =>
    exact roomy_congr (by simp [perform]) (length_abortEffect seg s) (by simp [perform]) (by simp [perform]) hs
  case barConfig bars =>
    refine roomy_congr (by simp [perform]) ?_ (by simp [perform]) (by simp [perform]) hs
    simp only [perform, barConfigEffect]
    refine (length_freeEntries _).trans ?_
    simp
  case clearLine =>
    refine ⟨by simpa [NoticesFit, perform] using hs.notices, ?_, ?_, ?_⟩ <;>
      simp [perform, clearEffect, clearStore, clearMou]
  all_goals exact roomy_congr (by simp [perform]) (by simp [perform]) (by simp [perform]) (by simp [perform]) hs

theorem roomy_taken (s t : State) (hs : Roomy s) (h : Taken s t) : Roomy t := by
  apply taken_keeps (P := Roomy) (s := s) (t := t) (hs := hs) (h := h)
  case hsettle =>
    exact fun s hs => ⟨noticesFit_settle s hs.notices, by simpa using hs.entries, by simpa using hs.position,
      by simpa using hs.high⟩
  case hevent => exact fun s t => roomy_event
  case hdiscard => exact fun s => roomy_congr (by simp) (length_discardLine s) (by simp) (by simp)
  case hline =>
    refine fun s => roomy_congr ?_ (length_completeLine s).le (by simp) (by simp)
    unfold completeLine
    simp only
    (repeat' split) <;> simp
  case hperform => exact fun s r hs _ _ => roomy_perform s r hs
  case hcheck =>
    refine fun s n id f hs _ => roomy_congr ?_ (by simp) (by simp) (by simp) hs
    unfold endCheck finishExecution
    simp only
    split <;> simp
  all_goals
    intros
    refine roomy_congr ?_ ?_ ?_ ?_ ‹Roomy _› <;> simp

/-! ### Answer slots -/

/-- Queued answers and held slots are at most four (R16). -/
def SlotsFit (s : State) : Prop :=
  slotsInUse s ≤ Config.answerSlots

theorem slotsInUse_congr {s t : State} (hanswers : t.ltx.answers = s.ltx.answers) (hslot : t.cmuSlot = s.cmuSlot)
    (hline : t.lrx.line = s.lrx.line) : slotsInUse t = slotsInUse s := by
  unfold slotsInUse
  rw [hanswers, hslot, hline]

theorem slotsFit_congr {s t : State} (hanswers : t.ltx.answers = s.ltx.answers) (hslot : t.cmuSlot = s.cmuSlot)
    (hline : t.lrx.line = s.lrx.line) (hs : SlotsFit s) : SlotsFit t :=
  (slotsInUse_congr hanswers hslot hline).trans_le hs

theorem rxSlots_le_one (l : LineRx) : rxSlots l ≤ 1 := by
  unfold rxSlots
  split <;> omega

/-- A change of the LINE frame in reception alone, to one that holds no more slots. -/
theorem slotsFit_line {s t : State} (hanswers : t.ltx.answers = s.ltx.answers) (hslot : t.cmuSlot = s.cmuSlot)
    (hline : rxSlots t.lrx.line ≤ rxSlots s.lrx.line) (hs : SlotsFit s) : SlotsFit t := by
  unfold SlotsFit slotsInUse at *
  rw [hanswers, hslot]
  omega

/-- Where a slot is free, the LINE frame in reception may hold it. -/
theorem slotsFit_taken {s t : State} (hanswers : t.ltx.answers = s.ltx.answers) (hslot : t.cmuSlot = s.cmuSlot)
    (hfree : slotFree s = true) : SlotsFit t := by
  have hlt : slotsInUse s < Config.answerSlots := by simpa [slotFree] using hfree
  have hone := rxSlots_le_one t.lrx.line
  unfold SlotsFit slotsInUse at *
  rw [hanswers, hslot]
  omega

/-- LTX's choice takes at most an answer off the queue (R14). -/
theorem answers_ltxChoose (s : State) : (ltxChoose s).ltx.answers.length ≤ s.ltx.answers.length := by
  unfold ltxChoose
  split
  · exact le_rfl
  · exact le_rfl
  · split
    · next hanswers =>
      rw [hanswers]
      simp
    · split
      · exact le_rfl
      · exact le_rfl
      · split
        · exact le_rfl
        · split <;> exact le_rfl

theorem slotsFit_settle (s : State) (hs : SlotsFit s) : SlotsFit (settle s) := by
  have hanswers : (settle s).ltx.answers.length ≤ s.ltx.answers.length := by
    refine (answers_ltxChoose _).trans ?_
    simp
  unfold SlotsFit slotsInUse at *
  simp only [settle_cmuSlot, settle_frame]
  omega

theorem slotsFit_without (x : RxState) (n : Nat) (s : State) (hs : SlotsFit s) :
    SlotsFit (s.modLrx fun l => l.without x n) :=
  slotsFit_line (s := s) rfl rfl (Nat.zero_le _) hs

theorem slotsFit_framingError (x : RxState) (n : Nat) (s : State) (hs : SlotsFit s) :
    SlotsFit (framingError x n s) :=
  slotsFit_line (by simp) (by simp) (by simp [framingError, Lrx.without, rxSlots]) hs

theorem slotsFit_lineWithSlot (line : LineRx) (s : State) (hs : SlotsFit s) : SlotsFit (lineWithSlot line s) := by
  unfold lineWithSlot
  split
  · next hfree => exact slotsFit_taken (by simp) (by simp) hfree
  · exact slotsFit_line (s := s) (by simp) (by simp) (by simp [rxSlots]) hs

theorem slotsFit_checkLine (s : State) (hs : SlotsFit s) : SlotsFit (checkLine s) := by
  unfold checkLine
  simp only
  split
  · split
    · exact slotsFit_lineWithSlot _ s hs
    · split
      · split
        · next hfree => exact slotsFit_taken (by simp) (by simp) hfree
        · exact slotsFit_lineWithSlot _ s hs
      · refine slotsFit_line (s := s) (by simp) (by simp) ?_ hs
        have hnone : rxSlots (acceptLine (BitVec.ofNat 16 (beNat ((rxFrame s.lrx).payload.take 2)))
            (beNat (((rxFrame s.lrx).payload.drop 2).take 2)) (beNat (((rxFrame s.lrx).payload.drop 4).take 4))
            (beNat (((rxFrame s.lrx).payload.drop 8).take 2)) false s).lrx.line = 0 := by
          unfold acceptLine
          simp only
          split <;> rfl
        omega
  · exact slotsFit_lineWithSlot _ s hs

theorem slotsFit_linePayloadByte (s : State) (hs : SlotsFit s) : SlotsFit (linePayloadByte s) := by
  unfold linePayloadByte
  simp only
  split
  · exact slotsFit_checkLine s hs
  · split
    · split
      · exact slotsFit_lineWithSlot _ s hs
      · exact hs
    · split
      · exact slotsFit_congr (by simp) (by simp) (by simp) hs
      · exact hs

theorem slotsFit_takeData (b : Byte) (s : State) (hs : SlotsFit s) : SlotsFit (takeData b s) := by
  unfold takeData
  split
  · exact hs
  · exact hs
  · have htaken : SlotsFit (s.modLrx fun l => { l with header := l.header ++ [b], crc := crcByte l.crc b }) := hs
    unfold takeHeaderByte
    simp only
    split
    · exact htaken
    · split
      · exact slotsFit_framingError _ _ _ htaken
      · split
        · split
          · exact slotsFit_lineWithSlot _ _ htaken
          · exact htaken
        · exact htaken
  · have htaken : SlotsFit (s.modLrx fun l => { l with payload := l.payload ++ [b], crc := crcByte l.crc b }) := hs
    have hclosed : ∀ u : State, SlotsFit u →
        SlotsFit (if rxLength u.lrx ≤ u.lrx.payload.length then u.modLrx fun l => { l with state := .trailer }
          else u) := by
      intro u hu
      split
      · exact hu
      · exact hu
    unfold takePayloadByte
    simp only
    refine hclosed _ ?_
    split
    · exact slotsFit_linePayloadByte _ htaken
    · exact htaken
  · unfold takeTrailerByte
    split
    · exact hs
    · exact slotsFit_framingError _ _ _ hs

theorem slotsFit_takeStart (s : State) (hs : SlotsFit s) : SlotsFit (takeStart s) := by
  unfold takeStart
  split
  · split
    · exact slotsFit_without _ _ s hs
    · exact slotsFit_congr (by simp) (by simp) (by simp) (slotsFit_without .skip 0 s hs)
  · exact hs
  all_goals exact slotsFit_framingError _ _ s hs

theorem slotsFit_takeIdle (s : State) (hs : SlotsFit s) : SlotsFit (takeIdle s) := by
  have hrestart : SlotsFit (restartTimer s) := slotsFit_congr (by simp) (by simp) (by simp) hs
  unfold takeIdle
  simp only
  split
  · exact hrestart
  · exact hrestart
  all_goals exact slotsFit_framingError _ _ _ hrestart

/-- A refusal of the LINE frame in reception holds the slot it had, or one that is free (R13). -/
theorem slotsFit_overtake (code : AnswerCode) (s : State) (hs : SlotsFit s) : SlotsFit (overtake code s) := by
  unfold overtake
  split
  · next seg n o c slot hline =>
    split
    · next h =>
      rcases h with rfl | hfree
      · exact slotsFit_line (s := s) rfl rfl (by simp [rxSlots, hline]) hs
      · exact slotsFit_taken (by simp) (by simp) hfree
    · exact slotsFit_line (s := s) (by simp) (by simp) (by simp [rxSlots]) hs
  · exact hs

theorem slotsFit_overtakeOf (t : Tag) (code : AnswerCode) (s : State) (hs : SlotsFit s) :
    SlotsFit (overtakeOf t code s) := by
  unfold overtakeOf
  split
  · exact slotsFit_overtake code s hs
  · exact hs

theorem slotsFit_handleLine (k : Bar) (r : Segment) (n : Nat) (s : State) (hs : SlotsFit s) :
    SlotsFit (handleLine k r n s) := by
  have hrest : ∀ u : State, SlotsFit u →
      SlotsFit ((reportHandling k r.tag n (fireOrMiss k r n u)).modBar k fun b =>
        { b with cursor := nextCursor (reportHandling k r.tag n (fireOrMiss k r n u)).rls r n }) := fun u hu =>
    slotsFit_congr (s := u) (by simp [State.modBar]) (by simp [State.modBar]) (by simp [State.modBar]) hu
  unfold handleLine
  simp only
  split
  · refine hrest _ ?_
    unfold declareLost
    simp only
    refine slotsFit_congr (s := overtakeOf r.tag .late (fillNextLine r.tag n r.lines
      (s.setLst (releaseFilling r.tag n s.lst)))) (by simp) (by simp) (by simp) (slotsFit_overtakeOf _ _ _ ?_)
    exact slotsFit_congr (by simp) (by simp) (by simp) hs
  · exact hrest _ hs

theorem slotsFit_handleDue (k : Bar) (fuel : Nat) (s : State) (hs : SlotsFit s) : SlotsFit (handleDue k fuel s) := by
  induction fuel generalizing s with
  | zero => exact hs
  | succ fuel ih =>
    unfold handleDue
    split
    · exact hs
    · split
      · exact hs
      · split
        · exact ih _ (slotsFit_handleLine _ _ _ s hs)
        · exact hs

theorem slotsFit_barsAdvance (s : State) (hs : SlotsFit s) : SlotsFit (barsAdvance s) := by
  have hbar : ∀ u k, SlotsFit u → SlotsFit (barAdvance u k) := by
    intro u k hu
    unfold barAdvance
    simp only
    split
    · exact slotsFit_handleDue _ _ _ hu
    · exact hu
  have hfold := foldl_keeps barAdvance hbar allBars s hs
  unfold barsAdvance
  exact slotsFit_congr (by simp) (by simp) (by simp) hfold

theorem slotsFit_encoderLevels (a b : Bool) (s : State) (hs : SlotsFit s) : SlotsFit (encoderLevels a b s) := by
  have hline : ∀ u : State, (increaseOfP u).lrx.line
      = (barsAdvance (raiseHigh (u.setMou { u.mou with p := u.mou.p + 1 }))).lrx.line := fun u => by
    rw [increaseOfP_eq]
    (repeat' split) <;> simp [risen]
  have hlevels : SlotsFit (s.setMou { s.mou with encA := a, encB := b }) := hs
  unfold encoderLevels
  generalize s.setMou { s.mou with encA := a, encB := b } = u at hlevels
  unfold countEdge
  split
  · split
    · refine slotsFit_congr (by simp) (by simp) (hline u) (slotsFit_barsAdvance _ ?_)
      exact slotsFit_congr (by simp [raiseHigh]) (by simp [raiseHigh]) (by simp [raiseHigh]) hlevels
    · exact hlevels
  · split <;> exact hlevels
  · exact hlevels

theorem slotsFit_abortEffect (t : Tag) (s : State) (hs : SlotsFit s) : SlotsFit (abortEffect t s) := by
  unfold abortEffect
  split
  · exact hs
  · next r _ =>
    split
    · have houter : ∀ u : State, SlotsFit u →
          SlotsFit (formHeat (formSpeed (freeEntries (tensionReleased r.tag u)))) := fun u hu =>
        slotsFit_congr (s := u) (by simp) (by simp) (by simp) hu
      unfold abortWaiting
      simp only
      refine houter _ ?_
      split
      · refine slotsFit_overtakeOf _ _ _ ?_
        exact slotsFit_congr (by simp) (by simp) (by simp) hs
      · exact slotsFit_congr (by simp) (by simp) (by simp) hs
    · unfold abortPrinting
      simp only
      split
      · split
        · refine slotsFit_overtakeOf _ _ _ ?_
          exact slotsFit_congr (by simp) (by simp) (by simp) hs
        · exact slotsFit_congr (by simp) (by simp) (by simp) hs
      · exact slotsFit_congr (by simp) (by simp) (by simp) hs
    · exact slotsFit_congr (by simp) (by simp) (by simp) hs

theorem slotsFit_clearEffect (s : State) (hs : SlotsFit s) : SlotsFit (clearEffect s) := by
  unfold clearEffect
  simp only
  refine slotsFit_congr (s := overtake .unknownSegment ((clearStore (clearPfs s)).setCpa none)) ?_ ?_ ?_
    (slotsFit_overtake _ _ (slotsFit_congr (by simp) (by simp) (by simp) hs)) <;> simp

theorem slotsFit_perform (s : State) (r : Request) (hs : SlotsFit s) : SlotsFit (perform r s).1 := by
  cases r
  case segmentAbort seg => exact slotsFit_abortEffect seg s hs
  case clearLine => exact slotsFit_clearEffect s hs
  all_goals exact slotsFit_congr (by simp [perform]) (by simp [perform]) (by simp [perform]) hs

end Sys2Proof.Machine
end

section
/-! SUPPORT and the settling of O5: the control buffers over an execution and over the end of a bank check (R5, R6). -/

namespace Sys2Proof.Machine

/-! ### The control buffers between events -/

/-- The execute buffer is FULL, and a slot held for it, exactly while a bank check runs; the intake buffer is FULL only
while the execute buffer is (R5, R6). -/
structure Buffered (s : State) : Prop where
  slots : SlotsFit s
  execute : s.lrx.execute.isSome = s.pfs.check.isSome
  held : s.cmuSlot = s.pfs.check.isSome
  waits : s.lrx.intake.isSome → s.lrx.execute.isSome

/-- A state that is free to execute the frame of the execute buffer, if any. -/
structure Ready (s : State) : Prop where
  slots : SlotsFit s
  check : s.pfs.check = none
  held : s.cmuSlot = false
  waits : s.lrx.intake = none

/-- Two states agree on the control buffers and the bank check. -/
structure SameBuffers (s t : State) : Prop where
  execute : t.lrx.execute = s.lrx.execute
  intake : t.lrx.intake = s.lrx.intake
  check : t.pfs.check = s.pfs.check
  held : t.cmuSlot = s.cmuSlot

theorem buffered_congr {s t : State} (h : SameBuffers s t) (hslots : SlotsFit s → SlotsFit t) (hs : Buffered s) :
    Buffered t :=
  ⟨hslots hs.slots, by rw [h.execute, h.check]; exact hs.execute, by rw [h.held, h.check]; exact hs.held,
    by rw [h.intake, h.execute]; exact hs.waits⟩

theorem ready_congr {s t : State} (h : SameBuffers s t) (hslots : SlotsFit s → SlotsFit t) (hs : Ready s) : Ready t :=
  ⟨hslots hs.slots, h.check.trans hs.check, h.held.trans hs.held, h.intake.trans hs.waits⟩

theorem sameBuffers_settle (s : State) : SameBuffers s (settle s) := by
  constructor <;> simp

theorem buffered_of_empty {s : State} (hs : Ready s) (hexecute : s.lrx.execute = none) : Buffered s :=
  ⟨hs.slots, by rw [hexecute, hs.check]; rfl, by rw [hs.held, hs.check]; rfl, by simp [hs.waits]⟩

theorem slotsInUse_eq (s : State) :
    slotsInUse s = s.ltx.answers.length + rxSlots s.lrx.line + s.cmuSlot.toNat := by
  unfold slotsInUse
  cases s.cmuSlot <;> rfl

theorem slotsInUse_queueAnswer (a : Answer) (s : State) : slotsInUse (queueAnswer a s) = slotsInUse s + 1 := by
  rw [slotsInUse_eq, slotsInUse_eq]
  simp [queueAnswer]
  omega

/-- A queued answer takes the place of a slot that was held. -/
theorem slotsFit_queueAnswer {s t : State} (a : Answer) (hanswers : t.ltx.answers = s.ltx.answers)
    (hless : rxSlots t.lrx.line + t.cmuSlot.toNat + 1 ≤ rxSlots s.lrx.line + s.cmuSlot.toNat)
    (hs : SlotsFit s) : SlotsFit (queueAnswer a t) := by
  unfold SlotsFit at *
  rw [slotsInUse_queueAnswer, slotsInUse_eq, hanswers]
  rw [slotsInUse_eq] at hs
  omega

/-! ### An execution -/

/-- An execution leaves the check as it is, or begins one and is then not over (R6, R41). -/
theorem executeFrame_check (f : Frame) (s : State) : (executeFrame f s).1.pfs.check = s.pfs.check
      ∧ (executeFrame f s).2 ≠ .pending
    ∨ (executeFrame f s).1.pfs.check.isSome ∧ (executeFrame f s).2 = .pending := by
  unfold executeFrame
  split
  · exact .inl ⟨rfl, fun h => by cases h⟩
  · next r _ =>
    split
    · exact .inl ⟨rfl, fun h => by cases h⟩
    · cases r
      case profileCommit slot => exact .inr ⟨rfl, rfl⟩
      all_goals exact .inl ⟨by simp [perform], by simp [perform, accepted]⟩

theorem slotsFit_executeFrame (f : Frame) (s : State) (hs : SlotsFit s) : SlotsFit (executeFrame f s).1 := by
  unfold executeFrame
  split
  · exact hs
  · split
    · exact hs
    · exact slotsFit_perform _ _ hs

/-- The end of an execution gives the slot to the answer, and empties the execute buffer into which the intake buffer's
frame moves (R5, R6). -/
theorem ready_finishExecution (f : Frame) (code : AnswerCode) (detail : Nat) (reply : List Byte) {s : State}
    (hslots : SlotsFit s) (hheld : s.cmuSlot = true) (hcheck : s.pfs.check = none) :
    Ready (finishExecution f code detail reply s)
      ∧ (finishExecution f code detail reply s).lrx.execute = s.lrx.intake := by
  have hanswered : SlotsFit (queueAnswer (controlAnswer f code detail reply) (s.setCmuSlot false)) :=
    slotsFit_queueAnswer (s := s) _ rfl (by simp [hheld]) hslots
  exact ⟨⟨hanswered, hcheck, rfl, rfl⟩, rfl⟩

theorem buffered_startExecution {f : Frame} {s : State} (hs : Ready s) (hexecute : s.lrx.execute = some f) :
    Buffered (startExecution f s) := by
  unfold startExecution
  split
  · next hfree =>
    have htaken : SlotsFit (s.setCmuSlot true) := by
      have hlt : slotsInUse s < Config.answerSlots := by simpa [slotFree] using hfree
      unfold SlotsFit slotsInUse at *
      simp only [hs.held, State.setCmuSlot_ltx, State.setCmuSlot_lrx, State.setCmuSlot_cmuSlot] at *
      simp at hlt ⊢
      omega
    have hslots := slotsFit_executeFrame f _ htaken
    have hframe := executeFrame_frame f (s.setCmuSlot true)
    obtain ⟨-, -, -, -, -, -, hintake', hexecute', hheld', -⟩ := hframe
    have hcheck' := executeFrame_check f (s.setCmuSlot true)
    generalize executeFrame f (s.setCmuSlot true) = done at hslots hintake' hexecute' hheld' hcheck'
    obtain ⟨s1, d⟩ := done
    simp only at hslots hintake' hexecute' hheld' hcheck'
    cases d with
    | answer code detail reply =>
      have hnone : s1.pfs.check = none := by
        rcases hcheck' with ⟨h, -⟩ | ⟨-, h⟩
        · exact h.trans hs.check
        · cases h
      obtain ⟨hready, hempty⟩ := ready_finishExecution f code detail reply hslots hheld' hnone
      exact buffered_of_empty hready (hempty.trans (hintake'.trans hs.waits))
    | pending =>
      have hsome : s1.pfs.check.isSome := by
        rcases hcheck' with ⟨-, h⟩ | ⟨h, -⟩
        · exact absurd rfl h
        · exact h
      have hfull : s1.lrx.execute.isSome := by
        rw [hexecute', State.setCmuSlot_lrx, hexecute]
        rfl
      exact ⟨hslots, by rw [hfull, hsome], by rw [hheld', hsome]; rfl, fun _ => hfull⟩
  · refine buffered_of_empty ⟨slotsFit_congr (s := s) (by simp) (by simp) (by simp [advanceBuffers,
      State.modLrx]) hs.slots, by simpa using hs.check,
      by simpa using hs.held, by simp [advanceBuffers, State.modLrx]⟩ ?_
    simp [advanceBuffers, State.modLrx, hs.waits]

theorem buffered_settle {s : State} (hs : Buffered s) : Buffered (settle s) :=
  buffered_congr (sameBuffers_settle s) (slotsFit_settle s) hs

theorem buffered_runExecute {s : State} (hs : Ready s) : Buffered (runExecute s) := by
  unfold runExecute
  split
  · next f _ hexecute => exact buffered_settle (buffered_startExecution hs hexecute)
  · next hcase =>
    refine buffered_of_empty hs ?_
    cases hexecute : s.lrx.execute with
    | none => rfl
    | some f => exact absurd hexecute (hcase f hs.check)

/-! ### A control frame -/

theorem buffered_takeControl (f : Frame) {s : State} (hs : Buffered s) : Buffered (takeControl f s) := by
  unfold takeControl
  simp only
  split
  · next hempty =>
    have hcheck : s.pfs.check = none := Option.isNone_iff_eq_none.mp (by
      rw [← Option.not_isSome, ← hs.execute, hempty]
      rfl)
    have hheld : s.cmuSlot = false := by rw [hs.held, hcheck]; rfl
    have hintake : s.lrx.intake = none := by simpa [hempty] using hs.waits
    have hin : intakeFrame f s = s.modLrx fun l => { l with execute := some f } := by
      unfold intakeFrame
      rw [hintake, hempty]
    rw [hin]
    exact buffered_runExecute (ready_congr (sameBuffers_settle _) (slotsFit_settle _)
      ⟨hs.slots, hcheck, hheld, hintake⟩)
  · next hfull =>
    have hsome : s.lrx.execute.isSome := Option.isSome_iff_ne_none.mpr hfull
    refine buffered_settle ?_
    unfold intakeFrame
    split
    · split
      · next hempty => exact absurd hempty hfull
      · exact ⟨hs.slots, hs.execute, hs.held, fun _ => hsome⟩
    · split
      · next hfree =>
        refine buffered_congr (s := s) ?_ (fun _ => ?_) hs
        · constructor <;> rfl
        · have hlt : slotsInUse s < Config.answerSlots := by simpa [slotFree] using hfree
          unfold SlotsFit
          rw [slotsInUse_queueAnswer]
          omega
      · refine buffered_congr ?_ (slotsFit_congr (by simp) (by simp) (by simp)) hs
        constructor <;> simp

/-! ### The end of a frame and of a bank check -/

theorem buffered_modLrx_without (x : RxState) (n : Nat) {s : State} (hs : Buffered s) :
    Buffered (s.modLrx fun l => l.without x n) :=
  buffered_congr (s := s) ⟨rfl, rfl, rfl, rfl⟩ (slotsFit_without x n s) hs

theorem buffered_goodFrame {s : State} (hs : Buffered s) : Buffered (goodFrame s) := by
  refine buffered_congr ?_ (slotsFit_congr (by simp) (by simp) (by simp)) hs
  constructor <;> simp

theorem buffered_framingError (x : RxState) (n : Nat) {s : State} (hs : Buffered s) :
    Buffered (framingError x n s) := by
  refine buffered_congr ?_ (slotsFit_framingError x n s) hs
  constructor <;> simp

/-- A LINE frame's answer takes the slot that the frame held (R10, R11). -/
theorem buffered_completeLine {s : State} (hs : Buffered s) : Buffered (completeLine s) := by
  have hclosed := buffered_modLrx_without .hunt 0 hs
  unfold completeLine
  simp only
  split
  · next seg l o c slot hline =>
    have hcommit : Buffered (commitLine seg l o c (s.modLrx fun l => l.without .hunt 0)) := by
      refine buffered_congr ?_ (slotsFit_congr (by simp) (by simp) (by simp)) hclosed
      constructor <;> simp
    split
    · next hslot =>
      refine buffered_congr (s := s) ?_ (slotsFit_queueAnswer _ (by simp) ?_) hs
      · constructor <;> simp
      · simp [hline, hslot, rxSlots, Lrx.without]
    · exact hcommit
  · next code hline =>
    refine buffered_congr (s := s) ?_ (slotsFit_queueAnswer _ rfl ?_) hs
    · constructor <;> simp
    · simp [hline, rxSlots, Lrx.without]
  · exact hclosed
  · exact hclosed

theorem buffered_takeEnd {s : State} (hs : Buffered s) : Buffered (takeEnd s) := by
  unfold takeEnd
  split
  · exact hs
  · exact buffered_modLrx_without _ _ hs
  · exact buffered_settle (buffered_framingError _ _ hs)
  · exact buffered_settle (buffered_framingError _ _ hs)
  · split
    · exact buffered_settle (buffered_framingError _ _ hs)
    · split
      · split
        · exact buffered_settle (buffered_completeLine (buffered_goodFrame hs))
        · exact buffered_takeControl _ (buffered_modLrx_without _ _ (buffered_goodFrame hs))
      · have hdiscard : Buffered (discardLine s) := by
          refine buffered_congr ?_ (slotsFit_congr (by simp) (by simp) (by simp)) hs
          constructor <;> simp
        refine buffered_settle (buffered_congr ?_ (slotsFit_congr ?_ ?_ ?_) (buffered_modLrx_without .hunt 0 hdiscard))
        · constructor <;> simp
        all_goals simp

theorem buffered_checkEnds {s : State} (hs : Buffered s) : Buffered (checkEnds s) := by
  unfold checkEnds
  split
  · next slot id f hcheck _ =>
    have hheld : s.cmuSlot = true := by rw [hs.held, hcheck]; rfl
    have hended : ∀ (u : State) code detail reply, u.ltx.answers = s.ltx.answers → u.cmuSlot = s.cmuSlot →
        u.lrx.line = s.lrx.line → u.pfs.check = none → Ready (finishExecution f code detail reply u) :=
      fun u code detail reply h1 h2 h3 h4 =>
        (ready_finishExecution f code detail reply (slotsFit_congr h1 h2 h3 hs.slots) (h2.trans hheld) h4).1
    refine buffered_runExecute (ready_congr (sameBuffers_settle _) (slotsFit_settle _) ?_)
    unfold endCheck
    simp only
    split
    · exact hended _ _ _ _ rfl rfl rfl rfl
    · exact hended _ _ _ _ (by simp) (by simp) (by simp) (by simp)
  · exact hs

/-! ### The bounds over every step -/

theorem buffered_event {s t : State} (hs : Buffered s) (h : Event s t) : Buffered t := by
  cases h
  case startMark => exact buffered_congr (by constructor <;> simp) (slotsFit_takeStart s) hs
  case dataSymbol b => exact buffered_congr (by constructor <;> simp) (slotsFit_takeData b s) hs
  case idleFill => exact buffered_congr (by constructor <;> simp) (slotsFit_takeIdle s) hs
  case encoderEdge a b => exact buffered_congr (by constructor <;> simp) (slotsFit_encoderLevels a b s) hs
  case abortMark =>
    obtain ⟨hslots, hexecute, hheld, -⟩ := hs
    refine ⟨slotsFit_line (s := s) (by simp) (by simp) (by simp [takeAbort, Lrx.without, rxSlots]) hslots,
      by simpa using hexecute, by simpa using hheld, by simp [takeAbort, State.modLrx]⟩
  case frameSent =>
    refine buffered_congr (by constructor <;> simp) (slotsFit_congr ?_ (by simp) (by simp)) hs
    unfold frameSent
    split <;> simp
  case gapEnd =>
    refine buffered_congr (by constructor <;> simp) (slotsFit_congr ?_ (by simp) (by simp)) hs
    unfold gapEnd
    split <;> rfl
  case hardwareReset =>
    have hempty : Ready (resetBlocks s) := ⟨by simp [SlotsFit, slotsInUse, resetBlocks, State.reset, Ltx.reset,
      Lrx.reset, rxSlots], rfl, rfl, rfl⟩
    refine buffered_congr (by constructor <;> simp) (slotsFit_congr (by simp) (by simp) (by simp))
      (buffered_of_empty hempty rfl)
  all_goals exact buffered_congr (by constructor <;> simp) (slotsFit_congr (by simp) (by simp) (by simp)) hs

theorem buffered_taken (s t : State) (hs : Buffered s) (h : Taken s t) : Buffered t := by
  cases h with
  | event h => exact buffered_settle (buffered_event hs h)
  | endMark => exact buffered_takeEnd hs
  | control f => exact buffered_takeControl f hs
  | bankCheckEnd => exact buffered_checkEnds hs

theorem bounded_iff (s : State) : Bounded s ↔ Roomy s ∧ Buffered s :=
  ⟨fun ⟨hslots, hnotices, hentries, hposition, hhigh, hexecute, hheld, hwaits⟩ =>
      ⟨⟨hnotices, hentries, hposition, hhigh⟩, ⟨hslots, hexecute, hheld, hwaits⟩⟩,
    fun ⟨⟨hnotices, hentries, hposition, hhigh⟩, ⟨hslots, hexecute, hheld, hwaits⟩⟩ =>
      ⟨hslots, hnotices, hentries, hposition, hhigh, hexecute, hheld, hwaits⟩⟩

/-- Settles O5: each capacity is tested where its count rises, and an answer takes the slot that was held for it. -/
theorem boundsKept : Obligations.BoundsKept := by
  intro s t hs h
  rw [bounded_iff] at hs ⊢
  refine step_keeps (P := fun u => Roomy u ∧ Buffered u) (fun u rest hu => ?_)
    (fun u v hu hv => ⟨roomy_taken u v hu.1 hv, buffered_taken u v hu.2 hv⟩) hs h
  exact ⟨⟨hu.1.notices, hu.1.entries, hu.1.position, hu.1.high⟩, ⟨hu.2.slots, hu.2.execute, hu.2.held, hu.2.waits⟩⟩

end Sys2Proof.Machine
end

section
/-! SUPPORT and the settling of O18. Big-endian fields read back what is written, and what is read writes the same bytes
(R190); so for every layout of section 11.4. -/

namespace Sys2Proof.Machine

/-! ### Fields -/

/-- A byte run depends on the number modulo its width alone. -/
theorem beBytes_mod (n x : Nat) : beBytes n (x % 256 ^ n) = beBytes n x := by
  have h := beBytes_beNat (beBytes n x)
  rwa [beBytes_length, beNat_beBytes] at h

theorem readFields_cons (w : Nat) (ws : List Nat) (bs : List Byte) : readFields (w :: ws) bs =
    if bs.length < w then none else (readFields ws (bs.drop w)).map (beNat (bs.take w) :: ·) := by
  rw [readFields]
  split
  · rfl
  · cases readFields ws (bs.drop w) <;> rfl

/-- What is read writes the same bytes. -/
theorem writeFields_of_read {ws : List Nat} {bs : List Byte} {vs : List Nat} (h : readFields ws bs = some vs) :
    vs.length = ws.length ∧ writeFields (ws.zip vs) = bs := by
  induction ws generalizing bs vs with
  | nil =>
    cases bs with
    | nil =>
      obtain rfl := Option.some.inj h
      exact ⟨rfl, rfl⟩
    | cons b bs => cases h
  | cons w ws ih =>
    rw [readFields_cons] at h
    split at h
    · cases h
    · next hlen =>
      obtain ⟨vs', hrest, rfl⟩ := Option.map_eq_some_iff.mp h
      obtain ⟨hlength, hwrite⟩ := ih hrest
      refine ⟨by simp [hlength], ?_⟩
      have htake : beBytes w (beNat (bs.take w)) = bs.take w := by
        have hself := beBytes_beNat (bs.take w)
        rwa [List.length_take, min_eq_left (by omega)] at hself
      rw [List.zip_cons_cons, writeFields, hwrite, htake, List.take_append_drop]

/-- Written fields are read back, each modulo its width. -/
theorem readFields_written {ws : List Nat} {l : List (Nat × Nat)} (hws : l.map Prod.fst = ws) :
    readFields ws (writeFields l) = some (l.map fun x => x.2 % 256 ^ x.1) := by
  subst hws
  induction l with
  | nil => rfl
  | cons x l ih =>
    rw [List.map_cons, writeFields, readFields_cons, if_neg (by simp), List.drop_left' (beBytes_length x.1 x.2), ih,
      List.take_left' (beBytes_length x.1 x.2), beNat_beBytes]
    rfl

/-! A field of one, two or four bytes: a register fits it, and it is written as its number modulo the width. -/

theorem beBytes_one (x : Nat) : beBytes 1 (x % 256) = beBytes 1 x := beBytes_mod 1 x
theorem beBytes_two (x : Nat) : beBytes 2 (x % 65536) = beBytes 2 x := beBytes_mod 2 x
theorem beBytes_four (x : Nat) : beBytes 4 (x % 4294967296) = beBytes 4 x := beBytes_mod 4 x

theorem ofNat_mod_one (v : BitVec 8) : BitVec.ofNat 8 (v.toNat % 256 ^ 1) = v :=
  BitVec.eq_of_toNat_eq (by simpa using v.isLt)
theorem ofNat_mod_two (v : BitVec 16) : BitVec.ofNat 16 (v.toNat % 256 ^ 2) = v :=
  BitVec.eq_of_toNat_eq (by simpa using v.isLt)
theorem ofNat_mod_four (v : BitVec 32) : BitVec.ofNat 32 (v.toNat % 256 ^ 4) = v :=
  BitVec.eq_of_toNat_eq (by simpa using v.isLt)

/-! ### Characters and words -/

theorem charsBytes_of_read {bs : List Byte} {c : Chars8} (h : charsOf bs = some c) : charsBytes c = bs := by
  unfold charsOf at h
  split at h
  · obtain rfl := Option.some.inj h
    rfl
  · cases h

theorem readWords_wordsBytes (vs : List W16) : readWords vs.length (wordsBytes vs) = some vs := by
  have hwidths : (vs.map fun v => ((2, v.toNat) : Nat × Nat)).map Prod.fst = List.replicate vs.length 2 := by
    simp [Function.comp_def]
  unfold readWords wordsBytes
  rw [readFields_written hwidths]
  simp only [List.map_map, Function.comp_def, ofNat_mod_two, List.map_id']

theorem wordsBytes_of_read {n : Nat} {bs : List Byte} {vs : List W16} (h : readWords n bs = some vs) :
    vs.length = n ∧ wordsBytes vs = bs := by
  unfold readWords at h
  split at h
  · next ns hread =>
    obtain rfl := Option.some.inj h
    obtain ⟨hlength, hwrite⟩ := writeFields_of_read hread
    rw [List.length_replicate] at hlength
    refine ⟨by simp [hlength], ?_⟩
    rw [← hwrite, ← hlength]
    unfold wordsBytes
    clear hread hwrite hlength h
    induction ns with
    | nil => rfl
    | cons x ns ih =>
      rw [List.map_cons, List.map_cons, List.length_cons, List.replicate_succ, List.zip_cons_cons, writeFields,
        writeFields, ih, BitVec.toNat_ofNat]
      congr 1
      exact beBytes_two x
  · cases h

/-! ### The layouts of section 11.4 -/

theorem readLineFields_bytes (c : LineFields) : readLineFields (lineFieldsBytes c) = some c := by
  unfold readLineFields lineFieldsBytes
  rw [readFields_written (ws := lineWidths) rfl]
  simp only [List.map_cons, List.map_nil, ofNat_mod_one, ofNat_mod_two, ofNat_mod_four]

theorem lineFieldsBytes_of_read {bs : List Byte} {c : LineFields} (h : readLineFields bs = some c) :
    lineFieldsBytes c = bs := by
  unfold readLineFields at h
  split at h
  · next hread =>
    obtain rfl := Option.some.inj h
    obtain ⟨-, hwrite⟩ := writeFields_of_read hread
    rw [← hwrite]
    simp [lineFieldsBytes, lineWidths, writeFields, beBytes_one, beBytes_two, beBytes_four]
  · cases h

theorem readHeatFields_bytes (c : HeatFields) : readHeatFields (heatFieldsBytes c) = some c := by
  unfold readHeatFields heatFieldsBytes
  rw [readFields_written (ws := heatWidths) rfl]
  simp only [List.map_cons, List.map_nil, ofNat_mod_one, ofNat_mod_two, ofNat_mod_four]

theorem heatFieldsBytes_of_read {bs : List Byte} {c : HeatFields} (h : readHeatFields bs = some c) :
    heatFieldsBytes c = bs := by
  unfold readHeatFields at h
  split at h
  · next hread =>
    obtain rfl := Option.some.inj h
    obtain ⟨-, hwrite⟩ := writeFields_of_read hread
    rw [← hwrite]
    simp [heatFieldsBytes, heatWidths, writeFields, beBytes_one, beBytes_two, beBytes_four]
  · cases h

theorem readTensionFields_bytes (c : TensionFields) : readTensionFields (tensionFieldsBytes c) = some c := by
  unfold readTensionFields tensionFieldsBytes
  rw [readFields_written (ws := tensionWidths) rfl]
  simp only [List.map_cons, List.map_nil, ofNat_mod_one, ofNat_mod_two, ofNat_mod_four]

theorem tensionFieldsBytes_of_read {bs : List Byte} {c : TensionFields} (h : readTensionFields bs = some c) :
    tensionFieldsBytes c = bs := by
  unfold readTensionFields at h
  split at h
  · next hread =>
    obtain rfl := Option.some.inj h
    obtain ⟨-, hwrite⟩ := writeFields_of_read hread
    rw [← hwrite]
    simp [tensionFieldsBytes, tensionWidths, writeFields, beBytes_one, beBytes_two, beBytes_four]
  · cases h

theorem readHeader_bytes (h : HeaderFields) : readHeader (headerBytes h) = some h := by
  have hlead : (headerBytes h).take 10
      = writeFields [(2, h.nominal.toNat), (2, h.tolerance.toNat), (4, h.minDwell.toNat), (2, h.inkLimit.toNat)] := by
    simp [headerBytes, List.take_append]
  have hname : ((headerBytes h).drop 10).take 8 = charsBytes h.name := by
    simp [headerBytes, List.drop_append, List.take_append, charsBytes]
  have hcheck : (headerBytes h).drop 18 = writeFields [(2, h.check.toNat)] := by
    simp [headerBytes, List.drop_append, charsBytes]
  unfold readHeader
  rw [hlead, hname, hcheck, readFields_written (ws := [2, 2, 4, 2]) rfl,
    readFields_written (ws := [2]) rfl]
  simp only [List.map_cons, List.map_nil, ofNat_mod_one, ofNat_mod_two, ofNat_mod_four, charsBytes, charsOf]

theorem headerBytes_of_read {bs : List Byte} {h : HeaderFields} (hread : readHeader bs = some h) :
    headerBytes h = bs := by
  unfold readHeader at hread
  split at hread
  · next hlead hname hcheck =>
    obtain rfl := Option.some.inj hread
    obtain ⟨-, hlead⟩ := writeFields_of_read hlead
    obtain ⟨-, hcheck⟩ := writeFields_of_read hcheck
    have hsplit : bs.take 10 ++ (bs.drop 10).take 8 ++ bs.drop 18 = bs := by
      rw [List.append_assoc, ← List.drop_drop (i := 8) (j := 10), List.take_append_drop, List.take_append_drop]
    rw [← hsplit, ← hlead, ← hcheck, ← charsBytes_of_read hname]
    simp [headerBytes, writeFields, beBytes_two, beBytes_four]
  · cases hread

theorem readFabricFields_bytes (c : FabricFields) : readFabricFields (fabricFieldsBytes c) = some c := by
  have hlead : (fabricFieldsBytes c).take 1 = writeFields [(1, c.slot.toNat)] := by
    simp [fabricFieldsBytes, List.take_append]
  have hname : ((fabricFieldsBytes c).drop 1).take 8 = charsBytes c.code := by
    simp [fabricFieldsBytes, List.drop_append, List.take_append, charsBytes]
  have hrest : (fabricFieldsBytes c).drop 9
      = writeFields [(2, c.unwind.toNat), (2, c.rewind.toNat), (2, c.compliance.toNat), (2, c.maxTemp.toNat)] := by
    simp [fabricFieldsBytes, List.drop_append, charsBytes]
  unfold readFabricFields
  rw [hlead, hname, hrest, readFields_written (ws := [1]) rfl,
    readFields_written (ws := [2, 2, 2, 2]) rfl]
  simp only [List.map_cons, List.map_nil, ofNat_mod_one, ofNat_mod_two, ofNat_mod_four, charsBytes, charsOf]

theorem fabricFieldsBytes_of_read {bs : List Byte} {c : FabricFields} (hread : readFabricFields bs = some c) :
    fabricFieldsBytes c = bs := by
  unfold readFabricFields at hread
  split at hread
  · next hlead hname hrest =>
    obtain rfl := Option.some.inj hread
    obtain ⟨-, hlead⟩ := writeFields_of_read hlead
    obtain ⟨-, hrest⟩ := writeFields_of_read hrest
    have hsplit : bs.take 1 ++ (bs.drop 1).take 8 ++ bs.drop 9 = bs := by
      rw [List.append_assoc, ← List.drop_drop (i := 8) (j := 1), List.take_append_drop, List.take_append_drop]
    rw [← hsplit, ← hlead, ← hrest, ← charsBytes_of_read hname]
    simp [fabricFieldsBytes, writeFields, beBytes_one, beBytes_two]
  · cases hread

/-! ### Payloads -/

theorem readTable_payload (slot piece : Byte) (body : TableBody) (hfits : tableBodyFits piece body = true) :
    readTable (slot :: piece :: tableBodyBytes body) = some (.table slot piece body) := by
  have hbody : readTableBody piece (tableBodyBytes body) = some body := by
    unfold readTableBody
    cases body with
    | values vs =>
      simp only [tableBodyFits, Bool.and_eq_true, decide_eq_true_eq, beq_iff_eq] at hfits
      rw [if_pos hfits.1, tableBodyBytes, ← hfits.2, readWords_wordsBytes]
      rfl
    | header h =>
      simp only [tableBodyFits, beq_iff_eq] at hfits
      rw [if_neg (by omega), if_pos hfits, tableBodyBytes, readHeader_bytes]
      rfl
    | unchecked bs =>
      simp only [tableBodyFits, decide_eq_true_eq] at hfits
      rw [if_neg (by omega), if_neg (by omega)]
      rfl
  rw [readTable, hbody]
  rfl

theorem payload_of_readTable {bs : List Byte} {r : Request} (h : readTable bs = some r) :
    requestFits r = true ∧ requestKind r = kindTable ∧ requestPayload r = bs := by
  unfold readTable at h
  split at h
  · next slot piece rest =>
    obtain ⟨body, hbody, rfl⟩ := Option.map_eq_some_iff.mp h
    have hread : tableBodyFits piece body = true ∧ tableBodyBytes body = rest := by
      unfold readTableBody at hbody
      split at hbody
      · next hpiece =>
        obtain ⟨vs, hvs, rfl⟩ := Option.map_eq_some_iff.mp hbody
        obtain ⟨hlength, hbytes⟩ := wordsBytes_of_read hvs
        exact ⟨by simp [tableBodyFits, hpiece, hlength], hbytes⟩
      · split at hbody
        · next hpiece =>
          obtain ⟨x, hx, rfl⟩ := Option.map_eq_some_iff.mp hbody
          exact ⟨by simp [tableBodyFits, hpiece], headerBytes_of_read hx⟩
        · next hlow hhigh =>
          obtain rfl := Option.some.inj hbody
          exact ⟨by simp only [tableBodyFits, decide_eq_true_eq]; omega, rfl⟩
    obtain ⟨hfits, rfl⟩ := hread
    exact ⟨hfits, rfl, rfl⟩
  · cases h

theorem readWord_payload (v : W16) : readFields [2] (writeFields [(2, v.toNat)]) = some [v.toNat % 256 ^ 2] :=
  readFields_written rfl

/-- Every request is read back from its frame. -/
theorem readRequest_requestFrame (tag : Tag) (r : Request) (hfits : requestFits r = true) :
    readRequest (requestFrame tag r) = some r := by
  cases r
  case table slot piece body => exact readTable_payload slot piece body hfits
  case lineConfig c => exact congrArg (Option.map Request.lineConfig) (readLineFields_bytes c)
  case heatConfig c => exact congrArg (Option.map Request.heatConfig) (readHeatFields_bytes c)
  case tensionConfig c => exact congrArg (Option.map Request.tensionConfig) (readTensionFields_bytes c)
  case fabricLoad c => exact congrArg (Option.map Request.fabricLoad) (readFabricFields_bytes c)
  case segmentOpen slot seg lines gap =>
    have hread := readFields_written (ws := [1, 2, 2, 4])
      (l := [(1, slot.toNat), (2, seg.toNat), (2, lines.toNat), (4, gap.toNat)]) rfl
    show readCommand (0x0D :: writeFields [(1, slot.toNat), (2, seg.toNat), (2, lines.toNat), (4, gap.toNat)]) = _
    simp only [readCommand, hread]
    simp only [List.map_cons, List.map_nil, ofNat_mod_one, ofNat_mod_two, ofNat_mod_four]
    rfl
  case segmentAbort seg =>
    show readCommand (0x0E :: writeFields [(2, seg.toNat)]) = _
    simp only [readCommand, readWord_payload, ofNat_mod_two]
    rfl
  case run speed =>
    show readCommand (0x0F :: writeFields [(2, speed.toNat)]) = _
    simp only [readCommand, readWord_payload, ofNat_mod_two]
    rfl
  case querySegment seg =>
    show readQuery (0x02 :: writeFields [(2, seg.toNat)]) = _
    simp only [readQuery, readWord_payload, ofNat_mod_two]
    rfl
  all_goals rfl

theorem writeWord_of_read {bs : List Byte} {n : Nat} (h : readFields [2] bs = some [n]) :
    writeFields [(2, (BitVec.ofNat 16 n).toNat)] = bs := by
  obtain ⟨-, hwrite⟩ := writeFields_of_read h
  rw [← hwrite]
  simp [writeFields, beBytes_two]

theorem payload_of_readCommand {bs : List Byte} {r : Request} (h : readCommand bs = some r) :
    requestFits r = true ∧ requestKind r = kindCommand ∧ requestPayload r = bs := by
  cases bs with
  | nil => cases h
  | cons code rest =>
    have hcode : ∀ n : Nat, code.toNat = n → code = BitVec.ofNat 8 n := fun n hn => by rw [← hn]; simp
    have hempty : ∀ q : Request, (if rest = [] then some q else none) = some r → rest = [] ∧ q = r := fun q hq => by
      split at hq
      · next hrest => exact ⟨hrest, Option.some.inj hq⟩
      · cases hq
    unfold readCommand at h
    simp only at h
    split at h
    case h_1 heq =>
      obtain ⟨c, hc, rfl⟩ := Option.map_eq_some_iff.mp h
      exact ⟨rfl, rfl, congrArg₂ _ (hcode _ heq).symm (lineFieldsBytes_of_read hc)⟩
    case h_2 heq =>
      obtain ⟨c, hc, rfl⟩ := Option.map_eq_some_iff.mp h
      exact ⟨rfl, rfl, congrArg₂ _ (hcode _ heq).symm (heatFieldsBytes_of_read hc)⟩
    case h_3 heq =>
      obtain ⟨c, hc, rfl⟩ := Option.map_eq_some_iff.mp h
      exact ⟨rfl, rfl, congrArg₂ _ (hcode _ heq).symm (tensionFieldsBytes_of_read hc)⟩
    case h_9 heq =>
      obtain ⟨c, hc, rfl⟩ := Option.map_eq_some_iff.mp h
      exact ⟨rfl, rfl, congrArg₂ _ (hcode _ heq).symm (fabricFieldsBytes_of_read hc)⟩
    case h_7 heq | h_8 heq | h_16 heq | h_17 heq =>
      obtain ⟨rfl, rfl⟩ := hempty _ h
      exact ⟨rfl, rfl, congrArg (· :: []) (hcode _ heq).symm⟩
    case h_4 heq | h_5 heq | h_6 heq | h_10 heq | h_11 heq | h_12 heq =>
      split at h
      · obtain rfl := Option.some.inj h
        exact ⟨rfl, rfl, congrArg (· :: _) (hcode _ heq).symm⟩
      · cases h
    case h_13 heq =>
      split at h
      · next hread =>
        obtain rfl := Option.some.inj h
        obtain ⟨-, hwrite⟩ := writeFields_of_read hread
        refine ⟨rfl, rfl, congrArg₂ _ (hcode _ heq).symm ?_⟩
        rw [← hwrite]
        simp [writeFields, beBytes_one, beBytes_two, beBytes_four]
      · cases h
    case h_14 heq | h_15 heq =>
      split at h
      · next hread =>
        obtain rfl := Option.some.inj h
        exact ⟨rfl, rfl, congrArg₂ _ (hcode _ heq).symm (writeWord_of_read hread)⟩
      · cases h
    case h_18 => cases h

theorem payload_of_readQuery {bs : List Byte} {r : Request} (h : readQuery bs = some r) :
    requestFits r = true ∧ requestKind r = kindQuery ∧ requestPayload r = bs := by
  cases bs with
  | nil => cases h
  | cons code rest =>
    have hcode : ∀ n : Nat, code.toNat = n → code = BitVec.ofNat 8 n := fun n hn => by rw [← hn]; simp
    have hempty : ∀ q : Request, (if rest = [] then some q else none) = some r → rest = [] ∧ q = r := fun q hq => by
      split at hq
      · next hrest => exact ⟨hrest, Option.some.inj hq⟩
      · cases hq
    unfold readQuery at h
    simp only at h
    split at h
    case h_1 heq | h_3 heq | h_6 heq | h_7 heq | h_8 heq =>
      obtain ⟨rfl, rfl⟩ := hempty _ h
      exact ⟨rfl, rfl, congrArg (· :: []) (hcode _ heq).symm⟩
    case h_2 heq =>
      split at h
      · next hread =>
        obtain rfl := Option.some.inj h
        exact ⟨rfl, rfl, congrArg₂ _ (hcode _ heq).symm (writeWord_of_read hread)⟩
      · cases h
    case h_4 heq | h_5 heq =>
      split at h
      · obtain rfl := Option.some.inj h
        exact ⟨rfl, rfl, congrArg (· :: _) (hcode _ heq).symm⟩
      · cases h
    case h_9 => cases h

/-- Settles O18: both directions hold of the big-endian fields, and so layout by layout. -/
theorem requestRoundTrip : Obligations.RequestRoundTrip := by
  refine ⟨readRequest_requestFrame, fun f r h => ?_⟩
  unfold readRequest at h
  split at h
  · cases h
  · next hreserved =>
    split at h
    · cases h
    · next hflags =>
      have hframe : ∀ kind, f.kind = kind → requestFits r = true ∧ requestKind r = kind ∧ requestPayload r = f.payload →
          requestFits r = true ∧ requestFrame f.tag r = { f with flags := 0 } ∧ (f.flags = 0x00 ∨ f.flags = 0x01) := by
        rintro kind hkind ⟨hfits, hrequest, hpayload⟩
        refine ⟨hfits, ?_, by tauto⟩
        unfold requestFrame
        rw [hrequest, hpayload, ← hkind, ← not_not.mp hreserved]
      split at h
      · next hkind => exact hframe _ hkind (payload_of_readTable h)
      · split at h
        · next hkind => exact hframe _ hkind (payload_of_readCommand h)
        · split at h
          · next hkind => exact hframe _ hkind (payload_of_readQuery h)
          · cases h

end Sys2Proof.Machine
end

section
/-! SUPPORT. A control frame in a state that executes it at once (R5, R6, R21, R30): each row is the arrival of its
request's frame, and an effect that does not see the control buffers comes to itself and its answer. -/

namespace Sys2Proof.Machine

/-! ### Rows and frames -/

/-- Each command of a control frame is the arrival of its request's frame (R5). -/
theorem exec_rowOf (tag : Tag) (r : Request) (s : State) :
    exec (rowOf tag r) s = .next (takeControl (requestFrame tag r) s) := by
  cases r <;> rfl

/-- A request that fails a check is answered and changes nothing (R21). -/
theorem exec_refused {tag : Tag} {r : Request} {s : State} {code : AnswerCode} {detail : Nat} (h : CanExecute s)
    (hfits : requestFits r = true) (hrefusal : refusal s r = some (code, detail)) :
    exec (rowOf tag r) s = .next (deliver (answerTo tag r code detail []) s) := by
  rw [exec_rowOf, takeControl_refused tag r s code detail h (readRequest_requestFrame tag r hfits) hrefusal]

/-- Nothing in ALC is left over for the end of the event (R173, R177, R183). -/
structure AlcQuiet (a : Alc) : Prop where
  fresh : a.fresh = []
  due : a.evalDue = false
  reaction : a.reaction = stackReaction a.stack

theorem Quiet.alcQuiet {s : State} (h : Quiet s) : AlcQuiet s.alc :=
  ⟨h.1, h.2.1, h.2.2.1⟩

theorem settle_of_alcQuiet {s : State} (h : AlcQuiet s.alc) : settle s = ltxChoose s :=
  settle_eq_choose s h.fresh h.due h.reaction

/-- The control buffers are empty and no slot is held. -/
structure BuffersEmpty (s : State) : Prop where
  execute : s.lrx.execute = none
  intake : s.lrx.intake = none
  held : s.cmuSlot = false

theorem CanExecute.buffersEmpty {s : State} (h : CanExecute s) : BuffersEmpty s :=
  ⟨h.2.2.1, h.2.2.2.1, h.2.2.2.2.1⟩

/-- Putting the buffers and the slot back undoes taking a frame (R6). -/
theorem advanceBuffers_taken (tag : Tag) (r : Request) {u : State} (h : BuffersEmpty u) :
    advanceBuffers ((executing tag r u).setCmuSlot false) = u := by
  obtain ⟨hexecute, hintake, hheld⟩ := h
  cases u with
  | mk lrx cmuSlot _ _ _ _ _ _ _ _ _ _ _ _ _ =>
    cases lrx
    simp_all [advanceBuffers, executing, State.modLrx, State.setCmuSlot, State.setLrx]

/-- A request that passes its checks comes to its effect and its answer (R6, R21, R30). -/
theorem exec_accepted {tag : Tag} {r : Request} {s u : State} {code : AnswerCode} {detail : Nat} {reply : List Byte}
    (h : CanExecute s) (hfits : requestFits r = true) (hpass : refusal s r = none)
    (heffect : perform r (executing tag r s) = (executing tag r u, .answer code detail reply))
    (halc : AlcQuiet u.alc) (hltx : u.ltx = s.ltx) (hbuffers : BuffersEmpty u) :
    exec (rowOf tag r) s = .next (deliver (answerTo tag r code detail reply) u) := by
  rw [exec_rowOf, takeControl_accepted tag r s _ code detail reply h (readRequest_requestFrame tag r hfits) hpass
    heffect
    halc.fresh halc.due halc.reaction hltx, advanceBuffers_taken tag r hbuffers]

/-- An effect that leaves ALC, LTX and the control buffers alone. -/
theorem exec_effect {tag : Tag} {r : Request} {s u : State} {code : AnswerCode} {detail : Nat} {reply : List Byte}
    (h : CanExecute s) (hfits : requestFits r = true) (hpass : refusal s r = none)
    (heffect : perform r (executing tag r s) = (executing tag r u, .answer code detail reply))
    (halc : u.alc = s.alc) (hltx : u.ltx = s.ltx) (hexecute : u.lrx.execute = s.lrx.execute)
    (hintake : u.lrx.intake = s.lrx.intake) (hheld : u.cmuSlot = s.cmuSlot) :
    exec (rowOf tag r) s = .next (deliver (answerTo tag r code detail reply) u) := by
  obtain ⟨he, hi, hc⟩ := h.buffersEmpty
  exact exec_accepted h hfits hpass heffect (halc ▸ h.1.alcQuiet) hltx
    ⟨hexecute.trans he, hintake.trans hi, hheld.trans hc⟩

/-- A request that passes the range step and the mode step is judged by its object step (R21). -/
theorem refusal_of_passes {s : State} {r : Request} (hrange : rangeOk r = true) (hmode : modeOk s r = true) :
    refusal s r = objectCheck s r := by
  simp [refusal, hrange, hmode]

/-! ### Effects that do not see the control buffers -/

theorem formSpeed_executing (tag : Tag) (r : Request) (s : State) :
    formSpeed (executing tag r s) = executing tag r (formSpeed s) := rfl

theorem formHeat_executing (tag : Tag) (r : Request) (s : State) :
    formHeat (executing tag r s) = executing tag r (formHeat s) := rfl

theorem enterMode_executing (m : LineMode) (tag : Tag) (r : Request) (s : State) :
    enterMode m (executing tag r s) = executing tag r (enterMode m s) := rfl

theorem setTension_executing (new : Option (Fin 16)) (t0 : Int) (tag : Tag) (r : Request) (s : State) :
    setTension new t0 (executing tag r s) = executing tag r (setTension new t0 s) := rfl

end Sys2Proof.Machine
end

section
/-! SUPPORT and the settling of O3, O31, O32, O33, O34 and O39: the reset state, the control buffers, the queries, and
the configuration commands whose effect is one block's. -/

namespace Sys2Proof.Machine

/-! ### The reset state -/

theorem forall_source {p : AlertSource → Prop} (h : ∀ src ∈ AlertSource.all, p src) : ∀ src, p src := fun src =>
  h src (mem_all src)

/-- Settles O3: each invariant evaluates at reset. -/
theorem invariantsAtReset : Obligations.InvariantsAtReset := by
  have htension : TensionFollows State.reset :=
    ⟨by decide, rfl, fun _ => ⟨rfl, rfl⟩, fun x hx => by cases hx⟩
  have halerts : AlertsServed State.reset :=
    ⟨forall_source (by decide), forall_source (by decide)⟩
  exact ⟨by decide, by decide, by decide, by decide, by decide, by decide, by decide, by decide, by decide, by decide,
    by decide, htension, halerts, by decide, by decide⟩

/-! ### The control buffers -/

/-- Settles O31: where the frame goes is where the buffers are EMPTY (R5, R6). -/
theorem controlBuffers : Obligations.ControlBuffers := by
  intro s tag r hquiet
  refine ⟨fun f hexecute hintake => ?_, fun f g hexecute hintake hfree => ?_, fun hcheck hexecute hintake hfull => ?_⟩
  · have hin : intakeFrame (requestFrame tag r) s = s.setLrx { s.lrx with intake := some (requestFrame tag r) } := by
      simp [intakeFrame, hexecute, hintake, State.modLrx]
    have hstill : Quiet (s.setLrx { s.lrx with intake := some (requestFrame tag r) }) :=
      quiet_congr s _ rfl rfl rfl rfl rfl hquiet
    have hfull : s.lrx.execute ≠ none := by simp [hexecute]
    rw [exec_rowOf, takeControl, hin, settle_quiet _ hstill, if_neg hfull]
  · have hin : intakeFrame (requestFrame tag r) s = queueAnswer (answerTo tag r .busy 0 []) s := by
      simp [intakeFrame, hintake, hfree, answerTo]
    simp [exec_rowOf, takeControl, hin, settle_queueAnswer _ s hquiet, hexecute]
  · have hin : intakeFrame (requestFrame tag r) s
        = s.modLrx fun l => { l with execute := some (requestFrame tag r) } := by
      simp [intakeFrame, hexecute, hintake]
    have hstill : Quiet (s.modLrx fun l => { l with execute := some (requestFrame tag r) }) :=
      quiet_congr s _ rfl rfl rfl rfl rfl hquiet
    have hnone : slotFree (s.modLrx fun l => { l with execute := some (requestFrame tag r) }) = false := hfull
    have hempty : advanceBuffers (s.modLrx fun l => { l with execute := some (requestFrame tag r) }) = s := by
      cases s with
      | mk lrx _ _ _ _ _ _ _ _ _ _ _ _ _ _ =>
        cases lrx
        simp_all [advanceBuffers, State.modLrx, State.setLrx]
    have hstart : startExecution (requestFrame tag r)
        (s.modLrx fun l => { l with execute := some (requestFrame tag r) })
        = raiseLinkError .answerOverrun (requestKind r) tag s := by
      unfold startExecution
      rw [hnone, hempty]
      rfl
    simp [exec_rowOf, takeControl, hin, settle_quiet _ hstill, hexecute, runExecute, hcheck, hstart]

/-! ### Queries -/

/-- A query that passes its checks (R33). -/
theorem exec_query {tag : Tag} {r : Request} {s : State} {reply : List Byte} (h : CanExecute s)
    (hfits : requestFits r = true) (hpass : refusal s r = none)
    (heffect : perform r (executing tag r s) = (executing tag r s, .answer .accepted 0 reply)) :
    exec (rowOf tag r) s = .next (deliver (answerTo tag r .accepted 0 reply) s) :=
  exec_effect h hfits hpass heffect rfl rfl rfl rfl rfl

/-- Settles O32: each reply record reads the state that the query finds (R33). -/
theorem queryReplies : Obligations.QueryReplies := by
  intro s tag h
  refine ⟨exec_query (r := .queryCapability) h rfl rfl rfl, fun seg r hfind => ?_,
    exec_query (r := .queryRunlist) h rfl rfl rfl, fun slot hslot => ?_, fun slot hslot => ?_,
    exec_query (r := .queryZones) h rfl rfl rfl, exec_query (r := .queryAlerts) h rfl rfl rfl,
    exec_query (r := .queryLine) h rfl rfl rfl⟩
  · have hpass : refusal s (.querySegment seg) = none := by simp [refusal, rangeOk, modeOk, objectCheck, hfind]
    have hreply : segmentReply s seg = segmentRecord r := by simp [segmentReply, hfind]
    rw [← hreply]
    exact exec_query (r := .querySegment seg) h rfl hpass rfl
  · have hpass : refusal s (.queryBank slot) = none := by simp [refusal, rangeOk, modeOk, objectCheck, hslot]
    exact exec_query (r := .queryBank slot) h rfl hpass rfl
  · have hpass : refusal s (.queryFabric slot) = none := by simp [refusal, rangeOk, modeOk, objectCheck, hslot]
    exact exec_query (r := .queryFabric slot) h rfl hpass rfl

/-! ### Groups -/

theorem vmod_eq_set {α : Type} {n : Nat} (v : Vector α n) (i : Fin n) (f : α → α) : vmod v i f = v.set i (f v[i]) := by
  rfl

/-- Settles O33: each effect writes its one group or record. -/
theorem groupsReplaced : Obligations.GroupsReplaced := by
  refine ⟨fun s tag c h hrange hmode hrls => ?_, fun s tag c h hrange => ?_, fun s tag c h hrange => ?_⟩
  · have hpass : refusal s (.lineConfig c) = none := by
      simp [refusal, rangeOk, hrange, modeOk, hmode, hrls, objectCheck]
    exact exec_effect (r := .lineConfig c) (u := lineConfigEffect c s) h rfl hpass rfl rfl rfl rfl rfl rfl
  · have hpass : refusal s (.tensionConfig c) = none := by simp [refusal, rangeOk, hrange, modeOk, objectCheck]
    exact exec_effect (r := .tensionConfig c) (u := tensionConfigEffect c s) h rfl hpass rfl rfl rfl rfl rfl rfl
  · have hobject : refusal s (.fabricLoad c) = if fabricReferenced s.tnc (fabricSlotOf c.slot) then some (.slotInUse, 0)
        else none := refusal_of_passes (r := .fabricLoad c) hrange rfl
    refine ⟨fun hfree => ?_, fun hused => exec_refused (r := .fabricLoad c) h rfl (by rw [hobject, if_pos hused])⟩
    have hpass : refusal s (.fabricLoad c) = none := by rw [hobject, hfree]; rfl
    have heffect : fabricLoadEffect c s = s.setTnc { s.tnc with
        fabrics := s.tnc.fabrics.set (fabricSlotOf c.slot) {
          record := some {
            code := c.code, unwind := c.unwind.toNat, rewind := c.rewind.toNat, compliance := c.compliance.toNat,
            maxTemp := c.maxTemp.toInt }
          segs := s.tnc.fabrics[fabricSlotOf c.slot].segs } } := by
      simp only [fabricLoadEffect, State.modTnc, vmod_eq_set]
    rw [← heffect]
    exact exec_effect (r := .fabricLoad c) (u := fabricLoadEffect c s) h rfl hpass rfl rfl rfl rfl rfl rfl

/-! ### HEAT_CONFIG -/

theorem heatConfigEffect_executing (c : HeatFields) (tag : Tag) (r : Request) (s : State) :
    heatConfigEffect c (executing tag r s) = executing tag r (heatConfigEffect c s) := by
  unfold heatConfigEffect
  simp only
  split
  · next h => rw [if_pos (show s.htc.group.dHeat = c.dHeat.toNat from h)]; rfl
  · next h => rw [if_neg (show ¬s.htc.group.dHeat = c.dHeat.toNat from h)]; rfl

theorem formHeat_aim (s : State) : ((formHeat s).htc.target, (formHeat s).htc.band,
    (formHeat s).htc.source) = heatAim s :=
  rfl

/-- The reference falls with the target in RUN alone (R100). -/
theorem formSpeed_reference (s : State) : (formSpeed s).mou.reference
    = if s.mou.mode = .run then min s.mou.reference (speedTarget s) else s.mou.reference := by
  unfold formSpeed
  simp only [State.setMou_mou]
  by_cases hmode : s.mou.mode = .run
  · by_cases hlt : speedTarget s < s.mou.reference
    · simp [hmode, hlt, min_eq_right hlt.le]
    · simp [hmode, hlt, min_eq_left (not_lt.mp hlt)]
  · simp [hmode]

/-- Settles O34: the targets are formed from the new group (R100, R150, R152). -/
theorem heatConfig : Obligations.HeatConfig := by
  intro s tag c h hrange
  have hpass : refusal s (.heatConfig c) = none := by simp [refusal, rangeOk, hrange, modeOk, objectCheck]
  have hheat : heatAim (s.modHtc fun x => { x with group := heatGroupOf c })
      = heatAim (s.setHtc { s.htc with group := heatGroupOf c }) := rfl
  have heffect : perform (.heatConfig c) (executing tag (.heatConfig c) s)
      = (executing tag (.heatConfig c) (heatConfigEffect c s), .answer .accepted 0 []) :=
    congrArg (·, accepted) (heatConfigEffect_executing c tag _ s)
  refine ⟨heatConfigEffect c s, ?_, ?_, ?_, ?_, ?_, ?_, fun hsame => ?_, fun hchanged => ⟨?_, fun hmode => ?_,
    fun hmode => ?_⟩, ?_⟩
  · exact exec_effect (r := .heatConfig c) h rfl hpass heffect (by simp) (by simp) (by simp) (by simp) (by simp)
  · unfold heatConfigEffect
    simp only
    split <;> rfl
  · unfold heatConfigEffect
    simp only
    split <;> rfl
  · simp
  · simp
  · simp
  · unfold heatConfigEffect
    simp only
    rw [if_pos hsame.symm]
    rfl
  · unfold heatConfigEffect
    simp only
    rw [if_neg fun e => hchanged e.symm]
    exact speedTarget_congr (fun _ => rfl) rfl rfl rfl rfl
  · unfold heatConfigEffect
    simp only
    rw [if_neg fun e => hchanged e.symm, formSpeed_reference]
    exact if_neg hmode
  · unfold heatConfigEffect
    simp only
    rw [if_neg fun e => hchanged e.symm, formSpeed_reference]
    refine (if_pos hmode).trans ?_
    exact congrArg _ (speedTarget_congr (fun _ => rfl) rfl rfl rfl rfl)
  · simp

end Sys2Proof.Machine
end

section
/-! SUPPORT and the settling of O39, O46 and O47: SPLICE, RUN and STOP. -/

namespace Sys2Proof.Machine

/-! ### Line modes -/

/-- The entry to a mode other than RUN, its heat target aside (R91, R100). -/
theorem enterMode_eq {m : LineMode} (hm : m ≠ .run) (s : State) : enterMode m s
    = ((s.setLrx { s.lrx with timer := timerOnMode s.mou.mode m s.line.linkTimeout s.lrx.timer }).setMou { s.mou with
        mode := m, nipClosed := false, target := 0,
        reference := if m = .standby ∨ m = .warmup ∨ m = .halted then 0 else s.mou.reference }).setHtc
          (enterMode m s).htc := by
  simp [enterMode, formHeat, formSpeed, speedTarget, hm, State.setLrx, State.setMou, State.setHtc]

theorem enterMode_aim (m : LineMode) (s : State) :
    ((enterMode m s).htc.target, (enterMode m s).htc.band, (enterMode m s).htc.source)
      = heatAim (s.setMou { s.mou with mode := m }) := rfl

theorem enterMode_htc (m : LineMode) (s : State) : (enterMode m s).htc.group = s.htc.group
    ∧ (enterMode m s).htc.zones = s.htc.zones ∧ (enterMode m s).htc.grade = s.htc.grade
    ∧ (enterMode m s).htc.pHigh = s.htc.pHigh := ⟨rfl, rfl, rfl, rfl⟩

/-- The heat target reads the live records' terms, the nip distance, D_heat, P_high, the mode and the reaction (R151).
-/
theorem heatAim_congr {s t : State}
    (hheat : (t.rls.filter Segment.live).map heatTerms = (s.rls.filter Segment.live).map heatTerms)
    (hline : t.line = s.line) (hmode : t.mou.mode = s.mou.mode) (hhigh : t.htc.pHigh = s.htc.pHigh)
    (hgroup : t.htc.group = s.htc.group) (hreaction : t.alc.reaction = s.alc.reaction) : heatAim t = heatAim s := by
  simp only [heatAim_eq, aimRecord, hheat, hline, hmode, hhigh, hgroup, hreaction]

theorem spoilArc_heatTerms (s : State) :
    ((spoilArc s).rls.filter Segment.live).map heatTerms = (s.rls.filter Segment.live).map heatTerms :=
  live_map_eq (evolves_spoilArc s) Segment.calender (spoilArc_calenders s)
    (fun _ _ h => by simp [Segment.live, h]) _ fun _ _ h _ => heatTerms_of_stays h

/-! ### SPLICE -/

theorem spliceEffect_executing (n : Fin 16) (tag : Tag) (r : Request) (s : State) :
    spliceEffect n (executing tag r s) = executing tag r (spliceEffect n s) := by
  unfold spliceEffect
  by_cases hsource : s.tnc.source = none
  · simp only [show (executing tag r s).tnc.source = none from hsource, hsource, if_true]
    rfl
  · rw [if_neg hsource, if_neg (show ¬(executing tag r s).tnc.source = none from hsource)]
    rfl

/-- While a record is the tension source, only the intake fabric changes (R71, R73). -/
theorem spliceEffect_of_source {n : Fin 16} {s : State} (h : s.tnc.source ≠ none) :
    spliceEffect n s = s.setTnc { s.tnc with intake := some n } :=
  if_neg h

/-- While the source is INTAKE, the tension fabric follows (R73, R74). -/
theorem spliceEffect_of_intake {n : Fin 16} {s : State} (h : s.tnc.source = none) :
    spliceEffect n s = setTension (some n) s.mou.p (s.setTnc { s.tnc with intake := some n }) :=
  if_pos h

theorem setTension_same {n : Fin 16} {t0 : Int} {s : State} (h : s.tnc.tension = some n) :
    setTension (some n) t0 s = s := by
  cases s
  simp_all [setTension, State.modTnc, State.setTnc]

theorem setTension_of_none {n : Fin 16} {t0 : Int} {s : State} (h : s.tnc.tension = none) :
    setTension (some n) t0 s = s.setTnc { s.tnc with tension := some n } := by
  simp [setTension, State.modTnc, h]

theorem setTension_change {o n : Fin 16} {t0 : Int} {s : State} (h : s.tnc.tension = some o) (hne : o ≠ n) :
    setTension (some n) t0 s
      = s.setTnc { s.tnc with tension := some n, taper := unlessEnded (taperStart s.tnc s.mou.p t0 o n) } := by
  simp [setTension, State.modTnc, h, hne]

/-- A taper that starts at P starts with its progress there, short of its end (R74, R75). -/
theorem unlessEnded_taperStart_here {t : Tnc} {p : Nat} {o n : Fin 16} (hlen : 1 ≤ t.group.taperLen) :
    unlessEnded (taperStart t p p o n) = some { taperStart t p p o n with q := p } := by
  have hq : (taperStart t p p o n).q = p := by simp [taperStart, clampInt]
  have hend : (taperStart t p p o n).q ≠ (taperStart t p p o n).t0 + (taperStart t p p o n).length := by
    rw [hq]
    simp only [taperStart]
    omega
  rw [unlessEnded, if_neg hend]
  exact congrArg some (congrArg (fun q => { taperStart t p p o n with q := q }) hq)

theorem exec_splice {s : State} {tag : Tag} {slot : Byte} (h : CanExecute s) (hslot : slot.toNat ≤ 15)
    (hvalid : s.tnc.fabrics[fabricSlotOf slot].record.isSome) : exec (.splice tag slot) s
      = .next (deliver (answerTo tag (.splice slot) .accepted 0 []) (spliceEffect (fabricSlotOf slot) s)) := by
  have hpass : refusal s (.splice slot) = none := by
    obtain ⟨f, hf⟩ := Option.isSome_iff_exists.mp hvalid
    have hobject : objectCheck s (.splice slot) = none := by
      simp only [objectCheck, hf]
      rfl
    simp [refusal, rangeOk, hslot, modeOk, hobject]
  have hfree : ∀ u, (spliceEffect (fabricSlotOf slot) u).alc = u.alc ∧ (spliceEffect (fabricSlotOf slot) u).ltx = u.ltx
      ∧ (spliceEffect (fabricSlotOf slot) u).lrx = u.lrx ∧ (spliceEffect (fabricSlotOf slot) u).cmuSlot = u.cmuSlot :=
        by
    intro u
    simp
  obtain ⟨halc, hltx, hlrx, hheld⟩ := hfree s
  exact exec_effect (r := .splice slot) h rfl hpass (congrArg (·, accepted) (spliceEffect_executing _ tag _ s))
    halc hltx (by rw [hlrx]) (by rw [hlrx]) hheld

/-- Settles O39: by the tension source and the tension fabric (R71, R73, R74). -/
theorem splice : Obligations.Splice := by
  rintro s tag slot n h hslot rfl
  refine ⟨fun hnone => ?_, fun hvalid => ⟨fun hkeep => ?_, fun hsource hnone => ?_, fun o hsource hold hne hlen => ?_⟩⟩
  · have hobject : objectCheck s (.splice slot) = some (.noFabric, 0) := by
      simp only [objectCheck, hnone]
      rfl
    exact exec_refused (r := .splice slot) h rfl (by simp [refusal, rangeOk, hslot, modeOk, hobject])
  · rw [exec_splice h hslot hvalid]
    by_cases hsource : s.tnc.source = none
    · have hsame := hkeep.resolve_left (not_not.mpr hsource)
      rw [spliceEffect_of_intake hsource,
        setTension_same (s := s.setTnc { s.tnc with intake := some (fabricSlotOf slot) }) hsame]
    · rw [spliceEffect_of_source hsource]
  · rw [exec_splice h hslot hvalid, spliceEffect_of_intake hsource,
      setTension_of_none (s := s.setTnc { s.tnc with intake := some (fabricSlotOf slot) }) hnone]
    rfl
  · rw [exec_splice h hslot hvalid, spliceEffect_of_intake hsource,
      setTension_change (s := s.setTnc { s.tnc with intake := some (fabricSlotOf slot) }) hold hne]
    have hrun := unlessEnded_taperStart_here (t := { s.tnc with intake := some (fabricSlotOf slot) }) (p := s.mou.p)
      (o := o) (n := fabricSlotOf slot) hlen
    refine congrArg (fun x => Host.Outcome.next (deliver (answerTo tag (.splice slot) .accepted 0 [])
      (s.setTnc { s.tnc with
      intake := some (fabricSlotOf slot), tension := some (fabricSlotOf slot), taper := x }))) hrun

/-! ### RUN -/

theorem runDirective_executing (v : Nat) (tag : Tag) (r : Request) (s : State) :
    runDirective v (executing tag r s) = executing tag r (runDirective v s) := by
  unfold runDirective
  have hmode : (executing tag r s).mou.mode = s.mou.mode := rfl
  simp only [hmode]
  split <;> rfl

theorem exec_run {s : State} {tag : Tag} {speed : W16} (h : CanExecute s) (hlow : 1 ≤ speed.toNat)
    (hhigh : speed.toNat ≤ 500) (hmode : s.mou.mode ≠ .stopping) (hstop : s.alc.reaction ≠ .stop) :
    exec (.run tag speed) s
      = .next (deliver (answerTo tag (.run speed) .accepted 0 []) (runDirective speed.toNat s)) := by
  have hpass : refusal s (.run speed) = none := by
    simp [refusal, rangeOk, inRange, hlow, hhigh, modeOk, hmode, objectCheck, hstop]
  exact exec_effect (r := .run speed) h rfl hpass (congrArg (·, accepted) (runDirective_executing _ tag _ s))
    (by simp) (by simp) (by simp) (by simp) (by simp)

/-- In RUN the reference is lowered to a target below it (R100). -/
theorem formSpeed_run {s : State} (hmode : s.mou.mode = .run) : formSpeed s
    = s.setMou { s.mou with target := speedTarget s, reference := min s.mou.reference (speedTarget s) } := by
  have href := formSpeed_reference s
  rw [if_pos hmode] at href
  unfold formSpeed at href ⊢
  simp only [State.setMou_mou] at href ⊢
  rw [href]

/-- Settles O46: by the line mode (R92). -/
theorem runDirectiveByMode : Obligations.RunDirective := by
  intro s tag speed h hlow hhigh
  have hrange : rangeOk (.run speed) = true := by simp [rangeOk, inRange, hlow, hhigh]
  refine ⟨fun hmode => ?_, fun hmode hstop => ?_, fun hstop hmode => ?_, fun hstop hmode => ?_, fun hstop hmode => ?_⟩
  · exact exec_refused (r := .run speed) h rfl (by simp [refusal, hrange, modeOk, hmode])
  · exact exec_refused (r := .run speed) h rfl (by simp [refusal, hrange, modeOk, hmode, objectCheck, hstop])
  · have heffect : runDirective speed.toNat s = enterMode .warmup (s.setMou { s.mou with requested :=
      speed.toNat }) := by
      rcases hmode with hmode | hmode <;> simp [runDirective, hmode]
    have hidle : s.mou.mode.linkTimed = false := by rcases hmode with hmode | hmode <;> simp [hmode, LineMode.linkTimed]
    have hne : s.mou.mode ≠ .stopping := by rcases hmode with hmode | hmode <;> simp [hmode]
    refine ⟨runDirective speed.toNat s, ?_, ?_, ?_⟩
    · rw [exec_run h hlow hhigh hne hstop]
      refine congrArg (fun u => Host.Outcome.next (deliver (answerTo tag (.run speed) .accepted 0 []) u)) ?_
      have heq := enterMode_eq (m := .warmup) (by decide) (s.setMou { s.mou with requested := speed.toNat })
      have hstarted : timerOnMode s.mou.mode .warmup s.line.linkTimeout s.lrx.timer = some s.line.linkTimeout := by
        rw [timerOnMode, if_pos (by rfl), hidle]
        rfl
      rw [heffect, heq]
      simp [hstarted, State.setLrx, State.setMou, State.setHtc]
    · rw [heffect, enterMode_aim]
      exact if_neg hstop
    · rw [heffect]
      exact enterMode_htc _ _
  · rw [exec_run h hlow hhigh (by simp [hmode]) hstop]
    simp [runDirective, hmode]
  · rw [exec_run h hlow hhigh (by simp [hmode]) hstop]
    have heffect : runDirective speed.toNat s = formSpeed (s.setMou { s.mou with requested := speed.toNat }) := by
      simp [runDirective, hmode]
    rw [heffect, formSpeed_run (s := s.setMou { s.mou with requested := speed.toNat }) hmode]
    rfl

/-! ### STOP -/

theorem stopDirective_executing (tag : Tag) (r : Request) (s : State) :
    stopDirective (executing tag r s) = executing tag r (stopDirective s) := by
  unfold stopDirective enterStopping
  have hmode : (executing tag r s).mou.mode = s.mou.mode := rfl
  simp only [hmode]
  split
  · rfl
  · split <;> rfl
  · rfl
  · rfl
  · rfl

theorem exec_stop {s : State} {tag : Tag} (h : CanExecute s)
    (hmode : s.mou.mode = .warmup ∨ s.mou.mode = .run ∨ s.mou.mode = .stopping) :
    exec (.stop tag) s = .next (deliver (answerTo tag .stop .accepted 0 []) (stopDirective s)) := by
  have hpass : refusal s .stop = none := by
    rcases hmode with hmode | hmode | hmode <;> simp [refusal, rangeOk, modeOk, hmode, objectCheck]
  exact exec_effect (r := .stop) h rfl hpass (congrArg (·, accepted) (stopDirective_executing tag _ s))
    (by simp) (by simp) (by simp) (by simp) (by simp)

/-- Settles O47: by the line mode (R94). -/
theorem stopDirectiveByMode : Obligations.StopDirective := by
  intro s tag h
  refine ⟨fun hmode => ?_, fun hmode => ?_, fun hmode => ?_, fun hmode => ?_⟩
  · have heffect : stopDirective s = enterMode .standby s := by simp [stopDirective, hmode]
    refine ⟨stopDirective s, ?_, ?_, ?_⟩
    · rw [exec_stop h (.inl hmode)]
      refine congrArg (fun u => Host.Outcome.next (deliver (answerTo tag .stop .accepted 0 []) u)) ?_
      have heq := enterMode_eq (m := .standby) (by decide) s
      rw [heffect, heq]
      simp [timerOnMode, LineMode.linkTimed, State.setLrx, State.setMou, State.setHtc]
    · rw [heffect, enterMode_aim]
    · rw [heffect]
      exact enterMode_htc _ _
  · have heffect : stopDirective s
        = enterMode .stopping ((spoilArc s).setMou { s.mou with cause := .directive }) := by
      simp [stopDirective, hmode, enterStopping]
    refine ⟨stopDirective s, ?_, ?_, ?_⟩
    · rw [exec_stop h (.inr (.inl hmode))]
      refine congrArg (fun u => Host.Outcome.next (deliver (answerTo tag .stop .accepted 0 []) u)) ?_
      have heq := enterMode_eq (m := .stopping) (by decide) ((spoilArc s).setMou { s.mou with cause := .directive })
      rw [heffect, heq]
      simp [timerOnMode, LineMode.linkTimed, spoilArc, Segment.setFlags, State.setLrx, State.setMou, State.setHtc,
        State.setRls]
    · rw [heffect, enterMode_aim]
      exact heatAim_congr (spoilArc_heatTerms s) (by simp) (by simp) (by simp) (by simp) (by simp)
    · rw [heffect]
      exact enterMode_htc _ _
  · rw [exec_stop h (.inr (.inr hmode))]
    simp [stopDirective, hmode]
  · exact exec_refused (r := .stop) h rfl (by
      rcases hmode with hmode | hmode <;> simp [refusal, rangeOk, modeOk, hmode])

end Sys2Proof.Machine
end

section
/-! SUPPORT and the settling of O40, O41 and O42: the profile store's commands and the end of the bank check. -/

namespace Sys2Proof.Machine

/-! ### TABLE -/

/-- TABLE's object check: the inactive bank is not under check and not DRAINING (R27, R39). -/
theorem objectCheck_table (s : State) (slot piece : Byte) (body : TableBody) : objectCheck s (.table slot piece body) =
    match (bankOf s (slotOf slot) (inactiveBank s.pfs.slots[slotOf slot])).state with
    | .checking | .draining => some (.bankBusy, 0)
    | .free | .staging | .active => none := rfl

/-- Settles O40: the inactive bank takes the clamped piece (R28, R38, R39). -/
theorem tablePiece : Obligations.TablePiece := by
  rintro s tag slot piece body _ _ h hfits hrange rfl rfl
  have hchecks : refusal s (.table slot piece body) = objectCheck s (.table slot piece body) :=
    refusal_of_passes (r := .table slot piece body) hrange rfl
  refine ⟨fun hstate => ⟨tableEffect (slotOf slot) piece.toNat body s, ?_, ?_, ?_, ?_, ?_, ?_, ?_, h.2.1⟩,
    fun hstate => ?_⟩
  · have hpass : refusal s (.table slot piece body) = none := by
      rw [hchecks, objectCheck_table]
      rcases hstate with hstate | hstate <;> rw [hstate]
    exact exec_effect (r := .table slot piece body) (u := tableEffect (slotOf slot) piece.toNat body s) h hfits hpass
      rfl
      rfl rfl rfl rfl rfl
  · rw [tableEffect, bankOf_modBank_same]
    rfl
  · rw [tableEffect, bankOf_modBank_same]
    rfl
  · rintro vs rfl
    rw [tableEffect, bankOf_modBank_same, pieceAt_writePiece, if_pos rfl]
    refine congrArg some (congrArg Piece.values (List.map_congr_left fun v _ => ?_))
    unfold clampValue
    split <;> rfl
  · rintro x rfl
    rw [tableEffect, bankOf_modBank_same, pieceAt_writePiece, if_pos rfl]
    rfl
  · intro j hj
    rw [tableEffect, bankOf_modBank_same, pieceAt_writePiece, if_neg hj]
  · exact fun m x hother => bankOf_modBank_other s _ m _ x _ hother
  · have hfail : refusal s (.table slot piece body) = some (.bankBusy, 0) := by
      rw [hchecks, objectCheck_table]
      rcases hstate with hstate | hstate <;> rw [hstate]
    exact exec_refused (r := .table slot piece body) h hfits hfail

/-! ### PROFILE_COMMIT -/

theorem complete_iff (b : Bank) : complete b = true ↔ ∀ i < 122, hasPiece b i = true := by
  simp [complete, Config.pieces]

/-- A request whose execution takes time: the frame and the slot stay where CMU has them (R6). -/
theorem exec_pending {tag : Tag} {r : Request} {s u : State} (h : CanExecute s) (hfits : requestFits r = true)
    (hpass : refusal s r = none) (heffect : perform r (executing tag r s) = (u, .pending)) (hquiet : Quiet u) :
    exec (rowOf tag r) s = .next u := by
  have hslot : slotFree (s.modLrx fun l => { l with execute := some (requestFrame tag r) }) = true := h.2.2.2.2.2
  have hexec : executeFrame (requestFrame tag r) (executing tag r s) = (u, .pending) := by
    simp [executeFrame, readRequest_requestFrame tag r hfits, hpass, heffect]
  have hstart : startExecution (requestFrame tag r)
      (s.modLrx fun l => { l with execute := some (requestFrame tag r) }) = u := by
    unfold startExecution
    rw [if_pos hslot, ← executing, hexec]
  rw [exec_rowOf, takeControl_canExecute _ s h, hstart, settle_quiet u hquiet]

/-- The banks as the check begins (R41). -/
theorem bankOf_commitEffect (n m : Fin 8) (x : BankId) (s : State) : bankOf (commitEffect n s) m x
    = bankOf (s.modBank n (inactiveBank s.pfs.slots[n]) fun b => { b with state := .checking }) m x := rfl

/-- Settles O41: the check begins, or the object check answers (R27, R41). -/
theorem profileCommit : Obligations.ProfileCommit := by
  rintro s tag slot _ _ h hslot rfl rfl
  have hrange : rangeOk (.profileCommit slot) = true := by simp [rangeOk, hslot]
  have hchecks : refusal s (.profileCommit slot) = objectCheck s (.profileCommit slot) :=
    refusal_of_passes (r := .profileCommit slot) hrange rfl
  rw [objectCheck_profileCommit] at hchecks
  refine ⟨fun hstaging hall => ⟨commitEffect (slotOf slot) s, ?_, rfl, ?_, ?_⟩, fun hstaging hmissing => ?_,
    fun hstate => ?_⟩
  · have hpass : refusal s (.profileCommit slot) = none := by
      rw [hchecks, if_neg (not_not.mpr hstaging), if_pos ((complete_iff _).mpr hall)]
    have heffect : perform (.profileCommit slot) (executing tag (.profileCommit slot) s)
        = (executing tag (.profileCommit slot) (commitEffect (slotOf slot) s), .pending) := rfl
    exact exec_pending (r := .profileCommit slot) h rfl hpass heffect (quiet_congr s _ rfl rfl rfl rfl rfl h.1)
  · rw [bankOf_commitEffect, bankOf_modBank_same]
  · intro m x hother
    rw [bankOf_commitEffect, bankOf_modBank_other s _ m _ x _ hother]
  · obtain ⟨i, hi, hno⟩ := hmissing
    have hpart : ¬complete (bankOf s (slotOf slot) (inactiveBank s.pfs.slots[slotOf slot])) = true := fun hcomplete =>
      Bool.false_ne_true (hno.symm.trans ((complete_iff _).mp hcomplete i hi))
    exact exec_refused (r := .profileCommit slot) h rfl (by
      rw [hchecks, if_neg (not_not.mpr hstaging), if_neg hpart]
      rfl)
  · exact exec_refused (r := .profileCommit slot) h rfl (by rw [hchecks, if_pos hstate])

/-! ### The execute buffer at the end of an event -/

/-- Another content of the execute buffer. -/
def withExecute (x : Option Frame) (s : State) : State :=
  s.modLrx fun l => { l with execute := x }

theorem withExecute_ltxChoose (x : Option Frame) (s : State) :
    ltxChoose (withExecute x s) = withExecute x (ltxChoose s) := by
  have hflow : flowDue (withExecute x s) = flowDue s := rfl
  have hoffer : traceOffer (withExecute x s) = traceOffer s := rfl
  have hltx : (withExecute x s).ltx = s.ltx := rfl
  unfold ltxChoose
  rw [hflow, hoffer, hltx]
  (repeat' split) <;> rfl

theorem withExecute_serve (x : Option Frame) (src : AlertSource) (s : State) :
    serve src (withExecute x s) = withExecute x (serve src s) := by
  have hqueue : ∀ (n : Notice) (u : State), queueNotice n (withExecute x u) = withExecute x (queueNotice n u) := by
    intro n u
    unfold queueNotice
    have hltx : (withExecute x u).ltx = u.ltx := rfl
    rw [hltx]
    split <;> rfl
  have halc : (withExecute x s).alc = s.alc := rfl
  have hset : ∀ a, (withExecute x s).setAlc a = withExecute x (s.setAlc a) := fun _ => rfl
  simp only [serve, halc, hset, hqueue]

theorem withExecute_evaluateRounds (x : Option Frame) (n : Nat) (s : State) :
    evaluateRounds n (withExecute x s) = withExecute x (evaluateRounds n s) := by
  induction n generalizing s with
  | zero => rfl
  | succ n ih =>
    have halc : (withExecute x s).alc = s.alc := rfl
    simp only [evaluateRounds, halc]
    split
    · rfl
    · rw [withExecute_serve, ih]

theorem withExecute_logAndEvaluate (x : Option Frame) (s : State) :
    logAndEvaluate (withExecute x s) = withExecute x (logAndEvaluate s) := by
  have halc : (withExecute x s).alc = s.alc := rfl
  rw [logAndEvaluate_eq, logAndEvaluate_eq, halc]
  split
  · exact withExecute_evaluateRounds x _ (s.modAlc afterLog)
  · rfl

theorem withExecute_stopReaction (x : Option Frame) (s : State) :
    stopReaction (withExecute x s) = withExecute x (stopReaction s) := by
  have hmou : (withExecute x s).mou = s.mou := rfl
  unfold stopReaction enterStopping
  rw [hmou]
  split <;> (try split) <;> rfl

theorem withExecute_handReaction (x : Option Frame) (s : State) :
    handReaction (withExecute x s) = withExecute x (handReaction s) := by
  have halc : (withExecute x s).alc = s.alc := rfl
  have hset : ∀ g, (withExecute x s).modAlc g = withExecute x (s.modAlc g) := fun _ => rfl
  have hform : ∀ u, formHeat (formSpeed (withExecute x u)) = withExecute x (formHeat (formSpeed u)) := fun _ => rfl
  unfold handReaction
  simp only [halc, hset, withExecute_stopReaction]
  split
  · rfl
  · split <;> exact hform _

/-- What ends an event does not see the execute buffer (R14, R173, R177, R183). -/
theorem withExecute_settle (x : Option Frame) (s : State) : settle (withExecute x s) = withExecute x (settle s) := by
  rw [settle, withExecute_logAndEvaluate, withExecute_handReaction, withExecute_ltxChoose, settle]

/-! ### BANK_CHECK_END -/

theorem runExecute_of_empty {s : State} (h : s.lrx.execute = none) : runExecute s = s := by
  unfold runExecute
  split
  · next hf => rw [h] at hf; cases hf
  · rfl

theorem exec_bankCheckEnd {s : State} {n : Fin 8} {id : BankId} {f : Frame} (hcheck : s.pfs.check = some (n, id))
    (hexecute : s.lrx.execute = some f) : exec .bankCheckEnd s = .next (runExecute (settle (endCheck n id f s))) := by
  refine congrArg Host.Outcome.next ?_
  unfold checkEnds
  rw [hcheck, hexecute]

/-- The banks once the check has ended with a match (R43). -/
theorem bankOf_commitBank (n m : Fin 8) (id x : BankId) (s : State) : bankOf (commitBank n id s) m x =
    if m = n then
      (if x = id then { bankOf s n id with state := .active, count := 0 } else supersede (bankOf s n id.other))
    else bankOf s m x := by
  by_cases hm : m = n
  · subst hm
    rw [if_pos rfl]
    by_cases hx : x = id
    · subst hx
      rw [if_pos rfl, commitBank, bankOf_modBank_other _ _ _ _ _ _ (fun h => BankId.other_ne x h.2.symm),
        bankOf_modBank_same]
    · have hother : x = id.other := by cases id <;> cases x <;> first | rfl | exact absurd rfl hx
      rw [if_neg hx, hother, commitBank, bankOf_modBank_same,
        bankOf_modBank_other _ _ _ _ _ _ (fun h => BankId.other_ne id h.2)]
  · rw [if_neg hm, commitBank, bankOf_modBank_other _ _ _ _ _ _ (fun h => hm h.1),
      bankOf_modBank_other _ _ _ _ _ _ (fun h => hm h.1)]

/-- The end of a check moves the intake buffer's frame into the execute buffer (R5, R6). -/
theorem endCheck_intake (n : Fin 8) (id : BankId) (f g : Frame) {s : State} (h : s.lrx.intake = some g) :
    endCheck n id f s = withExecute (some g) (endCheck n id f (s.setLrx { s.lrx with intake := none })) := by
  have hbank : bankOf (s.setLrx { s.lrx with intake := none }) n id = bankOf s n id := rfl
  unfold endCheck
  simp only [hbank]
  split <;> simp [finishExecution, advanceBuffers, withExecute, State.modLrx, h] <;> rfl

/-- With the intake buffer EMPTY, the execute buffer is EMPTY after an execution (R5). -/
theorem advanced_of_intake {l : Lrx} (h : l.intake = none) :
    ({ l with execute := l.intake, intake := none } : Lrx) = { l with execute := none } := by
  cases l
  simp_all

/-- What the end of a check leaves, with the profile store given (R6). -/
def afterCheck (pfs : Pfs) (s : State) : State :=
  ((s.setLrx { s.lrx with execute := none }).setCmuSlot false).setPfs pfs

theorem endCheck_match {s : State} {n : Fin 8} {id : BankId} (f : Frame) (hintake : s.lrx.intake = none)
    (hword : checkWord (bankOf s n id) = expectedWord (bankOf s n id)) :
    endCheck n id f s = queueAnswer (controlAnswer f .accepted 0 [])
      (afterCheck (commitBank n id (s.setPfs { s.pfs with check := none })).pfs s) := by
  unfold endCheck afterCheck
  simp only
  rw [if_pos hword, ← advanced_of_intake hintake]
  rfl

theorem endCheck_mismatch {s : State} {n : Fin 8} {id : BankId} (f : Frame) (hintake : s.lrx.intake = none)
    (hword : checkWord (bankOf s n id) ≠ expectedWord (bankOf s n id)) :
    endCheck n id f s = raiseOcc .profileCheck
      { seg := none, unit := some (.profileSlot n id), link := none, p := s.mou.p,
        measured := checkWord (bankOf s n id) }
      ((afterCheck (revertBank n id (s.setPfs { s.pfs with check := none })).pfs s).setLtx { s.ltx with
        answers := s.ltx.answers ++ [controlAnswer f .checkFail 0 []] }) := by
  unfold endCheck afterCheck
  simp only
  rw [if_neg hword, ← advanced_of_intake hintake]
  rfl

/-- Settles O42: the outcome by the check word, and then CMU's event for the frame that moved in (R5, R6, R43, R44). -/
theorem bankCheckEnd : Obligations.BankCheckEnd := by
  intro s n id f hquiet hcheck hexecute
  refine ⟨fun hintake hword => ?_, fun hintake hword => ?_, fun tag r hintake => ?_⟩
  · refine ⟨commitBank n id (s.setPfs { s.pfs with check := none }), ?_, rfl, ?_, ?_, ?_⟩
    · have hstill : ∀ p, Quiet (afterCheck p s) := fun p => quiet_congr s _ rfl rfl rfl rfl rfl hquiet
      rw [exec_bankCheckEnd hcheck hexecute, endCheck_match f hintake hword, settle_queueAnswer _ _ (hstill _)]
      refine congrArg Host.Outcome.next (runExecute_of_empty ?_)
      unfold deliver
      split <;> rfl
    · rw [bankOf_commitBank, if_pos rfl, if_pos rfl]
      rfl
    · rw [bankOf_commitBank, if_pos rfl, if_neg (BankId.other_ne id)]
      rfl
    · intro m x hm
      rw [bankOf_commitBank, if_neg hm]
      rfl
  · refine ⟨revertBank n id (s.setPfs { s.pfs with check := none }), ?_, rfl, ?_, ?_⟩
    · rw [exec_bankCheckEnd hcheck hexecute, endCheck_mismatch f hintake hword]
      exact congrArg Host.Outcome.next (runExecute_of_empty (by simp [afterCheck]))
    · rw [revertBank, bankOf_modBank_same]
      rfl
    · intro m x hother
      rw [revertBank, bankOf_modBank_other _ _ _ _ _ _ hother]
      rfl
  · have hempty : (endCheck n id f (s.setLrx { s.lrx with intake := none })).lrx.execute = none
        ∧ (endCheck n id f (s.setLrx { s.lrx with intake := none })).lrx.intake = none := by
      unfold endCheck
      simp only
      split <;> exact ⟨rfl, rfl⟩
    have hdone : exec .bankCheckEnd (s.setLrx { s.lrx with intake := none })
        = .next (settle (endCheck n id f (s.setLrx { s.lrx with intake := none }))) := by
      rw [exec_bankCheckEnd (s := s.setLrx { s.lrx with intake := none }) hcheck hexecute,
        runExecute_of_empty (by simp [hempty])]
    refine ⟨_, hdone, ?_⟩
    rw [exec_bankCheckEnd hcheck hexecute, endCheck_intake n id f _ hintake, withExecute_settle, exec_rowOf]
    generalize hu : settle (endCheck n id f (s.setLrx { s.lrx with intake := none })) = u
    have hstill : Quiet u := hu ▸ quiet_settle _
    obtain ⟨hexec, hin⟩ : u.lrx.execute = none ∧ u.lrx.intake = none := by
      rw [← hu]
      simpa using hempty
    have htaken : intakeFrame (requestFrame tag r) u = withExecute (some (requestFrame tag r)) u := by
      simp [intakeFrame, hin, hexec, withExecute]
    have hsettled : settle (withExecute (some (requestFrame tag r)) u) = withExecute (some (requestFrame tag r)) u :=
      settle_quiet _ (quiet_congr u _ rfl rfl rfl rfl rfl hstill)
    rw [takeControl, htaken, hsettled, if_pos hexec]

end Sys2Proof.Machine
end

section
/-! SUPPORT. Events that log and serve alerts: an evaluation in which nothing, or one source, is eligible (R173, R177 to
R179, R186), and the transmitter's choice with one answer or one notice more. -/

namespace Sys2Proof.Machine

/-! ### The transmitter's choice with one item more -/

theorem ltxChoose_of_busy {s : State} (h : s.ltx.tx ≠ .idle) : ltxChoose s = s :=
  (ltxChoose_eq_self_iff s).mpr (.inl h)

theorem deliver_of_busy {s : State} (h : s.ltx.tx ≠ .idle) (a : Answer) :
    deliver a s = s.setLtx { s.ltx with answers := s.ltx.answers ++ [a] } := by
  unfold deliver
  split
  · next hidle => exact absurd hidle h
  · rfl
  · rfl

theorem deliver_of_idle {s : State} (h : s.ltx.tx = .idle) (a : Answer) : deliver a s
    = s.setLtx { s.ltx with tx := .sending .answer (upFrame 0x81 0 a.tag (answerPayload a)) } := by
  simp only [deliver, h]

theorem ltxChoose_of_idle_answer {s : State} {a : Answer} {rest : List Answer} (hidle : s.ltx.tx = .idle)
    (hanswers : s.ltx.answers = a :: rest) : ltxChoose s = s.setLtx { s.ltx with
      answers := rest, tx := .sending .answer (upFrame 0x81 0 a.tag (answerPayload a)) } := by
  simp only [ltxChoose, hidle, hanswers]

theorem deliverNotice_of_busy {s : State} (h : s.ltx.tx ≠ .idle) (n : Notice) :
    deliverNotice n s.ltx = (queueNotice n s).ltx := by
  have hqueue : (queueNotice n s).ltx = if s.ltx.notices.length < 8 then
      { s.ltx with notices := s.ltx.notices ++ [n] } else { s.ltx with overrun := true } :=
    apply_ite State.ltx _ _ _
  rw [hqueue, deliverNotice]
  split
  · next hidle => exact absurd hidle h
  · rfl
  · rfl

/-- With an answer more than in a state in which it has nothing to choose, LTX takes that in IDLE (R14 to R16). -/
theorem ltxChoose_of_answer {s v : State} {a : Answer} (h : NothingToChoose s)
    (htx : v.ltx.tx = s.ltx.tx) (hanswers : v.ltx.answers = s.ltx.answers ++ [a]) :
    (ltxChoose v).ltx.tx = (deliver a s).ltx.tx ∧ (ltxChoose v).ltx.answers = (deliver a s).ltx.answers := by
  by_cases hidle : s.ltx.tx = .idle
  · obtain ⟨hnone, -⟩ := h.resolve_left (not_not.mpr hidle)
    rw [hnone] at hanswers
    rw [ltxChoose_of_idle_answer (htx.trans hidle) hanswers, deliver_of_idle hidle]
    exact ⟨rfl, hnone.symm⟩
  · rw [ltxChoose_of_busy (by rwa [htx]), deliver_of_busy hidle]
    exact ⟨htx, hanswers⟩

/-- As `ltxChoose_of_answer`, for the whole transmitter. -/
theorem ltxChoose_of_queueAnswer {s v : State} {a : Answer} (h : NothingToChoose s)
    (hltx : v.ltx = { s.ltx with answers := s.ltx.answers ++ [a] }) :
    ltxChoose v = v.setLtx (deliver a s).ltx := by
  by_cases hidle : s.ltx.tx = .idle
  · obtain ⟨hnone, -⟩ := h.resolve_left (not_not.mpr hidle)
    have hqueued : v.ltx.answers = [a] := by rw [hltx, hnone]; rfl
    rw [ltxChoose_of_idle_answer (by rw [hltx]; exact hidle) hqueued, deliver_of_idle hidle, hltx]
    simp only [State.setLtx_ltx]
    rw [← hnone]
  · rw [ltxChoose_of_busy (by rw [hltx]; exact hidle), deliver_of_busy hidle, State.setLtx_ltx, ← hltx]
    rfl

/-- With a notice more than in a state in which it has nothing to choose, LTX takes that in IDLE (R14, R17, R186). -/
theorem ltxChoose_of_queueNotice {s v : State} {n : Notice} (h : NothingToChoose s)
    (hltx : v.ltx = (queueNotice n s).ltx) (hline : v.line = s.line) (hlst : v.lst = s.lst) :
    ltxChoose v = v.setLtx (deliverNotice n s.ltx) := by
  obtain ⟨htx, -⟩ := queueNotice_frame n s
  by_cases hidle : s.ltx.tx = .idle
  · obtain ⟨hanswers, hflow, hnotices, -⟩ := h.resolve_left (not_not.mpr hidle)
    have hqueued : v.ltx = { s.ltx with notices := [n] } := by
      rw [hltx]
      simp [queueNotice, hnotices, Config.noticePlaces]
    have hnoflow : flowDue v = none := by
      rw [← hflow]
      unfold flowDue freeCount
      rw [hqueued, hline, hlst]
    unfold ltxChoose
    rw [hnoflow, hqueued]
    simp only [hidle, hanswers, deliverNotice]
    rw [← hnotices]
  · rw [ltxChoose_of_busy (by rwa [hltx, htx]), deliverNotice_of_busy hidle, ← hltx]
    rfl

/-! ### Evaluations -/

/-- With no source eligible an evaluation serves none (R177). -/
theorem evaluateRounds_of_none (n : Nat) {s : State} (h : ∀ src, eligible s.alc src = false) :
    evaluateRounds n s = s := by
  have hnext : nextServed s.alc = none := by
    cases hn : nextServed s.alc with
    | none => rfl
    | some src => exact absurd (eligible_of_nextServed hn) (by simp [h src])
  cases n with
  | zero => rfl
  | succ n => simp [evaluateRounds, hnext]

theorem evaluate_of_none {s : State} (h : ∀ src, eligible s.alc src = false) : evaluate s = s :=
  evaluateRounds_of_none _ h

/-- The source served next is served, and where none is eligible then, that is all (R177). -/
theorem evaluate_of_next {s : State} {src : AlertSource} (hnext : nextServed s.alc = some src)
    (hthen : ∀ x, eligible (serve src s).alc x = false) : evaluate s = serve src s := by
  have hround : evaluate s = evaluateRounds 12 (serve src s) := by
    show evaluateRounds 13 s = _
    rw [evaluateRounds, hnext]
  rw [hround, evaluateRounds_of_none 12 hthen]

/-- One eligible source is served, and no other (R177). -/
theorem evaluate_of_one {s : State} {src : AlertSource} (hlatched : ConditionsLatched s.alc)
    (helig : eligible s.alc src = true) (hothers : ∀ x, x ≠ src → eligible s.alc x = false) :
    evaluate s = serve src s := by
  refine evaluate_of_next ?_ fun x => ?_
  · cases hn : nextServed s.alc with
    | none => exact absurd (not_eligible_of_nextServed hn src) (by simp [helig])
    | some x =>
      by_contra hne
      exact absurd (eligible_of_nextServed hn) (by simp [hothers x fun e => hne (by rw [e])])
  · by_contra hx
    obtain ⟨hbefore, hne⟩ := eligible_serve hlatched helig (by simpa using hx)
    exact absurd hbefore (by simp [hothers x hne])

/-! ### One serve -/

/-- The notice of a serve (R186). -/
def servedNotice (a : Alc) (src : AlertSource) (depth : Nat) : Notice where
  source := src
  level := (pushedEntry a src).level
  grade := (pushedEntry a src).grade
  mode := a.config[src.index].mode
  merge := (pushedEntry a src).merge
  depth := depth
  ctx := (pushedEntry a src).ctx

theorem serve_fast {src : AlertSource} {s : State} (h : s.alc.config[src.index].mode = .fast) :
    serve src s = queueNotice (servedNotice s.alc src s.alc.stack.length)
      (s.setAlc { s.alc with occ := s.alc.occ.set src.index none }) := by
  simp only [serve, h]
  simp only [servedNotice, pushedEntry, h, List.length_cons]

theorem serve_latched {src : AlertSource} {s : State} (h : s.alc.config[src.index].mode = .latched) :
    serve src s = queueNotice (servedNotice s.alc src (s.alc.stack.length + 1))
      (s.setAlc { s.alc with
        occ := s.alc.occ.set src.index none, stack := pushedEntry s.alc src :: s.alc.stack }) := by
  simp only [serve, h]
  simp only [servedNotice, pushedEntry, h, List.length_cons]

/-! ### The log -/

/-- With one source newly pending, that is logged (R173). -/
theorem logFresh_one {a : Alc} {src : AlertSource} (h : a.fresh = [src]) : logFresh a = logOne a src := by
  have hone : (AlertSource.all.filter fun x => decide (x ∈ [src])) = [src] := by cases src <;> rfl
  rw [logFresh, h, hone]
  rfl

theorem logOne_eq_logged {a : Alc} {src : AlertSource} {ctx : Context} (h : pendingCtx a src = some ctx) :
    logOne a src = logged src ctx a := by
  unfold logOne logged
  rw [h]
  cases a.firstAlert <;> rfl

/-- ALC once one source newly pending has been logged (R173). -/
theorem afterLog_one {a : Alc} {src : AlertSource} {ctx : Context} (hfresh : a.fresh = [src])
    (hctx : pendingCtx a src = some ctx) : afterLog a = { logged src ctx a with fresh := [], evalDue := false } := by
  rw [afterLog, logFresh_one hfresh, logOne_eq_logged hctx]

/-- With nothing newly pending, nothing is logged (R173). -/
theorem afterLog_none {a : Alc} (hfresh : a.fresh = []) : afterLog a = { a with fresh := [], evalDue := false } := by
  rw [afterLog, logFresh_nil a hfresh]

end Sys2Proof.Machine
end

section
/-! SUPPORT and the settling of O36, O37 and O38: the alert commands. -/

namespace Sys2Proof.Machine

/-! ### An execution that ends at once -/

/-- A request that passes its checks and is answered at once, whatever else its execution raises (R6, R21, R30). -/
theorem exec_answered {tag : Tag} {r : Request} {s v : State} {code : AnswerCode} {detail : Nat} {reply : List Byte}
    (h : CanExecute s) (hfits : requestFits r = true) (hpass : refusal s r = none)
    (heffect : perform r (executing tag r s) = (v, .answer code detail reply)) :
    exec (rowOf tag r) s
      = .next (settle (queueAnswer (answerTo tag r code detail reply) (advanceBuffers (v.setCmuSlot false)))) := by
  have hslot : slotFree (s.modLrx fun l => { l with execute := some (requestFrame tag r) }) = true := h.2.2.2.2.2
  have hexec : executeFrame (requestFrame tag r) (executing tag r s) = (v, .answer code detail reply) := by
    simp [executeFrame, readRequest_requestFrame tag r hfits, hpass, heffect]
  have hstart : startExecution (requestFrame tag r)
      (s.modLrx fun l => { l with execute := some (requestFrame tag r) })
      = finishExecution (requestFrame tag r) code detail reply v := by
    unfold startExecution
    rw [if_pos hslot, ← executing, hexec]
  rw [exec_rowOf, takeControl_canExecute _ s h, hstart]
  rfl

/-- As `exec_answered`, for an effect that does not see the control buffers. -/
theorem exec_settled {tag : Tag} {r : Request} {s u : State} {code : AnswerCode} {detail : Nat} {reply : List Byte}
    (h : CanExecute s) (hfits : requestFits r = true) (hpass : refusal s r = none)
    (heffect : perform r (executing tag r s) = (executing tag r u, .answer code detail reply))
    (hbuffers : BuffersEmpty u) :
    exec (rowOf tag r) s = .next (settle (queueAnswer (answerTo tag r code detail reply) u)) := by
  rw [exec_answered h hfits hpass heffect, advanceBuffers_taken tag r hbuffers]

/-- At the end of an event the answer is queued or chosen, whatever else the event has raised (R14, R15, R16). -/
theorem settle_queueAnswer_ltx {s v : State} (a : Answer) (h : Quiet s) (hltx : v.ltx = s.ltx) :
    (settle (queueAnswer a v)).ltx.tx = (deliver a s).ltx.tx
      ∧ (settle (queueAnswer a v)).ltx.answers = (deliver a s).ltx.answers := by
  have hnothing := (ltxChoose_eq_self_iff s).mp h.2.2.2
  refine ltxChoose_of_answer (a := a) hnothing ?_ ?_
  · simp [queueAnswer, hltx]
  · simp [queueAnswer, hltx]

/-! ### ALERT_CONFIG -/

theorem sourceOf_index (src : AlertSource) : sourceOf src.index.val = src := by
  cases src <;> rfl

theorem rank_gradeOf {n : Nat} (h : n ≤ 3) : (gradeOf n).rank = n := by
  interval_cases n <;> rfl

theorem set_index_of_ne {α : Type} (v : Vector α 13) (x : α) {src other : AlertSource} (h : other ≠ src) :
    (v.set src.index x)[other.index] = v[other.index] := by
  have hne : (src.index : Nat) ≠ other.index := fun e => h (index_injective (Fin.ext e.symm))
  simp [hne]

/-- A source that has no occurrence pending has none after any serves (R178, R179). -/
theorem occ_none_evaluateRounds (n : Nat) {s : State} {src : AlertSource} (h : s.alc.occ[src.index] = none) :
    (evaluateRounds n s).alc.occ[src.index] = none := by
  induction n generalizing s with
  | zero => exact h
  | succ n ih =>
    rw [evaluateRounds]
    cases nextServed s.alc with
    | none => exact h
    | some x =>
      refine ih ?_
      rw [(serve_alc x s).1]
      by_cases hx : src = x
      · subst hx
        simp
      · rw [set_index_of_ne _ _ hx, h]

theorem occ_none_settle {s : State} {src : AlertSource} (h : s.alc.occ[src.index] = none) :
    (settle s).alc.occ[src.index] = none := by
  have hlogged : (s.modAlc afterLog).alc.occ[src.index] = none := by simpa [afterLog] using h
  obtain ⟨-, -, -, -, -, -, -, hocc, -⟩ := settle_alc_frame s
  rw [hocc, logAndEvaluate_eq]
  split
  · exact occ_none_evaluateRounds _ hlogged
  · exact hlogged

/-- The three parts of one source's configuration are replaced together (R168). -/
theorem alertConfigEffect_config {source : Nat} {src : AlertSource} (level grade mode : Nat) (s : State)
    (h : sourceOf source = src) : (alertConfigEffect source level grade mode s).alc.config
      = s.alc.config.set src.index {
          level := levelOf level
          grade := gradeOf grade
          mode := if mode = 1 then .fast else .latched } := by
  subst h
  rfl

/-- Settles O36: the named source's configuration is replaced, and what an OFF source had pending is gone (R168,
R169). -/
theorem alertConfig : Obligations.AlertConfig := by
  intro s tag source level grade mode src h hrange hsrc
  have hok : inRange 3 source.toNat 12 = true ∧ (level.toNat ≤ 2 ∨ level.toNat = 0xFF) ∧ grade.toNat ≤ 3 := by
    simp only [alertRangeOk, Bool.and_eq_true, Bool.or_eq_true, decide_eq_true_eq] at hrange
    obtain ⟨⟨⟨⟨hsource, hlevel⟩, hgrade⟩, -⟩, -⟩ := hrange
    exact ⟨hsource, hlevel, hgrade⟩
  obtain ⟨-, hlevel, hgrade⟩ := hok
  have hpass : refusal s (.alertConfig source level grade mode) = none := by
    simp [refusal, rangeOk, hrange, modeOk, objectCheck]
  have hname : sourceOf source.toNat = src := by rw [← hsrc, sourceOf_index]
  have hexec := exec_settled (r := .alertConfig source level grade mode) (tag := tag)
    (u := alertConfigEffect source.toNat level.toNat grade.toNat mode.toNat s) h rfl hpass rfl
    ⟨h.buffersEmpty.1, h.buffersEmpty.2, h.buffersEmpty.3⟩
  obtain ⟨htx, hanswers⟩ := settle_queueAnswer_ltx (answerTo tag (.alertConfig source level grade mode) .accepted 0 [])
    (v := alertConfigEffect source.toNat level.toNat grade.toNat mode.toNat s) h.1 rfl
  have hocc : level.toNat = 0xFF →
      (alertConfigEffect source.toNat level.toNat grade.toNat mode.toNat s).alc.occ[src.index] = none := by
    intro hoff
    simp [alertConfigEffect, hname, levelOf, hoff]
  have hconfig := alertConfigEffect_config level.toNat grade.toNat mode.toNat s hname
  refine ⟨_, hexec, htx, hanswers, ?_, ?_, ?_, fun other hother => ?_, fun hoff => occ_none_settle (hocc hoff), ?_⟩
  · simp [queueAnswer, hconfig, levelOf]
  · simp [queueAnswer, hconfig, rank_gradeOf hgrade]
  · simp [queueAnswer, hconfig]
  · simp only [settle_alc_frame, queueAnswer, State.setLtx_alc, hconfig]
    exact set_index_of_ne _ _ hother
  · simp

/-! ### ALERT_HOLD, ALERT_LOG_RESET, and what a serve clears -/

/-- An occurrence held by a condition source: no event makes it, and no rule reads it. -/
def strayOccurrence : Occurrence where
  merge := 1
  ctx := { seg := none, unit := none, link := none, p := 0, measured := 0 }

/-- The reset state with an occurrence stored for WEB_BREAK, a condition source. -/
def strayState : State :=
  State.reset.setAlc { State.reset.alc with
    occ := State.reset.alc.occ.set AlertSource.webBreak.index (some strayOccurrence) }

/-- Refutes O37: the statement's last clause keeps ALC's occurrences when a condition is served LATCHED, and the serve
clears the source's own (R179). Nothing in its premises makes a condition source's occurrence absent: WEB_BREAK begins
in the reset state with one stored, is servable, and has none afterwards. -/
theorem not_alertHoldAndLogReset : ¬ Obligations.AlertHoldAndLogReset := by
  rintro ⟨-, -, -, hbegin⟩
  have hquiet : Quiet strayState := by decide
  have hserved : AlertsServed strayState := ⟨forall_source (by decide), forall_source (by decide)⟩
  obtain ⟨-, hserve⟩ := hbegin strayState _ _ .webBreak strayOccurrence.ctx hquiet hserved rfl rfl rfl
  obtain ⟨-, hlatched⟩ := hserve 3 .stop .latched rfl (by decide)
  obtain ⟨halc, -⟩ := hlatched (by decide)
  have hocc := congrArg (fun a : Alc => a.occ[AlertSource.webBreak.index]) halc
  have hbefore : (settle (beginCond .webBreak strayOccurrence.ctx strayState)).alc.occ[AlertSource.webBreak.index]
      = none := by rfl
  rw [hbefore] at hocc
  exact absurd hocc (by decide)

/-! ### ALERT_CLEAR -/

/-- The evaluation point without anything newly pending or eligible leaves ALC as it is but for its mark (R177). -/
theorem logAndEvaluate_of_none {s : State} (hfresh : s.alc.fresh = []) (h : ∀ src, eligible s.alc src = false) :
    logAndEvaluate s = s.setAlc { s.alc with fresh := [], evalDue := false } := by
  have hlog : s.modAlc afterLog = s.setAlc { s.alc with fresh := [], evalDue := false } := by
    rw [State.modAlc, afterLog_none hfresh]
  rw [logAndEvaluate_eq, hlog]
  split
  · exact evaluate_of_none h
  · rfl

theorem Grade.max_assoc (g h k : Grade) : (g.max h).max k = g.max (h.max k) := by
  cases g <;> cases h <;> cases k <;> rfl

theorem foldl_max (l : List StackEntry) (g : Grade) :
    l.foldl (fun g e => g.max e.grade) g = g.max (stackReaction l) := by
  induction l generalizing g with
  | nil => cases g <;> rfl
  | cons e l ih =>
    have hnote : Grade.note.max e.grade = e.grade := by cases e.grade <;> rfl
    rw [stackReaction, List.foldl_cons, List.foldl_cons, ih, ih, hnote, Grade.max_assoc]

/-- The reaction of a stack with one entry more (R180). -/
theorem stackReaction_cons (e : StackEntry) (l : List StackEntry) :
    stackReaction (e :: l) = e.grade.max (stackReaction l) := by
  have hnote : Grade.note.max e.grade = e.grade := by cases e.grade <;> rfl
  rw [stackReaction, List.foldl_cons, foldl_max, hnote]

/-- With STOP not newly in force, the line mode stays as the reaction is handed on (R95, R183). -/
theorem handReaction_mode {s : State} (h : stackReaction s.alc.stack = .stop → s.alc.reaction = .stop) :
    (handReaction s).mou.mode = s.mou.mode := by
  unfold handReaction
  simp only
  split
  · rfl
  · next hne =>
    rw [if_neg fun hstop => hne (hstop.trans (h hstop).symm)]
    simp

theorem alertClearEffect_eq {s : State} {e : StackEntry} {rest : List StackEntry} (h : s.alc.stack = e :: rest) :
    alertClearEffect s = s.setAlc { s.alc with
      stack := rest
      fresh := if e.source.isCondition = true ∧ s.alc.holds[e.source.index] = true
          ∧ s.alc.config[e.source.index].level ≠ none then s.alc.fresh ++ [e.source] else s.alc.fresh
      evalDue := true } := by
  rw [alertClearEffect, State.modAlc, h]

theorem exec_alertClear {s : State} {tag : Tag} {e : StackEntry} {rest : List StackEntry} (h : CanExecute s)
    (hstack : s.alc.stack = e :: rest) : exec (.alertClear tag) s = .next (settle (queueAnswer
      (answerTo tag .alertClear .accepted e.source.index.val []) (alertClearEffect s))) := by
  have hpass : refusal s .alertClear = none := by simp [refusal, rangeOk, modeOk, objectCheck, hstack]
  have heffect : perform .alertClear (executing tag .alertClear s)
      = (executing tag .alertClear (alertClearEffect s), .answer .accepted (topSourceNumber s) []) := rfl
  have htop : topSourceNumber s = e.source.index.val := by rw [topSourceNumber, hstack]
  rw [htop] at heffect
  exact exec_settled (r := .alertClear) h rfl hpass heffect ⟨h.buffersEmpty.1, h.buffersEmpty.2, h.buffersEmpty.3⟩

/-- A popped condition that still holds and is not OFF is pending again (R170, R182). -/
theorem pending_of_popped {s : State} {e : StackEntry} {rest : List StackEntry} (hord : StackOrdered s)
    (hstack : s.alc.stack = e :: rest) (hcond : e.source.isCondition = true)
    (hholds : s.alc.holds[e.source.index] = true) (hlevel : s.alc.config[e.source.index].level ≠ none) :
    sourcePending { s.alc with stack := rest } e.source = true := by
  obtain ⟨-, hnodup, -⟩ := hord
  rw [hstack, List.map_cons, List.nodup_cons] at hnodup
  have hoff : onStack { s.alc with stack := rest } e.source = false :=
    onStack_eq_false_iff.mpr fun x hx hsame => hnodup.1 (hsame ▸ List.mem_map_of_mem hx)
  simp only [sourcePending, hcond, hoff, if_true, Bool.and_eq_true, decide_eq_true_eq, Bool.not_false, and_true]
  exact ⟨hholds, hlevel⟩

/-- Popping the top entry never brings STOP into force (R180). -/
theorem stop_of_popped {s : State} {e : StackEntry} {rest : List StackEntry} (hord : StackOrdered s)
    (hstack : s.alc.stack = e :: rest) (hstop : stackReaction rest = .stop) : s.alc.reaction = .stop := by
  rw [hord.2.2, hstack, stackReaction_cons, hstop]
  cases e.grade <;> rfl

/-- An eligible source of level 3 and number 0 is served before any other (R177). -/
theorem nextServed_webBreak {a : Alc} (helig : eligible a .webBreak = true)
    (hlevel : a.config[AlertSource.webBreak.index].level = some 3) : nextServed a = some .webBreak := by
  have hstays : ∀ l : List AlertSource, l.foldl (better a) (some .webBreak) = some .webBreak := by
    intro l
    induction l with
    | nil => rfl
    | cons x l ih =>
      have hbest : better a (some .webBreak) x = some .webBreak := by
        have hmax : ¬(3 : Fin 4) < a.config[x.index].level.getD 0 := by omega
        simp only [better, hlevel, Option.getD_some, if_neg hmax, ite_self]
      rw [List.foldl_cons, hbest, ih]
  have hfirst : better a none .webBreak = some .webBreak := by simp [better, helig]
  rw [nextServed_eq, AlertSource.all, List.foldl_cons, hfirst, hstays]

/-- Above an entry of level 3 no source is eligible (R176). -/
theorem not_eligible_above_three {a : Alc} {e : StackEntry} {rest : List StackEntry} (hstack : a.stack = e :: rest)
    (hlevel : e.level = 3) (src : AlertSource) : eligible a src = false := by
  by_contra helig
  obtain ⟨-, l, -, -, htop, -⟩ := eligible_iff.mp (by simpa using helig)
  rcases htop with hnil | ⟨top, below, hcons, hlt⟩
  · rw [hstack] at hnil
    cases hnil
  · obtain ⟨rfl, -⟩ := List.cons.inj (hstack.symm.trans hcons)
    rw [hlevel] at hlt
    omega

/-- ALERT_CLEAR with nothing pending after the pop (R181). -/
theorem settle_popped {s : State} {e : StackEntry} {rest : List StackEntry} (a : Answer) (hquiet : Quiet s)
    (hord : StackOrdered s) (hstack : s.alc.stack = e :: rest)
    (hnone : ∀ src, sourcePending { s.alc with stack := rest } src = false) :
    settle (queueAnswer a (alertClearEffect s))
      = (handReaction (queueAnswer a (s.setAlc { s.alc with stack := rest }))).setLtx (deliver a s).ltx := by
  have hfresh : ¬(e.source.isCondition = true ∧ s.alc.holds[e.source.index] = true
      ∧ s.alc.config[e.source.index].level ≠ none) := fun ⟨hcond, hholds, hlevel⟩ =>
    Bool.false_ne_true ((hnone e.source).symm.trans (pending_of_popped hord hstack hcond hholds hlevel))
  have heffect : alertClearEffect s = s.setAlc { s.alc with stack := rest, evalDue := true } := by
    rw [alertClearEffect_eq hstack, if_neg hfresh]
  have hquietAlc : ({ s.alc with stack := rest, fresh := [], evalDue := false } : Alc) = { s.alc with stack :=
    rest } := by
    obtain ⟨hf, hd, -⟩ := hquiet
    rw [← hf, ← hd]
  have hlogged : logAndEvaluate (queueAnswer a (alertClearEffect s))
      = queueAnswer a (s.setAlc { s.alc with stack := rest }) := by
    rw [logAndEvaluate_of_none, heffect, ← hquietAlc]
    · rfl
    · rw [heffect]
      exact hquiet.1
    · intro src
      by_contra helig
      obtain ⟨hpend, -⟩ := eligible_iff.mp (by simpa using helig)
      rw [heffect] at hpend
      exact Bool.false_ne_true ((hnone src).symm.trans hpend)
  rw [settle, hlogged]
  exact ltxChoose_of_queueAnswer ((ltxChoose_eq_self_iff s).mp hquiet.2.2.2) (by simp [queueAnswer])

/-- The log keeps all but its own two parts (R173). -/
@[simp] theorem logged_frame (src : AlertSource) (ctx : Context) (a : Alc) :
    (logged src ctx a).config = a.config ∧ (logged src ctx a).holds = a.holds
      ∧ (logged src ctx a).condCtx = a.condCtx ∧ (logged src ctx a).occ = a.occ ∧ (logged src ctx a).stack = a.stack
      ∧ (logged src ctx a).threshold = a.threshold ∧ (logged src ctx a).reaction = a.reaction := by
  unfold logged
  split <;> simp

/-- Settles O38: the stack that the pop leaves, or the web break's entry pushed again (R181, R182). -/
theorem alertClear : Obligations.AlertClear := by
  refine ⟨fun s tag e rest h hord hstack hnone => ?_,
    fun s tag e rest ctx h hord hstack hsource hlevel hgrade hconfig hholds hctx => ?_⟩
  · refine ⟨_, exec_alertClear h hstack, ?_⟩
    rw [settle_popped _ h.1 hord hstack hnone]
    refine ⟨rfl, ?_, ?_, by simp [queueAnswer], by simp [queueAnswer], by simp [queueAnswer], by simp [queueAnswer],
      by simp [queueAnswer], by simp [queueAnswer]⟩
    · rw [State.setLtx_alc, handReaction_alc]
      rfl
    · exact handReaction_mode (s := queueAnswer _ (s.setAlc { s.alc with stack := rest }))
        (fun hstop => stop_of_popped (s := s) hord hstack hstop)
  · obtain ⟨source, level, grade, merge, old⟩ := e
    obtain rfl : source = .webBreak := hsource
    obtain rfl : level = 3 := hlevel
    obtain rfl : grade = .stop := hgrade
    generalize ha : answerTo tag .alertClear .accepted AlertSource.webBreak.index.val [] = a
    have hexec := exec_alertClear (tag := tag) h hstack
    rw [ha] at hexec
    refine ⟨_, hexec, ?_⟩
    have hcond : AlertSource.webBreak.isCondition = true := rfl
    have heffect : alertClearEffect s = s.setAlc { s.alc with stack := rest, fresh := [.webBreak], evalDue :=
      true } := by
      obtain ⟨hf, -⟩ := h.1
      rw [alertClearEffect_eq hstack, if_pos ⟨hcond, hholds, by rw [hconfig]; simp⟩, hf]
      rfl
    generalize hw : (queueAnswer a (alertClearEffect s)).modAlc afterLog = w
    have hwalc : w.alc = { logged .webBreak ctx { s.alc with stack := rest, fresh := [.webBreak], evalDue := true } with
        fresh := [], evalDue := false } := by
      rw [← hw, heffect]
      exact afterLog_one rfl hctx
    obtain ⟨hwconfig, hwstack, hwctx, hwreaction⟩ : w.alc.config = s.alc.config ∧ w.alc.stack = rest
        ∧ w.alc.condCtx = s.alc.condCtx ∧ w.alc.reaction = s.alc.reaction := by
      rw [hwalc]
      simp
    have hwmou : w.mou = s.mou := by
      rw [← hw, heffect]
      rfl
    have hord' := hord
    obtain ⟨hpairwise, hnodup, -⟩ := hord
    rw [hstack] at hpairwise hnodup
    have helig : eligible w.alc .webBreak = true := by
      refine eligible_iff.mpr ⟨?_, 3, by rw [hwconfig, hconfig], .inl rfl, ?_, ?_⟩
      · have hpend := pending_of_popped hord' hstack hcond hholds (by rw [hconfig]; simp)
        have hsame : sourcePending w.alc .webBreak = sourcePending { s.alc with stack := rest } .webBreak := by
          rw [hwalc]
          simp [sourcePending, onStack]
        rw [hsame, hpend]
      · rw [hwstack]
        cases rest with
        | nil => exact .inl rfl
        | cons x below => exact .inr ⟨x, below, rfl, (List.pairwise_cons.mp hpairwise).1 x List.mem_cons_self⟩
      · rw [hwstack]
        rw [List.map_cons, List.nodup_cons] at hnodup
        exact fun x hx hsame => hnodup.1 (List.mem_map.mpr ⟨x, hx, hsame⟩)
    have hentry : pushedEntry w.alc .webBreak
        = { source := .webBreak, level := 3, grade := .stop, merge := 1, ctx := ctx } := by
      have hpending : pendingCtx w.alc .webBreak = some ctx := by rw [pendingCtx, if_pos hcond, hwctx, hctx]
      simp only [pushedEntry, hwconfig, hconfig, hpending, hcond]
      rfl
    have hserved := serve_alc_stack_latched (src := .webBreak) (s := w) (by rw [hwconfig, hconfig])
    rw [hentry, hwstack] at hserved
    have hlogged : logAndEvaluate (queueAnswer a (alertClearEffect s)) = serve .webBreak w := by
      rw [logAndEvaluate_eq, hw, if_pos (by rw [heffect]; rfl)]
      exact evaluate_of_next (nextServed_webBreak helig (by rw [hwconfig, hconfig]))
        (not_eligible_above_three hserved rfl)
    have hreaction : stackReaction (serve .webBreak w).alc.stack = s.alc.reaction := by
      rw [hserved, hord'.2.2, hstack, stackReaction_cons, stackReaction_cons]
    have hsettled : settle (queueAnswer a (alertClearEffect s)) = ltxChoose (serve .webBreak w) := by
      rw [settle, hlogged, handReaction_same _ (by rw [hreaction]; simp [hwreaction])]
    rw [hsettled]
    exact ⟨by simpa using hserved, by simpa using hwreaction, by simp [hwmou]⟩

end Sys2Proof.Machine
end

section
/-! SUPPORT and the settling of O20, O21, O24, O25, O27 and O29: the symbols of the downstream lane and the link timer.
  -/

namespace Sys2Proof.Machine

/-! ### What ends an event on the lane -/

/-- Where LTX has no answer to choose, the answers queued stay (R14 to R16). -/
theorem settle_answers {s : State} (h : s.ltx.tx ≠ .idle ∨ s.ltx.answers = []) :
    (settle s).ltx.answers = s.ltx.answers := by
  have hkeep : ∀ u : State, u.ltx.tx ≠ .idle ∨ u.ltx.answers = [] → (ltxChoose u).ltx.answers = u.ltx.answers := by
    intro u hu
    by_cases hidle : u.ltx.tx = .idle
    · have hnone := hu.resolve_left (not_not.mpr hidle)
      unfold ltxChoose
      simp only [hidle, hnone]
      (repeat' split) <;> first | rfl | exact hnone
    · rw [ltxChoose_of_busy hidle]
  rw [settle, hkeep _ (by simpa using h)]
  simp

/-- Where nothing but the line store and the receiver has changed, LTX chooses no more than a flow frame (R14, R15,
R19). -/
theorem ltxChoose_of_lines {s v : State} (h : NothingToChoose s) (hltx : v.ltx = s.ltx) (hrls : v.rls = s.rls) :
    (ltxChoose v).ltx.answers = s.ltx.answers ∧ (ltxChoose v).ltx.notices = s.ltx.notices
      ∧ (ltxChoose v).rls = s.rls := by
  by_cases hidle : s.ltx.tx = .idle
  · obtain ⟨hanswers, -, hnotices, hoffer⟩ := h.resolve_left (not_not.mpr hidle)
    have hnooffer : traceOffer v = none := by rw [traceOffer, hrls]; exact hoffer
    unfold ltxChoose
    simp only [hltx, hidle, hanswers, hnotices, hnooffer]
    split
    · exact ⟨rfl, rfl, hrls⟩
    · exact ⟨rfl, rfl, hrls⟩
    · exact ⟨hltx ▸ hanswers, hltx ▸ hnotices, hrls⟩
  · rw [ltxChoose_of_busy (by rwa [hltx]), hltx]
    exact ⟨rfl, rfl, hrls⟩

/-! ### Frames dropped -/

theorem discardLine_eq (s : State) : discardLine s = s.setLst (droppedLines s.lrx.line s.lst) := by
  unfold discardLine droppedLines
  cases s.lrx.line with
  | accepted seg line offset count slot => exact (apply_ite s.setLst (offset = 0) _ _).symm
  | undecided => rfl
  | refused code => rfl
  | dropped => rfl

theorem droppedLines_of_not_accepted {line : LineRx} (l : List Entry)
    (h : ∀ seg n offset count slot, line ≠ .accepted seg n offset count slot) : droppedLines line l = l := by
  cases line with
  | accepted seg n offset count slot => exact absurd rfl (h seg n offset count slot)
  | undecided => rfl
  | refused code => rfl
  | dropped => rfl

theorem settle_framingError (state : RxState) (idle : Nat) (s : State) :
    settle (framingError state idle s) = frameDropped .framing state idle s := by
  rw [framingError, discardLine_eq]
  rfl

/-- What a dropped frame leaves (R2, R10, R12). -/
theorem frameGone (sub : LinkSubcode) (state : RxState) (idle : Nat) {s : State} (h : Quiet s) :
    FrameGone s (frameDropped sub state idle s) state idle := by
  unfold frameDropped
  refine ⟨by simp, by simp, by simp, by simp, by simp, by simp, by simp, by simp, by simp, by simp, ?_, by simp,
    by simp,
    by simp, by simp, by simp, by simp⟩
  rw [settle_answers (by simpa using quiet_answers s h)]
  simp

/-! ### START_MARK -/

/-- Settles O20: by the receive state (R1, R2). -/
theorem startMark : Obligations.StartMark := by
  intro s h
  refine ⟨fun hstate hidle => ?_, fun hstate hidle => ?_, fun hstate => ?_, fun hstate => ?_⟩
  · have htake : takeStart s = s.modLrx fun l => l.without .header 0 := by
      simp [takeStart, hstate, Config.gapSymbols, hidle]
    refine congrArg Host.Outcome.next ?_
    rw [htake]
    exact settle_quiet _ (quiet_congr s _ rfl rfl rfl rfl rfl h)
  · have htake : takeStart s = raiseLinkError .framing 0 0 (s.modLrx fun l => l.without .skip 0) := by
      simp [takeStart, hstate, Config.gapSymbols, Nat.not_le.mpr hidle]
    refine ⟨settle (takeStart s), rfl, ?_, ?_⟩
    · rw [htake]
      simp [Lrx.without]
    · rw [htake]
      rfl
  · have htake : takeStart s = s := by simp [takeStart, hstate]
    exact congrArg Host.Outcome.next (by rw [htake, settle_quiet s h])
  · have htake : takeStart s = framingError .skip 0 s := by
      rcases hstate with hstate | hstate | hstate <;> simp [takeStart, hstate]
    exact ⟨congrArg Host.Outcome.next (by rw [htake, settle_framingError]), frameGone _ _ _ h⟩

/-! ### IDLE_FILL -/

theorem restartTimer_eq (s : State) :
    restartTimer s = s.setLrx { s.lrx with timer := s.lrx.timer.map fun _ => s.line.linkTimeout } := by
  cases s with
  | mk lrx _ _ _ _ _ _ _ _ _ _ _ _ _ _ =>
    cases lrx with
    | mk _ _ _ _ _ _ _ _ _ timer => cases timer <;> rfl

/-- Settles O24: by the receive state (R1, R2, R12, R20). -/
theorem idleFill : Obligations.IdleFill := by
  intro s u h hu
  have hrestart : restartTimer s = u := by rw [restartTimer_eq, hu]
  have hstill : Quiet u := hu ▸ quiet_congr s _ rfl rfl rfl rfl rfl h
  have hstate : u.lrx.state = s.lrx.state := by rw [hu]; rfl
  have hlines : u.lrx.line = s.lrx.line ∧ u.lst = s.lst := by rw [hu]; exact ⟨rfl, rfl⟩
  refine ⟨fun hhunt => ?_, fun hskip => ?_, fun hframe => ?_⟩
  · have htake : takeIdle s = u.setLrx { u.lrx with idle := s.lrx.idle + 1 } := by
      have hidle : u.lrx.idle = s.lrx.idle := by rw [hu]; rfl
      simp [takeIdle, hrestart, hstate, hhunt, State.modLrx, hidle]
    refine congrArg Host.Outcome.next ?_
    rw [htake]
    exact settle_quiet _ (quiet_congr u _ rfl rfl rfl rfl rfl hstill)
  · have htake : takeIdle s = u := by simp [takeIdle, hrestart, hstate, hskip]
    exact congrArg Host.Outcome.next (by rw [htake, settle_quiet u hstill])
  · have htake : takeIdle s = framingError .hunt 1 u := by
      rcases hframe with hframe | hframe | hframe <;> simp [takeIdle, hrestart, hstate, hframe]
    have hgone : FrameGone s (frameDropped .framing .hunt 1 u) .hunt 1 := by
      have hsame := frameGone .framing .hunt 1 hstill
      rw [hu] at hsame ⊢
      exact hsame
    have hlst : (frameDropped .framing .hunt 1 u).lst = droppedLines s.lrx.line s.lst := by
      simp [frameDropped, hlines]
    refine ⟨congrArg Host.Outcome.next (by rw [htake, settle_framingError]), hgone, ?_, ?_⟩
    · intro seg line offset count slot hline
      rw [hlst, hline]
      rfl
    · intro hnot
      rw [hlst, droppedLines_of_not_accepted _ hnot]

/-! ### ABORT_MARK -/

/-- Settles O27: the event raises nothing; where it drops an accepted frame's lines, LTX may send a RESUME (R4, R12,
R19). -/
theorem abortMark : Obligations.AbortMark := by
  intro s h
  refine ⟨fun hnot => ?_, fun seg line offset count slot hline => ?_⟩
  · have hsame : droppedLines s.lrx.line s.lst = s.lst := droppedLines_of_not_accepted _ hnot
    have htake : takeAbort s = s.modLrx fun l => { l.without .hunt 0 with intake := none } := by
      rw [takeAbort, discardLine_eq, hsame]
      rfl
    refine congrArg Host.Outcome.next ?_
    rw [htake]
    exact settle_quiet _ (quiet_congr s _ rfl rfl rfl rfl rfl h)
  · generalize ht : takeAbort s = t
    have hv : t = (s.setLst (droppedLines s.lrx.line s.lst)).modLrx fun l => { l.without .hunt 0 with intake :=
      none } := by
      rw [← ht, takeAbort, discardLine_eq]
    have halc : t.alc = s.alc := by rw [hv]; rfl
    obtain ⟨hfresh, hdue, hreaction, hself⟩ := h
    have hsettle : settle t = ltxChoose t :=
      settle_eq_choose t (halc ▸ hfresh) (halc ▸ hdue) (by rw [halc]; exact hreaction)
    obtain ⟨hanswers, hnotices, hrls⟩ :=
      ltxChoose_of_lines (v := t) ((ltxChoose_eq_self_iff s).mp hself) (by rw [hv]; rfl) (by rw [hv]; rfl)
    refine ⟨ltxChoose t, congrArg Host.Outcome.next (by rw [ht, hsettle]), ?_⟩
    simp only [ltxChoose_lrx, ltxChoose_lst, ltxChoose_cpa, ltxChoose_alc, ltxChoose_pfs, ltxChoose_bars, ltxChoose_mou,
      ltxChoose_htc, ltxChoose_tnc, ltxChoose_line]
    refine ⟨by rw [hv]; rfl, by rw [hv, hline]; rfl, hanswers, hnotices, by rw [hv]; rfl, halc, hrls, ?_⟩
    rw [hv]
    exact ⟨rfl, rfl, rfl, rfl, rfl, rfl⟩

/-! ### LINK_TIMEOUT -/

/-- Handing the reaction on stops the link timer or leaves LRX alone (R20, R95). -/
theorem handReaction_lrx (s : State) :
    (handReaction s).lrx = s.lrx ∨ (handReaction s).lrx = { s.lrx with timer := none } := by
  have hstopping : ∀ (c : StopCause) (u : State), (enterStopping c u).lrx = { u.lrx with timer := none } := by
    intro c u
    unfold enterStopping
    by_cases hrun : u.mou.mode = .run
    · rw [if_pos hrun]
      rfl
    · rw [if_neg hrun]
      rfl
  have hstop : ∀ u, (stopReaction u).lrx = u.lrx ∨ (stopReaction u).lrx = { u.lrx with timer := none } := by
    intro u
    unfold stopReaction
    cases u.mou.mode with
    | run | warmup => exact .inr (hstopping _ u)
    | stopping | standby | halted => exact .inl rfl
  unfold handReaction
  simp only
  split
  · exact .inl rfl
  · split
    · exact hstop (s.modAlc _)
    · exact .inl rfl

/-- No event's end starts a link timer that is stopped (R20). -/
theorem settle_lrx_of_stopped {s : State} (h : s.lrx.timer = none) : (settle s).lrx = s.lrx := by
  have hsame : ({ s.lrx with timer := none } : Lrx) = s.lrx := by rw [← h]
  have hlog : (logAndEvaluate s).lrx = s.lrx := by simp
  rw [settle, ltxChoose_lrx]
  rcases handReaction_lrx (logAndEvaluate s) with hlrx | hlrx
  · rw [hlrx, hlog]
  · rw [hlrx, hlog, hsame]

/-- Settles O29: the expiry begins LINK_LOST, and no event's end starts a timer (R20, R172). -/
theorem linkTimeout : Obligations.LinkTimeout := by
  intro s h
  refine ⟨fun n hn => ?_, fun hnone => ?_⟩
  · have hexpired : linkExpired s
        = beginCond .linkLost (linkCtx s .timeout 0 0) (s.modLrx fun l => { l with timer := none }) := by
      simp [linkExpired, hn]
    refine ⟨settle (linkExpired s), rfl, ?_⟩
    rw [hexpired]
    refine ⟨settle_lrx_of_stopped rfl, by simp [beginCond], by simp [beginCond]; rfl, by simp, by simp, by simp,
      by simp, by simp, by simp, by simp⟩
  · have hexpired : linkExpired s = s := by simp [linkExpired, hnone]
    exact congrArg Host.Outcome.next (by rw [hexpired, settle_quiet s h])

end Sys2Proof.Machine
end

section
/-! SUPPORT and the settling of O21 and O25: DATA_SYMBOL and END_MARK. -/

namespace Sys2Proof.Machine

/-! ### The header of a frame in reception -/

theorem rxKind_append {l : Lrx} (b : Byte) (crc : BitVec 16) (h : l.header ≠ []) :
    rxKind { l with header := l.header ++ [b], crc := crc } = rxKind l := by
  unfold rxKind
  cases hl : l.header with
  | nil => exact absurd hl h
  | cons x xs => rfl

theorem rxTag_append {l : Lrx} (b : Byte) (crc : BitVec 16) (h : 4 ≤ l.header.length) :
    rxTag { l with header := l.header ++ [b], crc := crc } = rxTag l := by
  have hlong : 4 ≤ (l.header ++ [b]).length := by simp; omega
  have htake : ((l.header ++ [b]).drop 2).take 2 = (l.header.drop 2).take 2 := by
    rw [List.drop_append_of_le_length (by omega), List.take_append_of_le_length (by simp; omega)]
  simp only [rxTag, if_pos h, if_pos hlong, htake]

theorem rxLength_append {l : Lrx} (b : Byte) (crc : BitVec 16) (h : 6 ≤ l.header.length) :
    rxLength { l with header := l.header ++ [b], crc := crc } = rxLength l := by
  have htake : ((l.header ++ [b]).drop 4).take 2 = (l.header.drop 4).take 2 := by
    rw [List.drop_append_of_le_length (by omega), List.take_append_of_le_length (by simp; omega)]
  simp only [rxLength, htake]

/-- LRX with a header byte more (R1). -/
def withHeaderByte (b : Byte) (s : State) : State :=
  s.modLrx fun l => { l with header := l.header ++ [b], crc := crcByte l.crc b }

theorem takeData_header {b : Byte} {s : State} (h : s.lrx.state = .header) : takeData b s = takeHeaderByte b s := by
  simp only [takeData, h]

theorem takeData_payload {b : Byte} {s : State} (h : s.lrx.state = .payload) : takeData b s = takePayloadByte b s := by
  simp only [takeData, h]

theorem takeData_trailer {b : Byte} {s : State} (h : s.lrx.state = .trailer) : takeData b s = takeTrailerByte b s := by
  simp only [takeData, h]

theorem takeHeaderByte_short {b : Byte} {s : State} (h : s.lrx.header.length < 7) :
    takeHeaderByte b s = withHeaderByte b s := by
  have hshort : (withHeaderByte b s).lrx.header.length < 8 := by simp [withHeaderByte, State.modLrx]; omega
  exact if_pos hshort

/-- The eighth header byte (R1). -/
theorem takeHeaderByte_last {b : Byte} {s : State} (h : s.lrx.header.length = 7) : takeHeaderByte b s =
    if 3084 < rxLength s.lrx then framingError .skip 0 (withHeaderByte b s)
    else if rxLength s.lrx = 0 then
      (if rxKind s.lrx = kindLine then
        lineWithSlot (.refused .malformed) ((withHeaderByte b s).modLrx fun l => { l with state := .trailer })
      else (withHeaderByte b s).modLrx fun l => { l with state := .trailer })
    else (withHeaderByte b s).modLrx fun l => { l with state := .payload } := by
  have hlong : ¬(withHeaderByte b s).lrx.header.length < 8 := by simp [withHeaderByte, State.modLrx]; omega
  have hlen : rxLength (withHeaderByte b s).lrx = rxLength s.lrx := rxLength_append b _ (by omega)
  have hkind : rxKind ((withHeaderByte b s).modLrx fun l => { l with state := .trailer }).lrx = rxKind s.lrx :=
    rxKind_append (l := s.lrx) b (crcByte s.lrx.crc b) (by intro hnil; rw [hnil] at h; cases h)
  have hmax : Config.maxPayload = 3084 := rfl
  rw [← hlen, ← hkind, ← hmax]
  exact if_neg hlong

/-- A header byte does not change what a dropped frame leaves (R2). -/
theorem frameDropped_withHeaderByte {b : Byte} {s : State} (sub : LinkSubcode) (state : RxState) (idle : Nat)
    (h : 4 ≤ s.lrx.header.length) :
    frameDropped sub state idle (withHeaderByte b s) = frameDropped sub state idle s := by
  have hkind : rxKind (withHeaderByte b s).lrx = rxKind s.lrx :=
    rxKind_append (l := s.lrx) b _ (by intro hnil; rw [hnil] at h; cases h)
  have htag : rxTag (withHeaderByte b s).lrx = rxTag s.lrx := rxTag_append b _ h
  unfold frameDropped
  rw [hkind, htag]
  rfl

/-! ### Payload bytes -/

/-- LRX with a payload byte more (R1). -/
def withPayloadByte (b : Byte) (s : State) : State :=
  s.modLrx fun l => { l with payload := l.payload ++ [b], crc := crcByte l.crc b }

/-- The end of the payload, where it has been reached (R1). -/
def afterPayload (s : State) : State :=
  if rxLength s.lrx ≤ s.lrx.payload.length then s.modLrx fun l => { l with state := .trailer } else s

theorem takePayloadByte_eq (b : Byte) (s : State) : takePayloadByte b s = afterPayload
    (if rxKind s.lrx = kindLine then linePayloadByte (withPayloadByte b s) else withPayloadByte b s) := rfl

/-- A payload byte that does nothing but arrive (R1). -/
theorem afterPayload_withPayloadByte {b : Byte} {s : State} (h : s.lrx.state = .payload) :
    afterPayload (withPayloadByte b s) = s.setLrx { s.lrx with
      payload := s.lrx.payload ++ [b], crc := crcByte s.lrx.crc b,
      state := if s.lrx.payload.length + 1 < rxLength s.lrx then .payload else .trailer } := by
  have hlen : (withPayloadByte b s).lrx.payload.length = s.lrx.payload.length + 1 := by
    simp [withPayloadByte, State.modLrx]
  have hrx : rxLength (withPayloadByte b s).lrx = rxLength s.lrx := rfl
  unfold afterPayload
  rw [hlen, hrx]
  by_cases hend : rxLength s.lrx ≤ s.lrx.payload.length + 1
  · rw [if_pos hend, if_neg (by omega)]
    rfl
  · rw [if_neg hend, if_pos (by omega), ← h]
    rfl

theorem takePixel_of_not_accepted {s : State}
    (h : ∀ seg line offset count slot, s.lrx.line ≠ .accepted seg line offset count slot) : takePixel s = s := by
  unfold takePixel
  split
  · next heq => exact absurd heq (h _ _ _ _ _)
  · rfl

/-- Settles O21: by the receive state and the byte's place (R1, R2). -/
theorem dataSymbol : Obligations.DataSymbol := by
  intro s b h
  have hgoes : ∀ t, Quiet t → takeData b s = t → exec (.dataSymbol b) s = .next t := fun t ht htake =>
    congrArg Host.Outcome.next (by rw [htake, settle_quiet t ht])
  have hdrops : takeData b s = framingError .skip 0 s → exec (.dataSymbol b) s = .next (frameDropped .framing .skip 0 s)
      ∧ FrameGone s (frameDropped .framing .skip 0 s) .skip 0 := fun htake =>
    ⟨congrArg Host.Outcome.next (by rw [htake, settle_framingError]), frameGone _ _ _ h⟩
  have hstill : ∀ l, Quiet (s.setLrx l) := fun l => quiet_congr s _ rfl rfl rfl rfl rfl h
  refine ⟨fun hstate => ?_, fun hstate hshort => ?_, fun n hstate hseven hn => ⟨fun hzero hkind => ?_,
    fun hlow hhigh => ?_, fun hover => ?_⟩, fun n hstate hn hwhich => ?_, fun hstate hshort => ?_, fun hstate hfull =>
      ?_⟩
  · refine hgoes s h ?_
    rcases hstate with hstate | hstate <;> simp [takeData, hstate]
  · refine hgoes _ (hstill _) ?_
    rw [takeData_header hstate, takeHeaderByte_short hshort]
    rfl
  · refine hgoes _ (hstill _) ?_
    have hlen : rxLength s.lrx = 0 := hn.symm.trans hzero
    rw [takeData_header hstate, takeHeaderByte_last hseven, if_neg (by omega), if_pos hlen, if_neg hkind]
    rfl
  · refine hgoes _ (hstill _) ?_
    have hlen : rxLength s.lrx = n := hn.symm
    rw [takeData_header hstate, takeHeaderByte_last hseven, if_neg (by omega), if_neg (by omega)]
    rfl
  · have hlen : rxLength s.lrx = n := hn.symm
    have htake : takeData b s = framingError .skip 0 (withHeaderByte b s) := by
      rw [takeData_header hstate, takeHeaderByte_last hseven, if_pos (by omega)]
    refine ⟨congrArg Host.Outcome.next ?_, frameGone _ _ _ h⟩
    rw [htake, settle_framingError, frameDropped_withHeaderByte _ _ _ (by omega)]
  · refine hgoes _ (hstill _) ?_
    have hbyte : (if rxKind s.lrx = kindLine then linePayloadByte (withPayloadByte b s) else withPayloadByte b s)
        = withPayloadByte b s := by
      have hlen : (withPayloadByte b s).lrx.payload.length = n := by simp [withPayloadByte, State.modLrx, hn]
      have hrx : rxLength (withPayloadByte b s).lrx = rxLength s.lrx := rfl
      split
      · next hkind =>
        unfold linePayloadByte
        simp only [hlen, hrx]
        rcases hwhich with hother | ⟨hlow, hnot⟩ | ⟨hhigh, hpixel⟩
        · exact absurd hkind hother
        · rw [if_neg (by omega), if_pos hlow, if_neg hnot]
        · rw [if_neg (by omega), if_neg (by omega)]
          rcases hpixel with hmod | hline
          · rw [if_neg hmod]
          · rw [takePixel_of_not_accepted (s := withPayloadByte b s) hline, ite_self]
      · rfl
    rw [takeData_payload hstate, takePayloadByte_eq, hbyte, afterPayload_withPayloadByte hstate, ← hn]
  · refine hgoes _ (hstill _) ?_
    rw [takeData_trailer hstate]
    exact if_pos hshort
  · refine hdrops ?_
    rw [takeData_trailer hstate]
    exact if_neg (by omega)

/-! ### END_MARK -/

theorem goodFrame_holds (s : State) : (goodFrame s).alc.holds[AlertSource.linkLost.index] = false := by
  unfold goodFrame
  simp only
  generalize (if s.mou.mode.linkTimed = true then _ else s) = u
  split
  · simp [endCond]
  · next h => exact Bool.not_eq_true _ ▸ h

theorem linkTimed_iff (m : LineMode) : m.linkTimed = true ↔ m = .warmup ∨ m = .run := by
  cases m <;> decide

theorem length_crcBytes (c : BitVec 16) : (crcBytes c).length = 2 := by
  simp [crcBytes]

/-- Settles O25: by the receive state, the CRC and the kind (R2, R3, R20). -/
theorem endMark : Obligations.EndMark := by
  intro s h
  have hframing : takeEnd s = settle (framingError .hunt 0 s) → exec .endMark s = .next
    (frameDropped .framing .hunt 0 s)
      ∧ FrameGone s (frameDropped .framing .hunt 0 s) .hunt 0 := fun htake =>
    ⟨congrArg Host.Outcome.next (by rw [htake, settle_framingError]), frameGone _ _ _ h⟩
  refine ⟨fun hstate hkind hcrc => ⟨congrArg Host.Outcome.next ?_, goodFrame_holds s, ?_⟩,
    fun hstate hlong hcrc => ⟨congrArg Host.Outcome.next ?_, frameGone _ _ _ h⟩, fun hstate => hframing ?_,
    fun hstate => congrArg Host.Outcome.next ?_, fun hstate => congrArg Host.Outcome.next ?_⟩
  · have hlong : ¬s.lrx.trailer.length < 2 := by rw [hcrc, length_crcBytes]; omega
    simp only [takeEnd, hstate, if_neg hlong, if_pos hcrc, if_neg hkind]
  · simp only [goodFrame_timer, linkTimed_iff]
  · have hlong' : ¬s.lrx.trailer.length < 2 := by omega
    simp only [takeEnd, hstate, if_neg hlong', if_neg hcrc, discardLine_eq]
    rfl
  · rcases hstate with hstate | hstate | ⟨hstate, hshort⟩
    · simp only [takeEnd, hstate]
    · simp only [takeEnd, hstate]
    · simp only [takeEnd, hstate, if_pos hshort]
  · simp only [takeEnd, hstate]
  · simp only [takeEnd, hstate]
    rfl

end Sys2Proof.Machine
end

section
/-! SUPPORT and the settling of O22 and O23: the tenth payload byte of a LINE frame, and its pixels. -/

namespace Sys2Proof.Machine

/-! ### The cursor check -/

/-- The table of R9 in its order, for a record that is found. -/
theorem cursorCheck_of_find {s : State} {seg : Tag} {r : Segment} (line offset count : Nat)
    (h : findSeg seg s.rls = some r) : cursorCheck s seg line offset count =
      if r.fill = .sealed then some .late
      else match s.cpa with
        | none => some .outOfOrder
        | some c =>
          if c.tag ≠ seg then some .outOfOrder
          else if line < c.line then some .late
          else if c.line < line then some .outOfOrder
          else if offset ≠ c.pixel then some .outOfOrder
          else if r.width < offset + count then some .outOfRange
          else if offset = 0 ∧ freeCount s = 0 then some .storeFull
          else none := by
  simp only [cursorCheck, h] <;> rfl

/-- The table of R9 for a record at which the cursor stands. -/
theorem cursorCheck_at_cursor {s : State} {seg : Tag} {r : Segment} {c : FillCursor} (line offset count : Nat)
    (h : findSeg seg s.rls = some r) (hfill : r.fill = .filling) (hcursor : s.cpa = some c) (htag : c.tag = seg) :
    cursorCheck s seg line offset count =
      if line < c.line then some .late
      else if c.line < line then some .outOfOrder
      else if offset ≠ c.pixel then some .outOfOrder
      else if r.width < offset + count then some .outOfRange
      else if offset = 0 ∧ freeCount s = 0 then some .storeFull
      else none := by
  rw [cursorCheck_of_find _ _ _ h, if_neg (by simp [hfill]), hcursor]
  exact if_neg (not_not.mpr htag)

/-- Each row of the cursor check (R9). -/
theorem cursorCheck_rows (s : State) (seg : Tag) (line offset count : Nat) :
    (findSeg seg s.rls = none → cursorCheck s seg line offset count = some .unknownSegment)
    ∧ ∀ r, findSeg seg s.rls = some r →
      (r.fill = .sealed → cursorCheck s seg line offset count = some .late)
      ∧ (r.fill = .filling → (∀ c ∈ s.cpa, c.tag ≠ seg) → cursorCheck s seg line offset count = some .outOfOrder)
      ∧ ∀ c, r.fill = .filling → s.cpa = some c → c.tag = seg →
        (line < c.line → cursorCheck s seg line offset count = some .late)
        ∧ (c.line < line → cursorCheck s seg line offset count = some .outOfOrder)
        ∧ (line = c.line → offset ≠ c.pixel → cursorCheck s seg line offset count = some .outOfOrder)
        ∧ (line = c.line → offset = c.pixel → r.width < offset + count →
            cursorCheck s seg line offset count = some .outOfRange)
        ∧ (line = c.line → offset = c.pixel → offset + count ≤ r.width → offset = 0 → freeCount s = 0 →
            cursorCheck s seg line offset count = some .storeFull)
        ∧ (line = c.line → offset = c.pixel → offset + count ≤ r.width → (offset ≠ 0 ∨ freeCount s ≠ 0) →
            cursorCheck s seg line offset count = none) := by
  refine ⟨fun hnone => by simp only [cursorCheck, hnone], fun r hr => ⟨fun hsealed => ?_, fun hfill hother => ?_,
    fun c hfill hcursor htag => ?_⟩⟩
  · rw [cursorCheck_of_find _ _ _ hr, if_pos hsealed]
  · rw [cursorCheck_of_find _ _ _ hr, if_neg (by simp [hfill])]
    cases hcursor : s.cpa with
    | none => rfl
    | some c => exact if_pos (hother c hcursor)
  · rw [cursorCheck_at_cursor line offset count hr hfill hcursor htag]
    refine ⟨fun h1 => if_pos h1, fun h1 => ?_, fun h1 h2 => ?_, fun h1 h2 h3 => ?_, fun h1 h2 h3 h4 h5 => ?_,
      fun h1 h2 h3 h4 => ?_⟩
    · rw [if_neg (by omega), if_pos h1]
    · rw [if_neg (by omega), if_neg (by omega), if_pos h2]
    · rw [if_neg (by omega), if_neg (by omega), if_neg (not_not.mpr h2), if_pos h3]
    · rw [if_neg (by omega), if_neg (by omega), if_neg (not_not.mpr h2), if_neg (by omega), if_pos ⟨h4, h5⟩]
    · rw [if_neg (by omega), if_neg (by omega), if_neg (not_not.mpr h2), if_neg (by omega), if_neg (by tauto)]

/-! ### The tenth byte -/

/-- The fields of a well-formed LINE frame, as read at its tenth payload byte (R8). -/
structure ReadsLine (l : Lrx) (seg : Tag) (line offset count : Nat) (always : Bool) : Prop where
  seg_eq : BitVec.ofNat 16 (beNat (l.payload.take 2)) = seg
  line_eq : beNat ((l.payload.drop 2).take 2) = line
  offset_eq : beNat ((l.payload.drop 4).take 4) = offset
  count_eq : beNat ((l.payload.drop 8).take 2) = count
  flags_eq : (rxFrame l).flags = if always then 1 else 0
  good : lineFormGood (rxFrame l) (rxLength l) count = true

theorem checkLine_of_fields {s : State} {seg : Tag} {line offset count : Nat} {always : Bool}
    (h : ReadsLine s.lrx seg line offset count always) : checkLine s =
      match cursorCheck s seg line offset count with
      | some code => lineWithSlot (.refused code) s
      | none =>
        if always = true then (if slotFree s then acceptLine seg line offset count true s else lineWithSlot .dropped s)
        else acceptLine seg line offset count false s := by
  obtain ⟨hseg, hline, hoffset, hcount, hflags, hgood⟩ := h
  unfold checkLine
  simp only [show (rxFrame s.lrx).payload = s.lrx.payload from rfl, hseg, hline, hoffset, hcount, hgood, hflags,
    if_true]
  cases cursorCheck s seg line offset count with
  | some code => rfl
  | none => cases always <;> rfl

/-- The frame read at its tenth payload byte (R8). -/
theorem readsLine_of_bytes {l : Lrx} {seg tag : Tag} {line offset count : Nat} {always : Bool} (hline : line < 65536)
    (hoffset : offset < 4294967296) (hlow : 1 ≤ count) (hhigh : count ≤ 1024)
    (hheader : l.header = [kindLine, if always then 1 else 0] ++ beBytes 2 tag.toNat ++ beBytes 2 (10 + 3 * count)
      ++ [0, 0])
    (hpayload : l.payload = beBytes 2 seg.toNat ++ beBytes 2 line ++ beBytes 4 offset ++ beBytes 2 count) :
    ReadsLine l seg line offset count always ∧ rxKind l = kindLine ∧ rxLength l = 10 + 3 * count := by
  have hseg : l.payload.take 2 = beBytes 2 seg.toNat := by rw [hpayload]; rfl
  have hline' : (l.payload.drop 2).take 2 = beBytes 2 line := by rw [hpayload]; rfl
  have hoffset' : (l.payload.drop 4).take 4 = beBytes 4 offset := by rw [hpayload]; rfl
  have hcount : (l.payload.drop 8).take 2 = beBytes 2 count := by rw [hpayload]; rfl
  have hlength : (l.header.drop 4).take 2 = beBytes 2 (10 + 3 * count) := by rw [hheader]; rfl
  have hreserved : (l.header.drop 6).take 2 = [0, 0] := by rw [hheader]; rfl
  have hflags : (rxFrame l).flags = if always then 1 else 0 := by rw [rxFrame, hheader]; rfl
  have hkind : rxKind l = kindLine := by rw [rxKind, hheader]; rfl
  have hrx : rxLength l = 10 + 3 * count := by
    rw [rxLength, hlength, beNat_beBytes_of_lt _ _ (by omega)]
  have hzero : (rxFrame l).reserved = 0 := by simp only [rxFrame, hreserved]; rfl
  refine ⟨⟨?_, ?_, ?_, ?_, hflags, ?_⟩, hkind, hrx⟩
  · rw [hseg, beNat_beBytes_of_lt _ _ (by simpa using seg.isLt), BitVec.ofNat_toNat, BitVec.setWidth_eq]
  · rw [hline', beNat_beBytes_of_lt _ _ (by omega)]
  · rw [hoffset', beNat_beBytes_of_lt _ _ (by omega)]
  · rw [hcount, beNat_beBytes_of_lt _ _ (by omega)]
  · simp only [lineFormGood, hrx, hzero, hflags, Config.maxPixels, hlow, hhigh]
    cases always <;> rfl

/-- The tenth payload byte of a LINE frame that goes on (R1, R8). -/
theorem takePayloadByte_ten {b : Byte} {s : State} (hkind : rxKind s.lrx = kindLine) (hten : s.lrx.payload.length = 9) :
    takePayloadByte b s = afterPayload (checkLine (withPayloadByte b s)) := by
  have hlen : (withPayloadByte b s).lrx.payload.length = 10 := by simp [withPayloadByte, State.modLrx, hten]
  rw [takePayloadByte_eq, if_pos hkind, linePayloadByte]
  simp only [hlen]
  rfl

/-- A payload that goes on leaves the receive state (R1). -/
theorem afterPayload_of_more {s : State} (h : s.lrx.payload.length < rxLength s.lrx) : afterPayload s = s :=
  if_neg (by omega)

/-- What the tenth byte of a well-formed LINE frame comes to (R8, R9, R10). -/
theorem exec_tenth_byte {s : State} {b : Byte} {seg : Tag} {line offset count : Nat} {always : Bool} (h : Quiet s)
    (hstate : s.lrx.state = .payload) (hten : s.lrx.payload.length = 9) (hlow : 1 ≤ count) (hfields : ReadsLine
      (withPayloadByte b s).lrx seg line offset count always)
    (hkind : rxKind s.lrx = kindLine) (hrx : rxLength s.lrx = 10 + 3 * count) :
    (cursorCheck s seg line offset count = none → (always = true → slotFree s = true) →
        exec (.dataSymbol b) s = .next (ltxChoose
          ((s.setLst (if offset = 0 then s.lst ++
              [{ tag := seg, line := line, state := .filling, written := [], provisional := [] }] else s.lst)).setLrx
            { s.lrx with
              payload := s.lrx.payload ++ [b], crc := crcByte s.lrx.crc b,
              line := .accepted seg line offset count always })))
      ∧ (∀ code, cursorCheck s seg line offset count = some code → slotFree s = true →
        exec (.dataSymbol b) s = .next (s.setLrx { s.lrx with
          payload := s.lrx.payload ++ [b], crc := crcByte s.lrx.crc b, line := .refused code }))
      ∧ (cursorCheck s seg line offset count ≠ none ∨ always = true → slotFree s = false →
        exec (.dataSymbol b) s = .next (settle (raiseLinkError .answerOverrun kindLine (rxTag s.lrx)
          (s.setLrx { s.lrx with
            payload := s.lrx.payload ++ [b], crc := crcByte s.lrx.crc b, line := .dropped })))) := by
  have hcheck : cursorCheck (withPayloadByte b s) seg line offset count = cursorCheck s seg line offset count := rfl
  have hfree : slotFree (withPayloadByte b s) = slotFree s := rfl
  have htake : takeData b s = afterPayload (checkLine (withPayloadByte b s)) := by
    rw [takeData_payload hstate, takePayloadByte_ten hkind hten]
  have hmore : ∀ u : State, u.lrx.payload = s.lrx.payload ++ [b] → u.lrx.header = s.lrx.header → afterPayload u = u :=
    by
    intro u hpayload hheader
    have hsame : rxLength u.lrx = rxLength s.lrx := by rw [rxLength, hheader]; rfl
    refine afterPayload_of_more ?_
    rw [hsame, hrx, hpayload, List.length_append, hten]
    simp
    omega
  have hslot : ∀ x, lineWithSlot x (withPayloadByte b s) = if slotFree s then
      (withPayloadByte b s).modLrx fun l => { l with line := x }
      else raiseLinkError .answerOverrun kindLine (rxTag s.lrx)
        ((withPayloadByte b s).modLrx fun l => { l with line := .dropped }) := by
    intro x
    rw [← hkind]
    rfl
  rw [checkLine_of_fields hfields, hcheck, hfree] at htake
  refine ⟨fun hnone hslotfree => ?_, fun code hcode hslotfree => ?_, fun hneeds hfull => ?_⟩
  · have hlrx : (acceptLine seg line offset count always (withPayloadByte b s)).lrx
        = { (withPayloadByte b s).lrx with line := .accepted seg line offset count always } := by
      unfold acceptLine
      simp only
      split <;> rfl
    have hbranch : (if always = true then
        (if slotFree s then acceptLine seg line offset count true (withPayloadByte b s)
          else lineWithSlot .dropped (withPayloadByte b s))
        else acceptLine seg line offset count false (withPayloadByte b s))
        = acceptLine seg line offset count always (withPayloadByte b s) := by
      cases always with
      | true => rw [if_pos rfl, if_pos (hslotfree rfl)]
      | false => rfl
    have haccept : takeData b s = acceptLine seg line offset count always (withPayloadByte b s) := by
      rw [htake, hnone]
      simp only [hbranch]
      exact hmore _ (by rw [hlrx]; rfl) (by rw [hlrx]; rfl)
    have heq : acceptLine seg line offset count always (withPayloadByte b s)
        = (s.setLst (if offset = 0 then s.lst ++
            [{ tag := seg, line := line, state := .filling, written := [], provisional := [] }] else s.lst)).setLrx
          { s.lrx with
            payload := s.lrx.payload ++ [b], crc := crcByte s.lrx.crc b,
            line := .accepted seg line offset count always } := by
      unfold acceptLine
      simp only
      split <;> rfl
    refine congrArg Host.Outcome.next ?_
    rw [haccept, heq]
    exact settle_eq_choose _ h.1 h.2.1 h.2.2.1
  · have hrefuse : takeData b s = (withPayloadByte b s).modLrx fun l => { l with line := .refused code } := by
      rw [htake, hcode]
      simp only [hslot, hslotfree, if_true]
      exact hmore _ rfl rfl
    refine congrArg Host.Outcome.next ?_
    rw [hrefuse]
    exact settle_quiet _ (quiet_congr s _ rfl rfl rfl rfl rfl h)
  · have hdrop : takeData b s = raiseLinkError .answerOverrun kindLine (rxTag s.lrx)
        ((withPayloadByte b s).modLrx fun l => { l with line := .dropped }) := by
      rw [htake]
      cases hcode : cursorCheck s seg line offset count with
      | some code =>
        simp only [hslot, hfull]
        exact hmore _ rfl rfl
      | none =>
        have halways : always = true := hneeds.resolve_left (not_not.mpr hcode)
        simp only [halways, if_true, hfull, hslot]
        exact hmore _ rfl rfl
    exact congrArg Host.Outcome.next (by rw [hdrop]; rfl)

/-! ### Frames that fail the form check -/

/-- A payload byte with which a LINE frame comes to need a slot (R1, R10). -/
theorem afterPayload_lineWithSlot {b : Byte} {s : State} (x : LineRx) (l : Lrx) (hstate : s.lrx.state = .payload)
    (hl : l = { s.lrx with
      payload := s.lrx.payload ++ [b], crc := crcByte s.lrx.crc b,
      state := if s.lrx.payload.length + 1 < rxLength s.lrx then .payload else .trailer }) :
    afterPayload (lineWithSlot x (withPayloadByte b s)) = if slotFree s then s.setLrx { l with line := x }
      else raiseLinkError .answerOverrun (rxKind s.lrx) (rxTag s.lrx) (s.setLrx { l with line := .dropped }) := by
  have hend : ∀ u : State, u.lrx.payload = s.lrx.payload ++ [b] → u.lrx.header = s.lrx.header →
      u.lrx.state = s.lrx.state → afterPayload u = u.modLrx fun k => { k with
        state := if s.lrx.payload.length + 1 < rxLength s.lrx then .payload else .trailer } := by
    intro u hpayload hheader hsame
    have hrx : rxLength u.lrx = rxLength s.lrx := by rw [rxLength, hheader]; rfl
    have hlen : u.lrx.payload.length = s.lrx.payload.length + 1 := by rw [hpayload]; simp
    unfold afterPayload
    rw [hrx, hlen]
    by_cases hmore : s.lrx.payload.length + 1 < rxLength s.lrx
    · rw [if_neg (by omega), if_pos hmore, ← hstate, ← hsame]
      rfl
    · rw [if_pos (by omega), if_neg hmore]
  have hfree : slotFree (withPayloadByte b s) = slotFree s := rfl
  unfold lineWithSlot
  rw [hfree, hl]
  split
  · exact (hend _ (by rfl) (by rfl) (by rfl)).trans rfl
  · exact (hend _ (by rfl) (by rfl) (by rfl)).trans rfl

/-- A frame refused MALFORMED, or dropped where no slot is free (R8, R10). -/
theorem exec_malformed {s : State} {b : Byte} {l : Lrx} (h : Quiet s) (hkind : rxKind s.lrx = kindLine)
    (htake : takeData b s = if slotFree s then s.setLrx { l with line := .refused .malformed }
      else raiseLinkError .answerOverrun (rxKind s.lrx) (rxTag s.lrx) (s.setLrx { l with line := .dropped })) :
    (slotFree s = true → exec (.dataSymbol b) s = .next (s.setLrx { l with line := .refused .malformed }))
      ∧ (slotFree s = false → exec (.dataSymbol b) s = .next (settle (raiseLinkError .answerOverrun kindLine
          (rxTag s.lrx) (s.setLrx { l with line := .dropped })))) := by
  refine ⟨fun hfree => congrArg Host.Outcome.next ?_, fun hfull => congrArg Host.Outcome.next ?_⟩
  · rw [htake, hfree]
    exact settle_quiet _ (quiet_congr s _ rfl rfl rfl rfl rfl h)
  · rw [htake, hfull, hkind]
    rfl

/-- The form check of R8 fails. -/
theorem lineFormGood_eq_false {l : Lrx} {count : Nat}
    (h : rxLength l ≠ 10 + 3 * count ∨ count = 0 ∨ 1024 < count ∨ beNat ((l.header.drop 6).take 2) ≠ 0
      ∨ ((l.header.drop 1).headD 0 ≠ 0x00 ∧ (l.header.drop 1).headD 0 ≠ 0x01)) :
    lineFormGood (rxFrame l) (rxLength l) count = false := by
  have hflags : (rxFrame l).flags = (l.header.drop 1).headD 0 := rfl
  rcases h with hlength | hzero | hhigh | hreserved | ⟨hnone, halways⟩
  · simp [lineFormGood, hlength]
  · simp [lineFormGood, hzero]
  · have hover : ¬count ≤ 1024 := by omega
    simp [lineFormGood, Config.maxPixels, hover]
  · have hnot : ¬(rxFrame l).reserved = 0 := by
      intro hz
      have hlt := beNat_lt ((l.header.drop 6).take 2)
      have hlen : ((l.header.drop 6).take 2).length ≤ 2 := List.length_take_le _ _
      have hpow : 256 ^ ((l.header.drop 6).take 2).length ≤ 256 ^ 2 := Nat.pow_le_pow_right (by decide) hlen
      have hnum := congrArg BitVec.toNat hz
      simp only [rxFrame, BitVec.toNat_ofNat] at hnum
      rw [Nat.mod_eq_of_lt (by omega)] at hnum
      exact hreserved hnum
    simp only [lineFormGood, hnot]
    simp
  · simp only [lineFormGood, hflags, hnone, halways]
    simp

/-- Settles O22: the rows of R9, the outcome at the tenth byte, and MALFORMED (R8, R10). -/
theorem lineAcceptance : Obligations.LineAcceptance := by
  refine ⟨cursorCheck_rows, fun s b seg line offset count always h hstate _ hline hoffset hlow hhigh hheader hpayload
    => ?_,
    fun s b count l h hkind hcount hcase => ?_⟩
  · obtain ⟨hfields, hkind, hrx⟩ := readsLine_of_bytes (l := (withPayloadByte b s).lrx) hline hoffset hlow hhigh hheader
      hpayload
    have hten : s.lrx.payload.length = 9 := by
      have hlen := congrArg List.length hpayload
      simp at hlen
      omega
    exact exec_tenth_byte h hstate hten hlow hfields hkind hrx
  · refine exec_malformed h hkind ?_
    rcases hcase with ⟨hstate, hten, hbad, hl⟩ | ⟨hstate, hshort, hend, hl⟩ | ⟨hstate, hseven, hzero, hl⟩
    · have hcheck : checkLine (withPayloadByte b s) = lineWithSlot (.refused .malformed) (withPayloadByte b s) := by
        have hfield : beNat (((withPayloadByte b s).lrx.payload.drop 8).take 2) = count := by
          have hshort : ((s.lrx.payload ++ [b]).drop 8).length = 2 := by simp [hten]
          rw [hcount]
          exact congrArg beNat (List.take_of_length_le hshort.le)
        have hform := lineFormGood_eq_false (l := (withPayloadByte b s).lrx) hbad
        unfold checkLine
        simp only [show (rxFrame (withPayloadByte b s).lrx).payload = (withPayloadByte b s).lrx.payload from rfl,
          hfield,
          hform]
        rfl
      rw [takeData_payload hstate, takePayloadByte_ten hkind hten, hcheck]
      refine afterPayload_lineWithSlot _ l hstate ?_
      rw [hl, hten]
    · have hbyte : linePayloadByte (withPayloadByte b s) = lineWithSlot (.refused .malformed) (withPayloadByte b s) :=
        by
        have hlen : (withPayloadByte b s).lrx.payload.length = s.lrx.payload.length + 1 := by
          simp [withPayloadByte, State.modLrx]
        have hrx : rxLength (withPayloadByte b s).lrx = rxLength s.lrx := rfl
        simp only [linePayloadByte, hlen, hrx]
        rw [if_neg (by omega), if_pos (by omega), if_pos hend]
      rw [takeData_payload hstate, takePayloadByte_eq, if_pos hkind, hbyte]
      refine afterPayload_lineWithSlot _ l hstate ?_
      rw [hl, if_neg (by omega)]
    · have htag : rxTag (withHeaderByte b s).lrx = rxTag s.lrx := rxTag_append b _ (by omega)
      have hkind' : rxKind (withHeaderByte b s).lrx = rxKind s.lrx :=
        rxKind_append (l := s.lrx) b _ (by intro hnil; rw [hnil] at hseven; cases hseven)
      rw [takeData_header hstate, takeHeaderByte_last hseven, if_neg (by omega), if_pos hzero, if_pos hkind, hl, ← htag,
        ← hkind']
      rfl

/-! ### Pixels -/

/-- A change of provisional pixels leaves LTX as little to choose as it had (R14, R19). -/
theorem quiet_setLst {s : State} {l : List Entry} (h : Quiet s) (hlen : l.length = s.lst.length) : Quiet
    (s.setLst l) := by
  refine ⟨h.1, h.2.1, h.2.2.1, ?_⟩
  have hnothing := (ltxChoose_eq_self_iff s).mp h.2.2.2
  have hflow : flowDue (s.setLst l) = flowDue s := by
    unfold flowDue freeCount
    rw [State.setLst_lst, hlen]
    rfl
  refine (ltxChoose_eq_self_iff _).mpr ?_
  unfold NothingToChoose
  rw [hflow]
  exact hnothing

/-- Settles O23: the byte completes a pixel of the frame (R57). -/
theorem linePixel : Obligations.LinePixel := by
  intro s b a0 a1 seg line offset count k slot r h hstate hkind hline hfind hlen hmore hlast
  have hlen' : (withPayloadByte b s).lrx.payload.length = 13 + 3 * k := by
    simp [withPayloadByte, State.modLrx, hlen]
    omega
  have hpixel : (withPayloadByte b s).lrx.payload.drop (13 + 3 * k - 3) = [a0, a1, b] := by
    have hdrop : 13 + 3 * k - 3 = 10 + 3 * k := by omega
    have happend : (withPayloadByte b s).lrx.payload = s.lrx.payload ++ [b] := rfl
    rw [hdrop, happend, List.drop_append_of_le_length (by omega), hlast]
    rfl
  have hplace : (13 + 3 * k - 10) / 3 - 1 = k := by omega
  have hbyte : linePayloadByte (withPayloadByte b s) = (withPayloadByte b s).setLst
      (modFilling seg line (fun e => { e with provisional := e.provisional ++
        [convertPixel (bankOf s r.slot r.bank) r.grade line (offset + k) a0.toNat a1.toNat b.toNat] }) s.lst) := by
    have hframe : (withPayloadByte b s).lrx.line = .accepted seg line offset count slot := hline
    have hrls : findSeg seg (withPayloadByte b s).rls = some r := hfind
    simp only [linePayloadByte, hlen']
    rw [if_neg (by omega), if_neg (by omega), if_pos (by omega)]
    simp only [takePixel, hframe, hrls, hlen', hplace, hpixel]
    rfl
  have htake : takeData b s = (afterPayload (withPayloadByte b s)).setLst
      (modFilling seg line (fun e => { e with provisional := e.provisional ++
        [convertPixel (bankOf s r.slot r.bank) r.grade line (offset + k) a0.toNat a1.toNat b.toNat] }) s.lst) := by
    rw [takeData_payload hstate, takePayloadByte_eq, if_pos hkind, hbyte]
    unfold afterPayload
    by_cases hend : rxLength (withPayloadByte b s).lrx ≤ (withPayloadByte b s).lrx.payload.length
    · rw [if_pos hend]
      exact if_pos hend
    · rw [if_neg hend]
      exact if_neg hend
  refine congrArg Host.Outcome.next ?_
  rw [htake, afterPayload_withPayloadByte hstate]
  refine settle_quiet _ (quiet_setLst (quiet_congr s _ rfl rfl rfl rfl rfl h) ?_)
  simp [modFilling]

end Sys2Proof.Machine
end

section
/-! SUPPORT and the settling of O26 and O28: the good end of a LINE frame, and the transmitter's progress. -/

namespace Sys2Proof.Machine

/-! ### A good end mark -/

/-- A good frame leaves nothing over in ALC (R20, R170). -/
theorem goodFrame_alcQuiet {s : State} (h : Quiet s) : AlcQuiet (goodFrame s).alc := by
  obtain ⟨hfresh, hdue, hreaction, -⟩ := h
  unfold goodFrame
  simp only
  split <;> split <;> exact ⟨hfresh, hdue, hreaction⟩

theorem takeEnd_line {s : State} (hstate : s.lrx.state = .trailer) (hcrc : s.lrx.trailer = crcBytes s.lrx.crc)
    (hkind : rxKind s.lrx = kindLine) : takeEnd s = settle (completeLine (goodFrame s)) := by
  have hlong : ¬s.lrx.trailer.length < 2 := by rw [hcrc, length_crcBytes]; omega
  simp only [takeEnd, hstate, if_neg hlong, if_pos hcrc, if_pos hkind]

/-- The receiver with a frame's good effects taken and the frame gone (R11, R20). -/
def closedFrame (s : State) : State :=
  (goodFrame s).modLrx fun l => l.without .hunt 0

@[simp] theorem closedFrame_frame (s : State) :
    (closedFrame s).lrx.state = .hunt ∧ (closedFrame s).lrx.idle = 0 ∧ (closedFrame s).lrx.line = .undecided
      ∧ (closedFrame s).lrx.execute = s.lrx.execute ∧ (closedFrame s).ltx = s.ltx ∧ (closedFrame s).line = s.line
      ∧ (closedFrame s).pfs = s.pfs ∧ (closedFrame s).cpa = s.cpa ∧ (closedFrame s).lst = s.lst
      ∧ (closedFrame s).bars = s.bars ∧ (closedFrame s).rls = s.rls ∧ (closedFrame s).mou = s.mou
      ∧ (closedFrame s).htc = s.htc ∧ (closedFrame s).tnc = s.tnc ∧ (closedFrame s).cmuSlot = s.cmuSlot := by
  simp [closedFrame, Lrx.without]

/-- The frame in reception is the same after the effects of its good end (R20). -/
theorem goodFrame_reception (s : State) :
    (goodFrame s).lrx.line = s.lrx.line ∧ rxTag (goodFrame s).lrx = rxTag s.lrx := by
  simp [rxTag]

/-- An event that leaves LTX, the marks, the number of entries and what the run list offers has nothing to choose. -/
theorem nothingToChoose_of {s t : State} (h : NothingToChoose s) (hltx : t.ltx = s.ltx) (hline : t.line = s.line)
    (hlst : t.lst.length = s.lst.length) (hoffer : traceOffer s = none → traceOffer t = none) : NothingToChoose t := by
  have hflow : flowDue t = flowDue s := by
    unfold flowDue freeCount
    rw [hltx, hline, hlst]
  unfold NothingToChoose
  rw [hltx, hflow]
  exact h.imp_right fun ⟨h1, h2, h3, h4⟩ => ⟨h1, h2, h3, hoffer h4⟩

/-- A change that keeps calender states and trace-sent offers no trace where none was offered (R124). -/
theorem traceOffer_modSeg {s t : State} {tag : Tag} {f : Segment → Segment} (hrls : t.rls = modSeg tag f s.rls)
    (hf : ∀ r, (f r).calender = r.calender ∧ (f r).traceSent = r.traceSent) (h : traceOffer s = none) :
    traceOffer t = none := by
  unfold traceOffer at h ⊢
  rw [List.find?_eq_none] at h ⊢
  rw [hrls]
  intro r hr
  obtain ⟨x, hx, rfl⟩ := List.mem_map.mp hr
  split
  · rw [(hf x).1, (hf x).2]
    exact h x hx
  · exact h x hx

/-! ### A line committed -/

/-- What a committed frame does to the line store, the run list and the cursor (R11, R53, R54). -/
theorem commitLine_of_find {seg : Tag} {r : Segment} (line offset count : Nat) {s : State}
    (h : findSeg seg s.rls = some r) : commitLine seg line offset count s =
      (let s1 := s.setLst (modFilling seg line (fun e => { e with
        written := e.written ++ e.provisional, provisional := [],
        state := if offset + count = r.width then .ready else .filling }) s.lst)
      if offset + count = r.width then fillNextLine seg line r.lines s1
      else s1.setCpa (some { tag := seg, line := line, pixel := offset + count })) := by
  simp only [commitLine, h, decide_eq_true_eq]

theorem fillNextLine_last {seg : Tag} {line lines : Nat} {s : State} {c : FillCursor} (h : lines ≤ line + 1)
    (hcursor : s.cpa = some c) (htag : c.tag = seg) : fillNextLine seg line lines s =
      (s.setRls (modSeg seg (fun x => { x with fill := .sealed }) s.rls)).setCpa
        (cursorAtOldestFilling (modSeg seg (fun x => { x with fill := .sealed }) s.rls)) := by
  rw [fillNextLine, if_neg (by omega), sealSegment]
  simp only [hcursor, if_pos htag]
  rfl

/-- An event that leaves nothing over and LTX nothing to choose. -/
theorem settle_of_nothing {s : State} (halc : AlcQuiet s.alc) (h : NothingToChoose s) : settle s = s := by
  rw [settle_of_alcQuiet halc, (ltxChoose_eq_self_iff s).mpr h]

/-- An event that leaves nothing over but an answer. -/
theorem settle_of_answer {s t : State} (a : Answer) (halc : AlcQuiet t.alc) (h : NothingToChoose s)
    (hltx : t.ltx = s.ltx) : settle (queueAnswer a t) = t.setLtx (deliver a s).ltx := by
  rw [settle_of_alcQuiet (s := queueAnswer a t) halc]
  exact ltxChoose_of_queueAnswer h (by rw [← hltx]; rfl)

/-- The line store, the cursor and the run list once a frame's pixels are committed (R11, R53, R54). -/
structure Committed (s t : State) (seg : Tag) (line offset count : Nat) (r : Segment) : Prop where
  lst : t.lst = modFilling seg line (fun e => { e with
    written := e.written ++ e.provisional, provisional := [],
    state := if offset + count = r.width then .ready else .filling }) s.lst
  goes : offset + count ≠ r.width → t.cpa = some { tag := seg, line := line, pixel := offset + count } ∧ t.rls = s.rls
  next : offset + count = r.width → line + 1 < r.lines →
    t.cpa = some { tag := seg, line := line + 1, pixel := 0 } ∧ t.rls = s.rls
  last : offset + count = r.width → r.lines ≤ line + 1 →
    t.rls = modSeg seg (fun x => { x with fill := .sealed }) s.rls
      ∧ t.cpa = cursorAtOldestFilling (modSeg seg (fun x => { x with fill := .sealed }) s.rls)

theorem committed_commitLine {s : State} {seg : Tag} {r : Segment} {c : FillCursor} (line offset count : Nat)
    (hfind : findSeg seg s.rls = some r) (hcursor : s.cpa = some c) (htag : c.tag = seg) :
    Committed s (commitLine seg line offset count s) seg line offset count r := by
  rw [commitLine_of_find _ _ _ hfind]
  simp only
  by_cases hdone : offset + count = r.width
  · rw [if_pos hdone]
    by_cases hmore : line + 1 < r.lines
    · rw [fillNextLine, if_pos hmore]
      exact ⟨rfl, fun h => absurd hdone h, fun _ _ => ⟨rfl, rfl⟩, fun _ h => absurd hmore (by omega)⟩
    · have hseal := fun l => fillNextLine_last (seg := seg) (line := line) (lines := r.lines) (s := s.setLst l) (c := c)
        (by omega) hcursor htag
      rw [hseal]
      exact ⟨rfl, fun h => absurd hdone h, fun _ h => absurd h hmore, fun _ _ => ⟨rfl, rfl⟩⟩
  · rw [if_neg hdone]
    exact ⟨rfl, fun _ => ⟨rfl, rfl⟩, fun h => absurd h hdone, fun h => absurd h hdone⟩

theorem Committed.nothingToChoose {s t : State} {seg : Tag} {line offset count : Nat} {r : Segment}
    (h : Committed s t seg line offset count r) (hs : NothingToChoose s) (hltx : t.ltx = s.ltx) (hline :
      t.line = s.line) :
    NothingToChoose t := by
  refine nothingToChoose_of hs hltx hline (by rw [h.lst]; simp [modFilling]) fun hoffer => ?_
  have hsame : t.rls = s.rls → traceOffer t = none := fun hrls => by rw [traceOffer, hrls]; exact hoffer
  by_cases hdone : offset + count = r.width
  · by_cases hmore : line + 1 < r.lines
    · exact hsame (h.next hdone hmore).2
    · exact traceOffer_modSeg (h.last hdone (by omega)).1 (fun _ => ⟨rfl, rfl⟩) hoffer
  · exact hsame (h.goes hdone).2

/-- Settles O26: the frame's lines and its answer, in an event that leaves nothing else over (R10, R11, R53, R54). -/
theorem lineFrameCompletes : Obligations.LineFrameCompletes := by
  refine ⟨fun s seg line offset count slot r c h hstate hcrc hkind hline hfind hcursor htag => ?_,
    fun s h hstate hcrc hkind hnot => ?_⟩
  · have hnothing := (ltxChoose_eq_self_iff s).mp h.2.2.2
    obtain ⟨hreceived, hrxtag⟩ := goodFrame_reception s
    generalize hw : commitLine seg line offset count (closedFrame s) = w
    have hcommit : Committed s w seg line offset count r := by
      have hclosed := committed_commitLine (s := closedFrame s) (r := r) (c := c) line offset count
        (by simpa using hfind)
        (by simpa using hcursor) htag
      rw [hw] at hclosed
      exact ⟨by simpa using hclosed.lst, by simpa using hclosed.goes, by simpa using hclosed.next,
        by simpa using hclosed.last⟩
    have hltx : w.ltx = s.ltx := by rw [← hw]; simp
    have halc : AlcQuiet w.alc := by
      rw [← hw]
      simpa [closedFrame] using goodFrame_alcQuiet h
    have hchoose := hcommit.nothingToChoose hnothing hltx (by rw [← hw]; simp)
    have hevent : completeLine (goodFrame s)
        = if slot then queueAnswer (lineAnswer (rxTag s.lrx) .accepted) w else w := by
      simp only [completeLine, hreceived, hline, hrxtag, ← hw]
      rfl
    have hsettle : settle (completeLine (goodFrame s))
        = w.setLtx (if slot then (deliver (lineAnswer (rxTag s.lrx) .accepted) s).ltx else s.ltx) := by
      rw [hevent]
      cases slot with
      | true => exact settle_of_answer _ halc hnothing hltx
      | false =>
        refine (settle_of_nothing halc hchoose).trans ?_
        rw [if_neg (by decide), ← hltx]
        rfl
    have hlrx : w.lrx.state = .hunt ∧ w.lrx.idle = 0 ∧ w.lrx.line = .undecided ∧ w.lrx.execute = s.lrx.execute := by
      rw [← hw]
      simp
    obtain ⟨hhunt, hidle, hundecided, hexecute⟩ := hlrx
    refine ⟨_, congrArg Host.Outcome.next ((takeEnd_line hstate hcrc hkind).trans hsettle), hhunt, hidle, hundecided,
      hexecute, hcommit.lst, hcommit.goes, hcommit.next, hcommit.last, fun hslot => ?_, fun hslot => ?_, ?_⟩
    · rw [hslot]
      rfl
    · rw [hslot]
      rfl
    · rw [← hw]
      simp
  · have hnothing := (ltxChoose_eq_self_iff s).mp h.2.2.2
    obtain ⟨hreceived, hrxtag⟩ := goodFrame_reception s
    have halc : AlcQuiet (closedFrame s).alc := goodFrame_alcQuiet h
    have hltx : (closedFrame s).ltx = s.ltx := by simp
    have hchoose : NothingToChoose (closedFrame s) :=
      nothingToChoose_of hnothing (by simp) (by simp) (by simp) (by simp [traceOffer])
    have hsettle : settle (completeLine (goodFrame s)) = (closedFrame s).setLtx (match s.lrx.line with
        | .refused code => (deliver (lineAnswer (rxTag s.lrx) code) s).ltx
        | _ => s.ltx) := by
      have hnone : settle (closedFrame s) = (closedFrame s).setLtx s.ltx := by
        rw [settle_of_nothing halc hchoose, ← hltx]
        rfl
      simp only [completeLine, hreceived, hrxtag]
      cases hline : s.lrx.line with
      | accepted seg line offset count slot => exact absurd hline (hnot _ _ _ _ _)
      | refused code => exact settle_of_answer _ halc hnothing hltx
      | undecided => exact hnone
      | dropped => exact hnone
    refine ⟨_, congrArg Host.Outcome.next ((takeEnd_line hstate hcrc hkind).trans hsettle), by simp, by simp, by simp,
      by simp, fun code hcode => ?_, fun hdropped => ?_, by simp⟩
    · rw [State.setLtx_ltx, hcode]
      rfl
    · rw [State.setLtx_ltx, hdropped]

/-! ### The transmitter's progress -/

/-! LTX's choice in IDLE, item by item (R15). -/

theorem ltxChoose_of_idle_flow {s : State} (hold : Bool) (hidle : s.ltx.tx = .idle) (hanswers : s.ltx.answers = [])
    (hflow : flowDue s = some hold) : ltxChoose s = s.setLtx { s.ltx with
      flowHeld := hold
      tx := if hold then .sending .hold (upFrame 0x82 0 0 (flowPayload (freeCount s)))
        else .sending .resume (upFrame 0x83 0 0 (flowPayload (freeCount s))) } := by
  cases hold <;> simp [ltxChoose, hidle, hanswers, hflow]

theorem ltxChoose_of_idle_notice {s : State} {n : Notice} {rest : List Notice} (hidle : s.ltx.tx = .idle)
    (hanswers : s.ltx.answers = []) (hflow : flowDue s = none) (hnotices : s.ltx.notices = n :: rest) :
    ltxChoose s = s.setLtx { s.ltx with
      notices := rest
      overrun := false
      tx := .sending .notice (upFrame 0x84 (if s.ltx.overrun then 1 else 0) 0 (noticePayload n)) } := by
  simp only [ltxChoose, hidle, hanswers, hflow, hnotices]

theorem ltxChoose_of_idle_trace {s : State} {r : Segment} (hidle : s.ltx.tx = .idle) (hanswers : s.ltx.answers = [])
    (hflow : flowDue s = none) (hnotices : s.ltx.notices = []) (hoffer : traceOffer s = some r) :
    ltxChoose s = (s.setLtx { s.ltx with
      tx := .sending (.trace r.tag) (upFrame 0x85 0 0 (tracePayload r)) }).modSegment r.tag
        fun x => { x with traceSent := true } := by
  simp only [ltxChoose, hidle, hanswers, hflow, hnotices, hoffer]

/-- Settles O28: the gap and the removal, and the fixed order of choice (R14, R15, R19, R124, R125). -/
theorem transmitterProgress : Obligations.TransmitterProgress := by
  refine ⟨fun s h => ⟨fun item bytes htx hnone => ?_, fun tag bytes r htx hfind hretired hsent => ?_⟩,
    fun s hfresh hdue hreaction htx => ?_⟩
  · have hsent : frameSent s = s.setLtx { s.ltx with tx := .gap } := by
      cases item with
      | trace tag =>
        have hleft : findSeg tag (s.setLtx { s.ltx with tx := .gap }).rls = none := hnone tag rfl
        simp only [frameSent, htx, traceDone, hleft]
      | _ => simp only [frameSent, htx]
    refine congrArg Host.Outcome.next ?_
    rw [hsent]
    exact settle_of_nothing h.alcQuiet (.inl (by simp))
  · have hdone : frameSent s = removeSegment tag (s.setLtx { s.ltx with tx := .gap }) := by
      have hthere : findSeg tag (s.setLtx { s.ltx with tx := .gap }).rls = some r := hfind
      simp only [frameSent, htx, traceDone, hthere]
      exact if_pos ⟨hretired, hsent⟩
    have hsettle : settle (removeSegment tag (s.setLtx { s.ltx with tx := .gap }))
        = removeSegment tag (s.setLtx { s.ltx with tx := .gap }) :=
      settle_of_nothing (s := removeSegment tag (s.setLtx { s.ltx with tx := .gap })) (by simpa using h.alcQuiet)
        (.inl (by simp))
    refine ⟨_, congrArg Host.Outcome.next (by rw [hdone, hsettle]), by simp, ?_⟩
    simp [removeSegment]
  · have hevent : exec .gapEnd s = .next (ltxChoose (s.setLtx { s.ltx with tx := .idle })) := by
      have hgap : gapEnd s = s.setLtx { s.ltx with tx := .idle } := by simp only [gapEnd, htx]
      refine congrArg Host.Outcome.next ?_
      rw [hgap]
      exact settle_eq_choose _ hfresh hdue hreaction
    rw [hevent]
    refine ⟨fun a rest hanswers => congrArg Host.Outcome.next ?_, fun hanswers =>
      ⟨fun hheld hlow => congrArg Host.Outcome.next ?_, fun hheld hhigh => congrArg Host.Outcome.next ?_,
        fun hnohold hnoresume => ?_⟩⟩
    · simp only [ltxChoose, State.setLtx_ltx, hanswers]
      rfl
    · refine (ltxChoose_of_idle_flow (s := s.setLtx { s.ltx with tx := .idle }) true rfl hanswers ?_).trans rfl
      simp only [flowDue, State.setLtx_ltx, hheld]
      exact if_pos hlow
    · refine (ltxChoose_of_idle_flow (s := s.setLtx { s.ltx with tx := .idle }) false rfl hanswers ?_).trans rfl
      simp only [flowDue, State.setLtx_ltx, hheld]
      exact if_pos hhigh
    · have hflow : flowDue (s.setLtx { s.ltx with tx := .idle }) = none := by
        cases hheld : s.ltx.flowHeld with
        | false =>
          simp only [flowDue, State.setLtx_ltx, hheld]
          exact if_neg (Nat.not_lt.mpr (hnohold hheld))
        | true =>
          simp only [flowDue, State.setLtx_ltx, hheld]
          exact if_neg (Nat.not_le.mpr (hnoresume hheld))
      refine ⟨fun n rest hnotices => congrArg Host.Outcome.next ?_, fun r hnotices hoffer =>
        congrArg Host.Outcome.next ?_,
        fun hnotices hnone => congrArg Host.Outcome.next ?_⟩
      · exact ltxChoose_of_idle_notice (s := s.setLtx { s.ltx with tx := .idle }) rfl hanswers hflow hnotices
      · exact ltxChoose_of_idle_trace (s := s.setLtx { s.ltx with tx := .idle }) rfl hanswers hflow hnotices hoffer
      · have hoffer : traceOffer (s.setLtx { s.ltx with tx := .idle }) = none := by
          refine List.find?_eq_none.mpr fun r hr => ?_
          have hsent := hnone r hr
          simpa using hsent
        exact (ltxChoose_eq_self_iff _).mpr (.inr ⟨hanswers, hflow, hnotices, hoffer⟩)

end Sys2Proof.Machine
end

section
/-! SUPPORT and the settling of O19: a control frame sent symbol by symbol (R1, R3). -/

namespace Sys2Proof.Machine

/-! ### Runs of symbols -/

/-- One symbol, and then the rest. -/
theorem execAll_cons {i : Instr} {rest : List Instr} {s t : State} (h : exec i s = .next t) :
    execAll (i :: rest) s = execAll rest t := by
  rw [execAll, h]

theorem quiet_setLrx {s : State} (l : Lrx) (h : Quiet s) : Quiet (s.setLrx l) :=
  quiet_congr s _ rfl rfl rfl rfl rfl h

/-- The first seven bytes of a header (R1). -/
theorem execAll_header {s : State} (bs : List Byte) (rest : List Instr) (l : Lrx) (h : Quiet s)
    (hstate : l.state = .header) (hlen : l.header.length + bs.length ≤ 7) :
    execAll (bs.map .dataSymbol ++ rest) (s.setLrx l)
      = execAll rest (s.setLrx { l with header := l.header ++ bs, crc := bs.foldl crcByte l.crc }) := by
  induction bs generalizing l with
  | nil => simp
  | cons b bs ih =>
    rw [List.length_cons] at hlen
    obtain ⟨-, hbyte, -⟩ := dataSymbol (s.setLrx l) b (quiet_setLrx l h)
    have hnext := hbyte hstate (by simp; omega)
    rw [List.map_cons, List.cons_append, execAll_cons hnext]
    refine (ih { l with header := l.header ++ [b], crc := crcByte l.crc b } hstate (by simp; omega)).trans ?_
    simp

/-- The bytes of a control frame's payload but the last (R1). -/
theorem execAll_payload {s : State} (bs : List Byte) (rest : List Instr) (l : Lrx) (h : Quiet s)
    (hstate : l.state = .payload) (hkind : rxKind l ≠ kindLine) (hlen : l.payload.length + bs.length < rxLength l) :
    execAll (bs.map .dataSymbol ++ rest) (s.setLrx l)
      = execAll rest (s.setLrx { l with payload := l.payload ++ bs, crc := bs.foldl crcByte l.crc }) := by
  induction bs generalizing l with
  | nil => simp
  | cons b bs ih =>
    rw [List.length_cons] at hlen
    obtain ⟨-, -, -, hbyte, -⟩ := dataSymbol (s.setLrx l) b (quiet_setLrx l h)
    have hnext := hbyte _ hstate rfl (.inl hkind)
    rw [if_pos (by simp; omega)] at hnext
    rw [List.map_cons, List.cons_append, execAll_cons hnext]
    refine (ih { l with payload := l.payload ++ [b], crc := crcByte l.crc b, state := .payload } rfl hkind
      (by simp [rxLength] at hlen ⊢; omega)).trans ?_
    simp [hstate]

/-- The last byte of a control frame's payload (R1). -/
theorem execAll_payload_last {s : State} (b : Byte) (rest : List Instr) (l : Lrx) (h : Quiet s)
    (hstate : l.state = .payload) (hkind : rxKind l ≠ kindLine) (hlen : l.payload.length + 1 = rxLength l) :
    execAll (.dataSymbol b :: rest) (s.setLrx l)
      = execAll rest (s.setLrx { l with payload := l.payload ++ [b], crc := crcByte l.crc b, state := .trailer }) := by
  obtain ⟨-, -, -, hbyte, -⟩ := dataSymbol (s.setLrx l) b (quiet_setLrx l h)
  have hnext := hbyte _ hstate rfl (.inl hkind)
  rw [if_neg (by simp; omega)] at hnext
  exact execAll_cons hnext

/-- The bytes of the trailer (R1). -/
theorem execAll_trailer {s : State} (bs : List Byte) (rest : List Instr) (l : Lrx) (h : Quiet s)
    (hstate : l.state = .trailer) (hlen : l.trailer.length + bs.length ≤ 2) :
    execAll (bs.map .dataSymbol ++ rest) (s.setLrx l)
      = execAll rest (s.setLrx { l with trailer := l.trailer ++ bs }) := by
  induction bs generalizing l with
  | nil => simp
  | cons b bs ih =>
    rw [List.length_cons] at hlen
    obtain ⟨-, -, -, -, hbyte, -⟩ := dataSymbol (s.setLrx l) b (quiet_setLrx l h)
    have hnext := hbyte hstate (by simp; omega)
    rw [List.map_cons, List.cons_append, execAll_cons hnext]
    refine (ih { l with trailer := l.trailer ++ [b] } hstate (by simp; omega)).trans ?_
    simp

/-! ### The header of a frame -/

/-- The first seven bytes of a frame's header (section 11.3). -/
def headerStart (f : Frame) : List Byte :=
  [f.kind, f.flags] ++ beBytes 2 f.tag.toNat ++ beBytes 2 f.payload.length ++ (beBytes 2 f.reserved.toNat).take 1

/-- The eighth byte of a frame's header. -/
def headerLast (f : Frame) : Byte :=
  (beBytes 2 f.reserved.toNat).getD 1 0

theorem downBytes_eq (f : Frame) : downBytes f = headerStart f ++ headerLast f :: (f.payload
    ++ crcBytes (crcOf (headerStart f ++ headerLast f :: f.payload))) := rfl

/-- LRX with a frame's header received (R1). -/
def withHeader (f : Frame) (state : RxState) (l : Lrx) : Lrx :=
  { l with
    state := state, idle := 0, header := headerStart f ++ [headerLast f], payload := [], trailer := [],
    crc := crcOf (headerStart f ++ [headerLast f]), line := .undecided }

theorem rxFrame_received {f : Frame} {l : Lrx} (hheader : l.header = headerStart f ++ [headerLast f])
    (hpayload : l.payload = f.payload) : rxFrame l = f := by
  have htag : (l.header.drop 2).take 2 = beBytes 2 f.tag.toNat := by rw [hheader]; rfl
  have hreserved : (l.header.drop 6).take 2 = beBytes 2 f.reserved.toNat := by rw [hheader]; rfl
  have hkind : rxKind l = f.kind := by rw [rxKind, hheader]; rfl
  have hflags : (l.header.drop 1).headD 0 = f.flags := by rw [hheader]; rfl
  have hrxtag : rxTag l = f.tag := by
    have hlong : 4 ≤ l.header.length := by rw [hheader]; simp [headerStart]
    rw [rxTag, if_pos hlong, htag, beNat_beBytes_of_lt _ _ (by simpa using f.tag.isLt), BitVec.ofNat_toNat,
      BitVec.setWidth_eq]
  rw [rxFrame, hkind, hflags, hrxtag, hreserved, hpayload, beNat_beBytes_of_lt _ _ (by simpa using f.reserved.isLt),
    BitVec.ofNat_toNat, BitVec.setWidth_eq]

/-- LRX with a frame's first header bytes received (R1). -/
def withHeaderStart (f : Frame) (l : Lrx) : Lrx :=
  { l with
    state := .header, idle := 0, header := headerStart f, payload := [], trailer := [],
    crc := crcOf (headerStart f), line := .undecided }

/-- The eighth byte of a control frame's header (R1). -/
theorem exec_headerLast {s : State} (f : Frame) (h : Quiet s) (hkind : f.kind ≠ kindLine)
    (hlen : f.payload.length ≤ 3084) :
    exec (.dataSymbol (headerLast f)) (s.setLrx (withHeaderStart f s.lrx))
      = .next (s.setLrx (withHeader f (if f.payload.length = 0 then .trailer else .payload) s.lrx)) := by
  obtain ⟨-, -, hlast, -⟩ :=
    dataSymbol (s.setLrx (withHeaderStart f s.lrx)) (headerLast f) (quiet_setLrx _ h)
  have hlength : beNat (((withHeaderStart f s.lrx).header.drop 4).take 2) = f.payload.length := by
    have htake : ((withHeaderStart f s.lrx).header.drop 4).take 2 = beBytes 2 f.payload.length := rfl
    rw [htake, beNat_beBytes_of_lt _ _ (by omega)]
  obtain ⟨hnone, hsome, -⟩ := hlast f.payload.length rfl rfl hlength.symm
  have hcrc : crcByte (crcOf (headerStart f)) (headerLast f) = crcOf (headerStart f ++ [headerLast f]) := by
    simp [crcOf]
  by_cases hzero : f.payload.length = 0
  · rw [if_pos hzero]
    refine (hnone hzero hkind).trans ?_
    simp [withHeaderStart, withHeader, hcrc]
    rfl
  · rw [if_neg hzero]
    refine (hsome (by omega) hlen).trans ?_
    simp [withHeaderStart, withHeader, hcrc]
    rfl

/-- The header of a frame, up to where its payload or its trailer begins (R1). -/
theorem execAll_headerBytes {s : State} (f : Frame) (rest : List Instr) (h : Quiet s) (hidle : 4 ≤ s.lrx.idle)
    (hhunt : s.lrx.state = .hunt) (hkind : f.kind ≠ kindLine) (hlen : f.payload.length ≤ 3084) :
    execAll (.startMark :: ((headerStart f).map .dataSymbol ++ .dataSymbol (headerLast f) :: rest)) s
      = execAll rest (s.setLrx (withHeader f (if f.payload.length = 0 then .trailer else .payload) s.lrx)) := by
  obtain ⟨hstart, -⟩ := startMark s h
  rw [execAll_cons (hstart hhunt hidle), execAll_header _ _ _ h rfl (by simp [headerStart])]
  exact execAll_cons (exec_headerLast f h hkind hlen)

/-! ### The whole frame -/

/-- LRX with a frame's header and payload received (R1). -/
def withBody (f : Frame) (l : Lrx) : Lrx :=
  { withHeader f .trailer l with
    payload := f.payload, crc := crcOf (headerStart f ++ headerLast f :: f.payload) }

theorem rxLength_withHeader {f : Frame} {l : Lrx} (state : RxState) (hlen : f.payload.length ≤ 3084) :
    rxLength (withHeader f state l) = f.payload.length := by
  have htake : ((withHeader f state l).header.drop 4).take 2 = beBytes 2 f.payload.length := rfl
  rw [rxLength, htake, beNat_beBytes_of_lt _ _ (by omega)]

/-- The payload of a control frame (R1). -/
theorem execAll_payloadBytes {s : State} (f : Frame) (rest : List Instr) (h : Quiet s) (hkind : f.kind ≠ kindLine)
    (hlen : f.payload.length ≤ 3084) :
    execAll (f.payload.map .dataSymbol ++ rest)
        (s.setLrx (withHeader f (if f.payload.length = 0 then .trailer else .payload) s.lrx))
      = execAll rest (s.setLrx (withBody f s.lrx)) := by
  have hrx : rxLength (withHeader f .payload s.lrx) = f.payload.length := rxLength_withHeader .payload hlen
  rcases List.eq_nil_or_concat f.payload with hnil | ⟨bs, b, hconcat⟩
  · simp [hnil, withBody, withHeader]
  · rw [List.concat_eq_append] at hconcat
    have hbody : f.payload.length = bs.length + 1 := by rw [hconcat]; simp
    rw [if_neg (by omega), hconcat, List.map_append, List.append_assoc,
      execAll_payload bs _ (withHeader f .payload s.lrx) h rfl hkind (by rw [hrx, hbody]; simp [withHeader])]
    refine (execAll_payload_last b rest { withHeader f .payload s.lrx with payload := bs, crc := _ } h rfl hkind
      (hbody.symm.trans hrx.symm)).trans ?_
    · simp [withHeader, withBody, hconcat, crcOf]

/-- The effects of a CRC-good frame, on the link timer and on LINK_LOST (R4, R20). -/
theorem goodFrame_eq (s : State) : goodFrame s =
    (s.setLrx { s.lrx with timer := if s.mou.mode.linkTimed = true then some s.line.linkTimeout else s.lrx.timer
      }).modAlc
      fun a => { a with
        holds := if s.alc.holds[AlertSource.linkLost.index] = true then a.holds.set AlertSource.linkLost.index false
          else a.holds } := by
  by_cases htimed : s.mou.mode.linkTimed = true <;>
    by_cases hlost : s.alc.holds[AlertSource.linkLost.index] = true <;>
      simp [goodFrame, htimed, hlost, endCond, State.modLrx, State.modAlc] <;> rfl

/-- They do not hang on the frame's bytes. -/
theorem goodFrame_setLrx_without (s : State) (l : Lrx) :
    (goodFrame (s.setLrx l)).modLrx (fun l => l.without .hunt 0) = goodFrame (s.setLrx (l.without .hunt 0)) := by
  rw [goodFrame_eq, goodFrame_eq]
  rfl

/-- LRX with a whole control frame received (R1). -/
def received (f : Frame) (l : Lrx) : Lrx :=
  { withBody f l with trailer := crcBytes (withBody f l).crc }

theorem exec_endMark_received {s : State} (f : Frame) (h : Quiet s) (hkind : f.kind ≠ kindLine) :
    exec .endMark (s.setLrx (received f s.lrx))
      = .next (takeControl f (goodFrame (s.setLrx (s.lrx.without .hunt 0)))) := by
  have hframe : rxFrame (received f s.lrx) = f := rxFrame_received rfl rfl
  have hrxkind : rxKind (received f s.lrx) = f.kind := rfl
  obtain ⟨hgood, -⟩ := endMark (s.setLrx (received f s.lrx)) (quiet_setLrx _ h)
  obtain ⟨hend, -⟩ := hgood (by simp [received, withBody, withHeader]) (hrxkind ▸ hkind)
    (by simp [received])
  rw [hend, goodFrame_setLrx_without, State.setLrx_lrx, hframe]
  rfl

/-- Settles O19: header, payload and trailer in turn, and then O25's good END_MARK. -/
theorem frameBySymbols : Obligations.FrameBySymbols := by
  intro s f h hhunt hidle hkind hlen
  have hsymbols : frameSymbols f = .startMark :: ((headerStart f).map .dataSymbol ++ .dataSymbol (headerLast f) ::
      (f.payload.map .dataSymbol ++ ((crcBytes (withBody f s.lrx).crc).map .dataSymbol ++ [.endMark]))) := by
    simp [frameSymbols, downBytes_eq, withBody]
  rw [hsymbols, execAll_headerBytes f _ h hidle hhunt hkind hlen, execAll_payloadBytes f _ h hkind hlen,
    execAll_trailer _ _ _ h rfl (by simp [length_crcBytes, withBody, withHeader])]
  exact execAll_cons (exec_endMark_received f h hkind)

end Sys2Proof.Machine
end

section
/-! SUPPORT and the settling of O30: the checks of a control frame (R21 to R29). -/

namespace Sys2Proof.Machine

/-! ### The form step -/

/-- A frame that fails the form step is answered MALFORMED and changes nothing (R22). -/
theorem exec_malformedControlFrame {f : Frame} {s : State} (h : CanExecute s) (hread : readRequest f = none) :
    exec (.malformedControlFrame f) s = .next (deliver (controlAnswer f .malformed 0 []) s) := by
  have htaken : startExecution f (s.modLrx fun l => { l with execute := some f })
      = queueAnswer (controlAnswer f .malformed 0 []) s := by
    obtain ⟨-, -, hexecute, hintake, hheld, hslot⟩ := h
    have hfree : slotFree (s.modLrx fun l => { l with execute := some f }) = true := hslot
    unfold startExecution
    rw [if_pos hfree]
    simp only [executeFrame, hread]
    cases s with
    | mk lrx cmuSlot _ _ _ _ _ _ _ _ _ _ _ _ _ =>
      cases lrx
      simp_all [advanceBuffers, finishExecution, State.modLrx, State.setCmuSlot, State.setLrx]
      rfl
  refine congrArg Host.Outcome.next ?_
  rw [takeControl_canExecute _ s h, htaken, settle_queueAnswer _ s h.1]

/-! ### The range step -/

theorem inRange_iff {low x high : Nat} : inRange low x high = true ↔ low ≤ x ∧ x ≤ high := by
  simp [inRange]

theorem inRangeInt_iff {low x high : Int} : inRangeInt low x high = true ↔ low ≤ x ∧ x ≤ high := by
  simp [inRangeInt]

/-- Six channel numbers differ as bytes exactly where they do as numbers. -/
theorem nodup_toNat_iff (cs : List Byte) : (cs.map BitVec.toNat).Nodup ↔ cs.Nodup :=
  List.nodup_map_iff fun _ _ h => BitVec.eq_of_toNat_eq h

/-- LINE_CONFIG's range step is the table of R24 and R87. -/
theorem lineRangeOk_iff (c : LineFields) : lineRangeOk c = true ↔ LineRanges c := by
  have hmin : Config.minPitch = 65536 := rfl
  have hmax : Config.maxPitch = 16777215 := rfl
  have hone : Config.pitchOne = 65536 := rfl
  have hspan : Config.maxSpanLines = 12288 := rfl
  have hdiffer := nodup_toNat_iff [c.ch1, c.ch2, c.ch3, c.ch4, c.ch5, c.ch6]
  have hchannels : (∀ x ∈ [c.ch1.toNat, c.ch2.toNat, c.ch3.toNat, c.ch4.toNat, c.ch5.toNat, c.ch6.toNat], x ≤ 5)
      ↔ ∀ ch ∈ [c.ch1, c.ch2, c.ch3, c.ch4, c.ch5, c.ch6], ch.toNat ≤ 5 :=
    List.forall_mem_map (f := BitVec.toNat) (l := [c.ch1, c.ch2, c.ch3, c.ch4, c.ch5, c.ch6])
  simp only [List.map_cons, List.map_nil] at hdiffer
  simp only [lineRangeOk, LineRanges, Bool.and_eq_true, inRange_iff, decide_eq_true_eq, List.all_eq_true,
    channelsDiffer, hdiffer, hchannels, basePitch, forall_eq, and_assoc, hmin, hmax, hone, hspan]

/-- HEAT_CONFIG's range step is the table of R150. -/
theorem heatRangeOk_iff (c : HeatFields) : heatRangeOk c = true ↔ HeatRanges c := by
  simp only [heatRangeOk, HeatRanges, Bool.and_eq_true, inRange_iff, inRangeInt_iff, decide_eq_true_eq]
  simp
  tauto

/-- TENSION_CONFIG's range step is the table of R78. -/
theorem tensionRangeOk_iff (c : TensionFields) : tensionRangeOk c = true ↔ TensionRanges c := by
  simp only [tensionRangeOk, TensionRanges, Bool.and_eq_true, inRange_iff, decide_eq_true_eq]
  tauto

/-- TABLE's range step is that of R23 and R29. -/
theorem tableRangeOk_iff (slot piece : Byte) (body : TableBody) :
    tableRangeOk slot.toNat piece.toNat body = true ↔ RangeMet (.table slot piece body) := by
  cases body with
  | header h =>
    simp [tableRangeOk, RangeMet, inRange_iff]
    tauto
  | _ => simp [tableRangeOk, RangeMet]

/-- ALERT_CONFIG's range step is that of R25 and R168. -/
theorem alertRangeOk_iff (source level grade mode : Byte) :
    alertRangeOk source.toNat level.toNat grade.toNat mode.toNat = true
      ↔ RangeMet (.alertConfig source level grade mode) := by
  simp only [alertRangeOk, RangeMet, Bool.and_eq_true, Bool.or_eq_true, inRange_iff, decide_eq_true_eq]
  omega

/-- FABRIC_LOAD's range step is that of R25. -/
theorem fabricRangeOk_iff (c : FabricFields) : fabricRangeOk c = true ↔ RangeMet (.fabricLoad c) := by
  simp only [fabricRangeOk, RangeMet, Bool.and_eq_true, inRange_iff, inRangeInt_iff, decide_eq_true_eq]
  tauto

theorem rangeOk_iff (r : Request) : rangeOk r = true ↔ RangeMet r := by
  cases r with
  | table slot piece body => exact tableRangeOk_iff slot piece body
  | lineConfig c => exact lineRangeOk_iff c
  | heatConfig c => exact heatRangeOk_iff c
  | tensionConfig c => exact tensionRangeOk_iff c
  | barConfig bars =>
    have hbit : bars.getLsbD 0 = true ↔ bars.toNat % 2 = 1 := by
      simp [BitVec.getLsbD, Nat.testBit_zero]
    simp only [rangeOk, RangeMet, Bool.and_eq_true, decide_eq_true_eq, hbit]
  | alertConfig source level grade mode => exact alertRangeOk_iff source level grade mode
  | fabricLoad c => exact fabricRangeOk_iff c
  | _ => simp [rangeOk, RangeMet, inRange_iff]

/-! ### The mode step -/

theorem modeOk_iff (s : State) (r : Request) : modeOk s r = true ↔ ModeMet s r := by
  cases r <;> simp [modeOk, ModeMet, or_assoc]

/-! ### The object step -/

/-- A record of a tag is in the list exactly where it is found. -/
theorem findSeg_isSome_iff {seg : Tag} {l : List Segment} : (findSeg seg l).isSome = true ↔ ∃ r ∈ l, r.tag = seg := by
  simp [findSeg]

theorem holdIntake_le_rank {g : Grade} : Grade.rank .holdIntake ≤ g.rank ↔ g ≠ .note := by
  cases g <;> simp [Grade.rank]

/-- SEGMENT_OPEN finds no profile where its slot has no ACTIVE bank (R107). -/
theorem activeHeader_of_none {s : State} {slot : Fin 8} (h : activeBank s.pfs.slots[slot] = none) :
    activeHeader s slot = none := by
  rw [activeHeader, h]

theorem activeHeader_of_some {s : State} {slot : Fin 8} {id : BankId} {x : Header}
    (h : activeBank s.pfs.slots[slot] = some id) (hheader : headerOf (bankOf s slot id) = some x) :
    activeHeader s slot = some (id, x) := by
  simp only [activeHeader, h, hheader]

theorem intakeFabric_of_some {s : State} {k : Fin 16} {f : Fabric} (h : s.tnc.intake = some k)
    (hrecord : s.tnc.fabrics[k].record = some f) : intakeFabric s = some (k, f) := by
  simp only [intakeFabric, h, hrecord]

/-- The object step of SEGMENT_OPEN is the table of R107 in its order. -/
theorem openChecks (s : State) (slot : Fin 8) (seg : Tag) : OpenChecks s slot seg (openObject s slot seg) := by
  have hplaces : Config.runListPlaces = 32 := rfl
  unfold openObject
  simp only [holdIntake_le_rank, findSeg_isSome_iff, hplaces]
  refine ⟨fun hreaction => if_pos hreaction, fun hreaction hfull => ?_, fun hreaction hroom hsome => ?_,
    fun hreaction hroom hnone => ?_⟩
  · rw [if_neg (not_not_intro hreaction), if_pos hfull]
  · rw [if_neg (not_not_intro hreaction), if_neg (by omega), if_pos hsome]
  rw [if_neg (not_not_intro hreaction), if_neg (by omega), if_neg fun ⟨r, hr, htag⟩ => hnone r hr htag]
  refine ⟨fun hbank => by rw [activeHeader_of_none hbank], fun id x hbank hheader => ?_⟩
  rw [activeHeader_of_some hbank hheader]
  refine ⟨fun hintake => by simp only [intakeFabric, hintake], fun k f hintake hrecord => ?_⟩
  simp only [intakeFabric_of_some hintake hrecord]
  exact ⟨fun hcold => if_pos hcold, fun hwarm => if_neg (not_lt.mpr hwarm)⟩

theorem objectCheck_segmentOpen (s : State) (slot : Byte) (seg : Tag) (lines : W16) (gap : W32) :
    objectCheck s (.segmentOpen slot seg lines gap) = (openObject s (slotOf slot) seg).map fun code => (code, 0) := by
  simp only [objectCheck]
  cases openObject s (slotOf slot) seg <;> rfl

/-- Settles O30: by the step that fails, and by the tables of ranges, modes and objects. -/
theorem refusedFrameChangesNothing : Obligations.RefusedFrameChangesNothing := by
  refine ⟨fun s h => ⟨fun f hread => exec_malformedControlFrame h hread, fun tag r hfits => ⟨fun hrange => ?_,
    fun hrange hmode => ?_,
    fun code detail hrange hmode hobject => ?_⟩⟩, rangeOk_iff, modeOk_iff, fun s => ⟨fun slot seg lines gap => ⟨?_, ?_⟩,
      ?_, ?_, fun seg => ⟨?_, ?_⟩⟩⟩
  · exact exec_refused h hfits (by simp [refusal, hrange])
  · exact exec_refused h hfits (by simp [refusal, hrange, hmode])
  · exact exec_refused h hfits (by simp [refusal, hrange, hmode, hobject])
  · have hcheck : (objectCheck s (.segmentOpen slot seg lines gap)).map Prod.fst = openObject s (slotOf slot) seg := by
      rw [objectCheck_segmentOpen, Option.map_map]
      exact Option.map_id'
    rw [hcheck]
    exact openChecks s (slotOf slot) seg
  · simp [objectCheck_segmentOpen]
  · simp [objectCheck]
  · simp [objectCheck]
  · simp only [objectCheck, findSeg_isSome_iff]
  · simp only [objectCheck, findSeg_isSome_iff]

end Sys2Proof.Machine
end

section
/-! SUPPORT and the settling of O35: BAR_CONFIG (R143, R144). -/

namespace Sys2Proof.Machine

/-- A reaction handed on to a line at rest does not change its mode (R95). -/
theorem handReaction_mode_of_rest {s : State} (h : s.mou.mode = .standby ∨ s.mou.mode = .halted) :
    (handReaction s).mou.mode = s.mou.mode := by
  have hrest : ∀ g, stopReaction (s.modAlc fun a => { a with reaction := g }) = s.modAlc fun a =>
      { a with reaction := g } := by
    intro g
    rcases h with h | h <;> simp [stopReaction, h]
  unfold handReaction
  simp only
  split
  · rfl
  · split <;> simp [hrest]

theorem settle_mode_of_rest {s : State} (h : s.mou.mode = .standby ∨ s.mou.mode = .halted) :
    (settle s).mou.mode = s.mou.mode := by
  have hlogged : (logAndEvaluate s).mou = s.mou := by simp
  have hkept := handReaction_mode_of_rest (s := logAndEvaluate s) (by rwa [hlogged])
  simp [settle, hkept]

theorem configuredBar_of_set {s : State} {k : Bar} {b : BarUnit} : configuredBar s k true b = { b with
    state := if b.state = .active ∨ b.fault = false then .active else .faulted
    cursor := if b.state = .off then firstLineAbove s.line s.mou.p k s.rls else b.cursor } := by
  by_cases hactive : b.state = .active <;> by_cases hfault : b.fault = true <;> simp [configuredBar, hactive, hfault]

theorem configuredBar_of_outside {s : State} {k : Bar} {b : BarUnit} :
    configuredBar s k false b = { b with state := .off, cursor := none } := rfl

/-- The bars a BAR_CONFIG leaves (R143). -/
theorem barConfigEffect_bars (bars : Byte) (s : State) (k : Bar) :
    (barConfigEffect (barSetOf bars) s).bars[k] = configuredBar s k (bars.getLsbD k.val) s.bars[k] := by
  simp [barConfigEffect, barSetOf]

/-- BAR_FAULT follows the bars a BAR_CONFIG leaves (R142). -/
theorem barConfigEffect_barFault (bars : Byte) (s : State)
    (h : s.alc.holds[AlertSource.barFault.index] = barFaultHolds s.bars) :
    (barConfigEffect (barSetOf bars) s).alc.holds[AlertSource.barFault.index]
      = barFaultHolds (barConfigEffect (barSetOf bars) s).bars := by
  have hjudged := judgeBarFault_holds s.bars
    (s.setBars (Vector.ofFn fun k => configuredBar s k (barSetOf bars)[k] s.bars[k])) h
  simp only [barConfigEffect, freeEntries_frame, State.setRls_alc, State.setRls_bars, judgeBarFault_frame, hjudged,
    State.setBars_bars, getElem_set_index, if_true]

/-- Settles O35: the bars in the set and outside it, and BAR_FAULT judged over them (R142, R143). -/
theorem barConfig : Obligations.BarConfig := by
  intro s tag bars h hodd hsix hmode
  have hpass : refusal s (.barConfig bars) = none := by
    rcases hmode with hmode | hmode <;> simp [refusal, rangeOk, hodd, hsix, modeOk, hmode, objectCheck]
  have hexec := exec_answered (tag := tag) (r := .barConfig bars) h rfl hpass rfl
  generalize hv : barConfigEffect (barSetOf bars) (executing tag (.barConfig bars) s) = v at hexec
  have hbar (k : Bar) : v.bars[k] = configuredBar s k (bars.getLsbD k.val) s.bars[k] := by
    rw [← hv]
    exact barConfigEffect_bars bars _ k
  have hv_mou : v.mou = s.mou := by
    rw [← hv]
    simp [barConfigEffect, executing, State.modLrx]
  have hv_ltx : v.ltx = s.ltx := by
    rw [← hv]
    simp [barConfigEffect, executing, State.modLrx]
  have hv_rest : v.cpa = s.cpa ∧ v.pfs = s.pfs ∧ v.tnc = s.tnc ∧ v.line = s.line := by
    rw [← hv]
    simp [barConfigEffect, executing, State.modLrx]
  have hv_holds : s.alc.holds[AlertSource.barFault.index] = barFaultHolds s.bars →
      v.alc.holds[AlertSource.barFault.index] = barFaultHolds v.bars := by
    rw [← hv]
    exact barConfigEffect_barFault bars (executing tag (.barConfig bars) s)
  obtain ⟨htx, hanswers⟩ := settle_queueAnswer_ltx (answerTo tag (.barConfig bars) .accepted 0 [])
    (v := advanceBuffers (v.setCmuSlot false)) h.1 (by simp [advanceBuffers, State.modLrx, hv_ltx])
  refine ⟨_, hexec, htx, hanswers, fun k => ?_, fun k hout => ?_, fun k hin => ?_, fun hheld => ?_, ?_⟩
  · simp only [settle_bars, queueAnswer, State.setLtx_bars, advanceBuffers, State.modLrx, State.setLrx_bars,
      State.setCmuSlot_bars, hbar]
    cases bars.getLsbD k.val <;> simp [configuredBar_of_set, configuredBar_of_outside]
  · simp only [settle_bars, queueAnswer, State.setLtx_bars, advanceBuffers, State.modLrx, State.setLrx_bars,
      State.setCmuSlot_bars, hbar, hout, configuredBar_of_outside, and_self]
  · simp only [settle_bars, queueAnswer, State.setLtx_bars, advanceBuffers, State.modLrx, State.setLrx_bars,
      State.setCmuSlot_bars, hbar, hin, configuredBar_of_set, and_self]
  · simpa [queueAnswer, advanceBuffers, State.modLrx] using hv_holds hheld
  · rw [settle_mode_of_rest (by simpa [queueAnswer, advanceBuffers, State.modLrx, hv_mou] using hmode)]
    simp [queueAnswer, advanceBuffers, State.modLrx, hv_mou, hv_rest]

end Sys2Proof.Machine
end

section
/-! SUPPORT and the settling of O44: SEGMENT_OPEN (R105 to R110). -/

namespace Sys2Proof.Machine

/-! ### The targets formed again -/

/-- Both targets stand formed where they have been formed last (R100, R152). -/
theorem formed_targets (s : State) :
    (formHeat (formSpeed s)).mou.target = speedTarget (formHeat (formSpeed s))
      ∧ ((formHeat (formSpeed s)).htc.target, (formHeat (formSpeed s)).htc.band, (formHeat (formSpeed s)).htc.source)
        = heatAim (formHeat (formSpeed s)) :=
  ⟨rfl, rfl⟩

/-! ### The newest record and the tension source -/

theorem segsAfter_append {t : Tag} {l : List Segment} (r : Segment) (h : ∃ y ∈ l, y.tag = t) :
    ∃ front, segsAfter t (l ++ [r]) = front ++ [r] := by
  induction l with
  | nil => simp at h
  | cons x xs ih =>
    by_cases hx : x.tag = t
    · exact ⟨xs, by simp [segsAfter, hx]⟩
    · obtain ⟨y, hy, htag⟩ := h
      rcases List.mem_cons.mp hy with rfl | hy
      · exact absurd htag hx
      · simpa [segsAfter, hx] using ih ⟨y, hy, htag⟩

theorem newestLive_append {test : Segment → Bool} {r : Segment} (l : List Segment) (hlive : r.live = true)
    (htest : test r = true) : newestLive test (l ++ [r]) = some r := by
  simp [newestLive, hlive, htest]

/-- The newest record becomes the source where it qualifies (R73). -/
theorem tensionQualify_newest {s : State} {l : List Segment} {r : Segment} (hrls : s.rls = l ++ [r])
    (hlive : r.live = true) (hsource : ∀ x, s.tnc.source = some x → ∃ y ∈ l, y.tag = x)
    (hqualifies : tensionQualifies s r = true) :
    (tensionQualify s).tnc.source = some r.tag ∧ (tensionQualify s).tnc.tension = some r.fabric := by
  have hnewest : tensionQualify s
      = sourceBecomes r ((r.start : Int) + s.line.nipDist - s.tnc.group.taperLen) s := by
    unfold tensionQualify
    cases hs : s.tnc.source with
    | none => simp only [hrls, newestLive_append l hlive hqualifies]
    | some x =>
      obtain ⟨front, hfront⟩ := segsAfter_append r (hsource x hs)
      simp only [hrls, hfront, newestLive_append front hlive hqualifies]
  rw [hnewest, sourceBecomes, setTension_source, setTension_tension]
  exact ⟨rfl, rfl⟩

theorem tensionQualify_executing (tag : Tag) (r : Request) (s : State) :
    tensionQualify (executing tag r s) = executing tag r (tensionQualify s) := by
  unfold tensionQualify
  have hnewest : ∀ l, newestLive (tensionQualifies (executing tag r s)) l = newestLive (tensionQualifies s) l :=
    fun l => rfl
  have hsource : (executing tag r s).tnc.source = s.tnc.source := rfl
  have hrls : (executing tag r s).rls = s.rls := rfl
  simp only [hnewest, hsource, hrls]
  split <;> rfl

/-! ### The record joins the list -/

/-- The list, the counts and the cursors when a record has joined (R47, R52, R69, R134). -/
def joined (r : Segment) (s : State) : State :=
  let s1 := modSegs r.fabric (· + 1) (bindBank r.slot r.bank (s.setRls (s.rls ++ [r])))
  cursorsOpen r.tag (s1.setCpa (if s.cpa = none then some { tag := r.tag, line := 0, pixel := 0 } else s.cpa))

theorem addSegment_eq (r : Segment) (s : State) :
    addSegment r s = formHeat (formSpeed (tensionQualify (joined r s))) := by
  have hcpa : (modSegs r.fabric (· + 1) (bindBank r.slot r.bank (s.setRls (s.rls ++ [r])))).cpa = s.cpa := rfl
  simp only [addSegment, joined, hcpa]
  split
  · rfl
  · rfl

theorem joined_executing (x : Segment) (tag : Tag) (r : Request) (s : State) :
    joined x (executing tag r s) = executing tag r (joined x s) := rfl

theorem addSegment_executing (x : Segment) (tag : Tag) (r : Request) (s : State) :
    addSegment x (executing tag r s) = executing tag r (addSegment x s) := by
  rw [addSegment_eq, addSegment_eq, joined_executing, tensionQualify_executing, formSpeed_executing, formHeat_executing]

theorem openEffect_of_found {s : State} {n : Fin 8} {id : BankId} {h : Header} {k : Fin 16} {f : Fabric} (seg : Tag)
    (lines gap : Nat) (hbank : activeHeader s n = some (id, h)) (hfabric : intakeFabric s = some (k, f)) :
    openEffect n seg lines gap s = addSegment (newSegment s n seg lines gap id h k f) s := by
  simp only [openEffect, hbank, hfabric]

theorem addSegment_bank (r : Segment) (s : State) (m : Fin 8) (x : BankId) :
    bankOf (addSegment r s) m x = bankOf (bindBank r.slot r.bank s) m x := by
  rw [bankOf, addSegment_pfs]
  rfl

theorem addSegment_fabrics (r : Segment) (s : State) : (addSegment r s).tnc.fabrics =
    s.tnc.fabrics.set r.fabric { s.tnc.fabrics[r.fabric] with segs := s.tnc.fabrics[r.fabric].segs + 1 } := by
  rw [addSegment_eq]
  simp [joined, cursorsOpen, modSegs, bindBank, State.modBank, vmod_eq_set, State.modTnc]

theorem addSegment_cpa (r : Segment) (s : State) : (addSegment r s).cpa =
    if s.cpa = none then some { tag := r.tag, line := 0, pixel := 0 } else s.cpa := by
  rw [addSegment_eq]
  simp [joined, cursorsOpen]

theorem addSegment_bars (r : Segment) (s : State) (b : Bar) : (addSegment r s).bars[b] =
    if s.bars[b].state ≠ .off ∧ s.bars[b].cursor = none then { s.bars[b] with cursor := some (r.tag, 0) }
    else s.bars[b] := by
  rw [addSegment_eq]
  have hbars : (joined r s).bars = (cursorsOpen r.tag s).bars := rfl
  by_cases hoff : s.bars[b].state = .off
  · simp_all [cursorsOpen, BarUnit.enabled, vmap]
  · simp_all [cursorsOpen, BarUnit.enabled, vmap]

theorem addSegment_source {r : Segment} {s : State} (hlive : r.live = true)
    (hsource : ∀ x, s.tnc.source = some x → ∃ y ∈ s.rls, y.tag = x) (hqualifies : tensionQualifies s r = true) :
    (addSegment r s).tnc.source = some r.tag ∧ (addSegment r s).tnc.tension = some r.fabric := by
  rw [addSegment_eq]
  exact tensionQualify_newest (s := joined r s) rfl hlive hsource hqualifies

/-- Settles O44: the record SEGMENT_OPEN makes, and what joining the list changes. -/
theorem segmentOpen : Obligations.SegmentOpen := by
  intro s tag slot seg lines gap n id x k f h hslot hn hlines hwidth hmode hreaction hroom hfresh hactive hheader
    hintake
    hrecord hwarm
  subst hn
  have hbank := activeHeader_of_some hactive hheader
  have hfabric := intakeFabric_of_some hintake hrecord
  obtain ⟨-, -, -, hchecks⟩ := openChecks s (slotOf slot) seg
  obtain ⟨-, hopen⟩ := hchecks hreaction hroom hfresh
  obtain ⟨-, hopen⟩ := hopen id x hactive hheader
  obtain ⟨-, hopen⟩ := hopen k f hintake hrecord
  have hpass : refusal s (.segmentOpen slot seg lines gap) = none := by
    rw [refusal_of_passes (by simp [rangeOk, hslot, hlines]) (by simp [modeOk, hwidth, hmode]),
      objectCheck_segmentOpen, hopen hwarm, Option.map_none]
  let r := newSegment s (slotOf slot) seg lines.toNat gap.toNat id x k f
  have heffect : perform (.segmentOpen slot seg lines gap) (executing tag (.segmentOpen slot seg lines gap) s)
      = (executing tag (.segmentOpen slot seg lines gap) (addSegment r s), .answer .accepted 0 []) := by
    refine congrArg (·, accepted) ?_
    rw [openEffect_of_found seg lines.toNat gap.toNat (s := executing tag _ s) hbank hfabric]
    exact addSegment_executing r tag _ s
  have hexec := exec_effect (tag := tag) (r := .segmentOpen slot seg lines gap) (u :=
    addSegment r s) h rfl hpass heffect
    (by simp) (by simp) (by simp) (by simp) (by simp)
  obtain ⟨htarget, haim⟩ := formed_targets (tensionQualify (joined r s))
  rw [← addSegment_eq] at htarget haim
  refine ⟨r, addSegment r s, hexec, addSegment_rls r s, rfl, rfl, rfl, rfl, rfl, rfl, rfl, rfl, rfl, rfl, rfl, rfl,
    rfl, rfl,
    rfl, rfl, rfl, rfl, fun b => by simp [r, newSegment], rfl, rfl, rfl, rfl, ?_, fun m y hother => ?_,
      addSegment_fabrics r s,
    addSegment_cpa r s, addSegment_bars r s, fun hsource hqualifies =>
      addSegment_source rfl hsource (decide_eq_true hqualifies), htarget, haim, ?_⟩
  · rw [addSegment_bank]
    exact bankOf_modBank_same s _ _ _
  · rw [addSegment_bank]
    exact bankOf_modBank_other s _ _ _ _ _ hother
  · simp [h.2.1]

end Sys2Proof.Machine
end

section
/-! SUPPORT and the settling of O45: SEGMENT_ABORT (R119 to R123), and the LINE frame it overtakes (R10, R13). -/

namespace Sys2Proof.Machine

/-! ### The LINE frame that is overtaken -/

/-- The LINE frame in reception becomes refused, or dropped with LINK_ERROR(ANSWER_OVERRUN) (R10, R13). -/
def withOvertaken (l : LineRx) (s : State) : State :=
  if l = .dropped then
    raiseLinkError .answerOverrun (rxKind s.lrx) (rxTag s.lrx) (s.setLrx { s.lrx with line := l })
  else s.setLrx { s.lrx with line := l }

theorem withOvertaken_dropped (s : State) : withOvertaken .dropped s =
    raiseLinkError .answerOverrun (rxKind s.lrx) (rxTag s.lrx) (s.setLrx { s.lrx with line := .dropped }) := rfl

theorem withOvertaken_of_ne {l : LineRx} {s : State} (h : l ≠ .dropped) :
    withOvertaken l s = s.setLrx { s.lrx with line := l } :=
  if_neg h

theorem withOvertaken_executing (l : LineRx) (tag : Tag) (r : Request) (s : State) :
    withOvertaken l (executing tag r s) = executing tag r (withOvertaken l s) := by
  by_cases h : l = .dropped
  · subst h
    rfl
  · rw [withOvertaken_of_ne h, withOvertaken_of_ne h]
    rfl

theorem overtakeOf_accepted {s : State} {seg : Tag} {line offset count : Nat} {slot : Bool} (code : AnswerCode)
    (h : s.lrx.line = .accepted seg line offset count slot) :
    overtakeOf seg code s = withOvertaken (overtaken slot (slotsInUse s) code) s := by
  have hreceiving : receivingLineOf seg s = true := by simp [receivingLineOf, h]
  have hslots : Config.answerSlots = 4 := rfl
  rw [overtakeOf, if_pos hreceiving]
  simp only [overtake, h, slotFree, decide_eq_true_eq, hslots, overtaken]
  split
  · exact (withOvertaken_of_ne (by simp)).symm
  · exact (withOvertaken_dropped s).symm

theorem overtakeOf_of_not_accepted {s : State} {seg : Tag} (code : AnswerCode)
    (h : ∀ line offset count slot, s.lrx.line ≠ .accepted seg line offset count slot) : overtakeOf seg code s = s := by
  have hreceiving : receivingLineOf seg s = false := by
    unfold receivingLineOf
    split
    · next heq => exact decide_eq_false fun htag => h _ _ _ _ (by rw [heq, htag])
    · rfl
  rw [overtakeOf, hreceiving]
  rfl

/-- The slots while a request executes: one more is held (R16). -/
theorem slotsInUse_executing {s : State} (tag : Tag) (r : Request) (h : s.cmuSlot = false) :
    slotsInUse (executing tag r s) = slotsInUse s + 1 := by
  rw [slotsInUse_eq, slotsInUse_eq, h]
  rfl

/-! ### A WAITING record leaves -/

/-- The list, the references, the entries and the cursors when a WAITING record has left (R106, R118, R121, R134). -/
def removed (r : Segment) (s : State) : State :=
  let s1 := releaseRefs r (removeSegment r.tag (s.setLst (voidEntries r.tag s.lst)))
  s1.setCpa (if s.cpa.map FillCursor.tag = some r.tag then cursorAtOldestFilling s1.rls else s.cpa)

/-- What follows a record's removal: the tension source, the freeing test and both targets (R73, R100, R132, R152). -/
def afterRemoval (seg : Tag) (s : State) : State :=
  formHeat (formSpeed (freeEntries (tensionReleased seg s)))

theorem abortWaiting_of_cursor {r : Segment} {s : State} (h : s.cpa.map FillCursor.tag = some r.tag) :
    abortWaiting r s = afterRemoval r.tag (overtakeOf r.tag .unknownSegment (removed r s)) := by
  simp only [abortWaiting, removed, h, decide_true, if_true]
  rfl

theorem abortWaiting_of_not_cursor {r : Segment} {s : State} (h : s.cpa.map FillCursor.tag ≠ some r.tag) :
    abortWaiting r s = afterRemoval r.tag (removed r s) := by
  simp only [abortWaiting, removed, h, decide_false, if_false]
  rfl

theorem removed_executing (x : Segment) (tag : Tag) (r : Request) (s : State) :
    removed x (executing tag r s) = executing tag r (removed x s) := rfl

/-- The state with another LRX, another held slot and another ALC. -/
def withLink (l : Lrx) (b : Bool) (a : Alc) (s : State) : State :=
  ((s.setLrx l).setCmuSlot b).setAlc a

theorem tensionReleased_withLink (seg : Tag) (l : Lrx) (b : Bool) (a : Alc) (s : State) :
    tensionReleased seg (withLink l b a s) = withLink l b a (tensionReleased seg s) := by
  have hsource : (withLink l b a s).tnc.source = s.tnc.source := rfl
  have hnewest : newestLive (tensionQualifies (withLink l b a s)) (withLink l b a s).rls
      = newestLive (tensionQualifies s) s.rls := rfl
  simp only [tensionReleased, hsource, hnewest]
  by_cases h : s.tnc.source = some seg
  · rw [if_pos h, if_pos h]
    cases newestLive (tensionQualifies s) s.rls <;> rfl
  · rw [if_neg h, if_neg h]

theorem formSpeed_withLink {l : Lrx} {b : Bool} {a : Alc} {s : State} (h : a.reaction = s.alc.reaction) :
    formSpeed (withLink l b a s) = withLink l b a (formSpeed s) := by
  have htarget : speedTarget (withLink l b a s) = speedTarget s := speedTarget_congr (fun _ => rfl) rfl rfl rfl h
  simp only [formSpeed, htarget]
  rfl

theorem formHeat_withLink {l : Lrx} {b : Bool} {a : Alc} {s : State} (h : a.reaction = s.alc.reaction) :
    formHeat (withLink l b a s) = withLink l b a (formHeat s) := by
  have haim : heatAim (withLink l b a s) = heatAim s := heatAim_congr rfl rfl rfl rfl rfl h
  simp only [formHeat, haim]
  rfl

theorem afterRemoval_withLink {seg : Tag} {l : Lrx} {b : Bool} {a : Alc} {s : State} (h : a.reaction = s.alc.reaction) :
    afterRemoval seg (withLink l b a s) = withLink l b a (afterRemoval seg s) := by
  have hfree : ∀ x, freeEntries (withLink l b a x) = withLink l b a (freeEntries x) := fun x => rfl
  have hreaction : (freeEntries (tensionReleased seg s)).alc.reaction = s.alc.reaction := by simp
  rw [afterRemoval, tensionReleased_withLink, hfree, formSpeed_withLink (h.trans hreaction.symm),
    formHeat_withLink (by rw [formSpeed_alc, h, hreaction]), afterRemoval]

@[simp] theorem afterRemoval_frame (seg : Tag) (s : State) :
    (afterRemoval seg s).lrx = s.lrx ∧ (afterRemoval seg s).cmuSlot = s.cmuSlot ∧ (afterRemoval seg s).ltx = s.ltx
      ∧ (afterRemoval seg s).line = s.line ∧ (afterRemoval seg s).pfs = s.pfs ∧ (afterRemoval seg s).cpa = s.cpa
      ∧ (afterRemoval seg s).bars = s.bars ∧ (afterRemoval seg s).rls = s.rls
      ∧ (afterRemoval seg s).mou.p = s.mou.p ∧ (afterRemoval seg s).mou.mode = s.mou.mode
      ∧ (afterRemoval seg s).htc.zones = s.htc.zones ∧ (afterRemoval seg s).htc.grade = s.htc.grade
      ∧ (afterRemoval seg s).alc = s.alc ∧ (afterRemoval seg s).tnc = (tensionReleased seg s).tnc := by
  simp [afterRemoval]

theorem afterRemoval_executing (seg : Tag) (tag : Tag) (r : Request) (s : State) :
    afterRemoval seg (executing tag r s) = executing tag r (afterRemoval seg s) := by
  obtain ⟨hlrx, -, -, -, -, -, -, -, -, -, -, -, halc, -⟩ := afterRemoval_frame seg s
  have hexecuting : ∀ x, executing tag r x
      = withLink { x.lrx with execute := some (requestFrame tag r) } true x.alc x := fun x => rfl
  rw [hexecuting, hexecuting, afterRemoval_withLink rfl, hlrx, halc]

theorem withOvertaken_eq (l : LineRx) (s : State) :
    withOvertaken l s = withLink { s.lrx with line := l } s.cmuSlot (withOvertaken l s).alc s := by
  by_cases h : l = .dropped
  · subst h
    rfl
  · rw [withOvertaken_of_ne h]
    rfl

theorem withOvertaken_reaction (l : LineRx) (s : State) : (withOvertaken l s).alc.reaction = s.alc.reaction := by
  unfold withOvertaken
  split <;> simp

theorem withOvertaken_alc_congr (l : LineRx) {s t : State} (hlrx : t.lrx = s.lrx) (halc : t.alc = s.alc)
    (hp : t.mou.p = s.mou.p) : (withOvertaken l t).alc = (withOvertaken l s).alc := by
  unfold withOvertaken
  split
  · simp only [raiseLinkError, raiseOcc, State.modAlc, linkCtx, plainCtx, State.setLrx_alc, State.setLrx_mou,
      State.setAlc_alc, hlrx, halc, hp] <;> rfl
  · simp [halc]

/-- The overtaken LINE frame does not bear on what follows the removal. -/
theorem afterRemoval_withOvertaken (seg : Tag) (l : LineRx) (s : State) :
    afterRemoval seg (withOvertaken l s) = withOvertaken l (afterRemoval seg s) := by
  obtain ⟨hlrx, hheld, -, -, -, -, -, -, hp, -, -, -, halc, -⟩ := afterRemoval_frame seg s
  rw [withOvertaken_eq, afterRemoval_withLink (withOvertaken_reaction l s), withOvertaken_eq l (afterRemoval seg s),
    hlrx,
    hheld, withOvertaken_alc_congr l hlrx halc hp]

/-! ### What the removal leaves -/

/-- The state when a WAITING record has been aborted, but for an overtaken LINE frame (R121). -/
def abortedWaiting (r : Segment) (s : State) : State :=
  afterRemoval r.tag (removed r s)

theorem abortedWaiting_frame (r : Segment) (s : State) :
    (abortedWaiting r s).alc = s.alc ∧ (abortedWaiting r s).ltx = s.ltx ∧ (abortedWaiting r s).lrx = s.lrx
      ∧ (abortedWaiting r s).cmuSlot = s.cmuSlot := by
  simp only [abortedWaiting, afterRemoval_frame]
  exact ⟨rfl, rfl, rfl, rfl⟩

theorem removed_rls (r : Segment) (s : State) : (removed r s).rls = s.rls.filter fun x => decide (x.tag ≠ r.tag) := by
  simp [removed, removeSegment_rls]

theorem removed_pfs (r : Segment) (s : State) : (removed r s).pfs = (releaseBank r.slot r.bank s).pfs := rfl

theorem removed_bars (r : Segment) (s : State) (b : Bar) :
    (removed r s).bars[b].state = s.bars[b].state ∧ (removed r s).bars[b].fault = s.bars[b].fault
      ∧ (removed r s).bars[b].cursor = (match s.bars[b].cursor with
        | some (x, y) => if x = r.tag then cursorAtHead (segsAfter r.tag s.rls) else some (x, y)
        | none => none) := by
  have hbars : (removed r s).bars = (cursorsLeave r.tag s).bars := rfl
  rw [hbars]
  have hbar : (cursorsLeave r.tag s).bars[b] = (match s.bars[b].cursor with
      | some (u, _) =>
        if u = r.tag then { s.bars[b] with cursor := cursorAtHead (segsAfter r.tag s.rls) } else s.bars[b]
      | none => s.bars[b]) := by
    simp only [cursorsLeave, State.setBars_bars, vmap, Fin.getElem_fin, Vector.getElem_ofFn] <;> rfl
  rw [hbar]
  rcases hcursor : s.bars[b].cursor with _ | ⟨x, y⟩
  · exact ⟨rfl, rfl, hcursor⟩
  · by_cases hx : x = r.tag
    · simp only [hx, if_true, and_self]
    · simp only [hx, if_false, hcursor, and_self]

theorem mem_dropWhile_of_not {α : Type} {p : α → Bool} {l : List α} {x : α} (h : x ∈ l) (hx : p x = false) :
    x ∈ l.dropWhile p := by
  rw [← List.takeWhile_append_dropWhile (p := p) (l := l)] at h
  rcases List.mem_append.mp h with h | h
  · exact absurd (List.mem_takeWhile_imp h) (by simp [hx])
  · exact h

/-- The entries that the removal leaves (R121, R132). -/
theorem mem_abortedWaiting_lst {r : Segment} {s : State} :
    (∀ e ∈ (abortedWaiting r s).lst, e.tag = r.tag → e.state = .void)
      ∧ (∀ e ∈ (abortedWaiting r s).lst, e.tag ≠ r.tag → e ∈ s.lst)
      ∧ ∀ e ∈ s.lst, e.tag ≠ r.tag → e.state = .filling → e ∈ (abortedWaiting r s).lst := by
  have hlst : (abortedWaiting r s).lst
      = (voidEntries r.tag s.lst).dropWhile (freesAtHead (tensionReleased r.tag (removed r s))) := by
    have hremoved : (removed r s).lst = voidEntries r.tag s.lst := rfl
    have hreleased : (tensionReleased r.tag (removed r s)).lst = (removed r s).lst := by simp
    simp only [abortedWaiting, afterRemoval, formHeat_lst, formSpeed_lst, freeEntries, State.setLst_lst, hreleased,
      hremoved]
  rw [hlst]
  refine ⟨fun e he htag => ?_, fun e he htag => ?_, fun e he htag hfilling => ?_⟩
  · obtain ⟨x, hx, rfl⟩ := List.mem_map.mp ((List.dropWhile_sublist _).mem he)
    by_cases hxtag : x.tag = r.tag
    · rw [if_pos hxtag]
    · rw [if_neg hxtag] at htag
      exact absurd htag hxtag
  · obtain ⟨x, hx, rfl⟩ := List.mem_map.mp ((List.dropWhile_sublist _).mem he)
    by_cases hxtag : x.tag = r.tag
    · rw [if_pos hxtag] at htag
      exact absurd hxtag htag
    · rwa [if_neg hxtag]
  · refine mem_dropWhile_of_not (List.mem_map.mpr ⟨e, he, if_neg htag⟩) ?_
    simp [freesAtHead, hfilling]

theorem tensionReleased_of_ne {seg : Tag} {s : State} (h : s.tnc.source ≠ some seg) : tensionReleased seg s = s :=
  if_neg h

theorem waitingRemoved (s : State) (r : Segment) : WaitingRemoved s (abortedWaiting r s) r.tag r := by
  obtain ⟨hvoid, hold, hkept⟩ := mem_abortedWaiting_lst (r := r) (s := s)
  obtain ⟨htarget, haim⟩ := formed_targets (freeEntries (tensionReleased r.tag (removed r s)))
  have hrls : (abortedWaiting r s).rls = s.rls.filter fun x => decide (x.tag ≠ r.tag) := by
    simp only [abortedWaiting, afterRemoval_frame, removed_rls]
  have hcpa : (abortedWaiting r s).cpa = (removed r s).cpa := by
    simp only [abortedWaiting, afterRemoval_frame]
  have hbank (m : Fin 8) (x : BankId) : bankOf (abortedWaiting r s) m x = bankOf (releaseBank r.slot r.bank s) m x := by
    have hpfs : (abortedWaiting r s).pfs = (removed r s).pfs := by simp only [abortedWaiting, afterRemoval_frame]
    rw [bankOf, hpfs, removed_pfs]
    rfl
  refine ⟨hrls, ?_, fun m x hother => ?_, ?_, fun hsource => ?_, fun c hc hne => ?_, fun c hc htag => ?_, hvoid, hold,
    hkept, fun b => ?_, htarget, haim, ?_⟩
  · rw [hbank, releaseBank, bankOf_modBank_same]
    simp only [releaseOf, Nat.sub_eq_zero_iff_le]
    rfl
  · rw [hbank]
    exact bankOf_modBank_other s _ _ _ _ _ hother
  · have hreleased : (tensionReleased r.tag (removed r s)).tnc.fabrics = (removed r s).tnc.fabrics := by simp
    simp only [abortedWaiting, afterRemoval_frame, hreleased]
    simp [removed, releaseRefs, modSegs, vmod_eq_set, State.modTnc, releaseBank, State.modBank]
  · have htnc : (abortedWaiting r s).tnc = (removed r s).tnc := by
      simp only [abortedWaiting, afterRemoval_frame]
      rw [tensionReleased_of_ne (s := removed r s) hsource]
    rw [htnc]
    exact ⟨rfl, rfl, rfl⟩
  · rw [hcpa]
    have hcursor : s.cpa.map FillCursor.tag ≠ some r.tag := by
      rw [Option.mem_def.mp hc, Option.map_some]
      exact fun h => hne (Option.some.inj h)
    exact if_neg hcursor
  · rw [hcpa, hrls, ← removed_rls]
    have hcursor : s.cpa.map FillCursor.tag = some r.tag := by rw [Option.mem_def.mp hc, Option.map_some, htag]
    exact if_pos hcursor
  · have hbars : (abortedWaiting r s).bars = (removed r s).bars := by simp only [abortedWaiting, afterRemoval_frame]
    rw [hbars]
    exact removed_bars r s b
  · simp only [abortedWaiting, afterRemoval_frame]
    exact ⟨rfl, rfl, rfl, rfl, rfl, rfl, rfl, rfl⟩

/-! ### A PRINTING record is flagged, and sealed where it is filling -/

theorem oldestFilling_modSeg (seg : Tag) (f g : Segment → Segment) (l : List Segment)
    (hfill : ∀ x, (f x).fill = (g x).fill) (htag : ∀ x, (f x).tag = (g x).tag) :
    cursorAtOldestFilling (modSeg seg f l) = cursorAtOldestFilling (modSeg seg g l) := by
  induction l with
  | nil => rfl
  | cons x xs ih =>
    unfold cursorAtOldestFilling oldestFilling modSeg at *
    simp only [List.map_cons, List.find?_cons]
    by_cases hx : x.tag = seg
    · simp only [hx, if_true, hfill]
      split
      · simp [htag]
      · exact ih
    · simp only [hx, if_false]
      split
      · rfl
      · exact ih

/-- The state when the filling segment has been aborted in PRINTING, but for an overtaken LINE frame (R122). -/
def abortedFilling (seg : Tag) (line : Nat) (s : State) : State :=
  ((s.setRls (modSeg seg (fun x => { x with
      fill := .sealed, flags := { x.flags with aborted := true, spoiled := true } }) s.rls)).setLst
    (releaseFilling seg line s.lst)).setCpa
      (cursorAtOldestFilling (modSeg seg (fun x => { x with fill := .sealed }) s.rls))

theorem modSeg_modSeg (seg : Tag) (f g : Segment → Segment) (l : List Segment) (h : ∀ x, (f x).tag = x.tag) :
    modSeg seg g (modSeg seg f l) = modSeg seg (fun x => g (f x)) l := by
  simp only [modSeg, List.map_map]
  refine List.map_congr_left fun x _ => ?_
  by_cases hx : x.tag = seg <;> simp [hx, h]

theorem sealSegment_abortFlags {s : State} {c : FillCursor} (seg : Tag) (l : List Entry) (hcpa : s.cpa = some c)
    (htag : c.tag = seg) : sealSegment seg ((abortFlags seg s).setLst l)
      = ((s.setRls (modSeg seg (fun x => { x with
          fill := .sealed, flags := { x.flags with aborted := true, spoiled := true } }) s.rls)).setLst l).setCpa
          (cursorAtOldestFilling (modSeg seg (fun x => { x with fill := .sealed }) s.rls)) := by
  have hrls : modSeg seg (fun x => { x with fill := .sealed }) (abortFlags seg s).rls = modSeg seg (fun x => { x with
      fill := .sealed, flags := { x.flags with aborted := true, spoiled := true } }) s.rls :=
    modSeg_modSeg seg _ _ s.rls fun _ => rfl
  have hcursor : cursorAtOldestFilling (modSeg seg (fun x => { x with
        fill := .sealed, flags := { x.flags with aborted := true, spoiled := true } }) s.rls)
      = cursorAtOldestFilling (modSeg seg (fun x => { x with fill := .sealed }) s.rls) :=
    oldestFilling_modSeg seg _ _ s.rls (fun _ => rfl) fun _ => rfl
  have hcpa' : ((abortFlags seg s).setLst l).cpa = some c := hcpa
  simp only [sealSegment, hcpa', htag, if_true, State.modSegment, State.setLst_rls, State.setRls_rls, hrls, hcursor]
  rfl

theorem abortPrinting_of_filling {s : State} {r : Segment} {c : FillCursor} (hcpa : s.cpa = some c)
    (htag : c.tag = r.tag) (hfill : r.fill = .filling) :
    abortPrinting r s = overtakeOf r.tag .late (abortedFilling r.tag c.line s) := by
  simp only [abortPrinting, hcpa, htag, hfill, and_self, if_true, sealSegment_abortFlags r.tag _ hcpa htag,
    abortedFilling]
  rfl

theorem abortPrinting_of_not_filling {s : State} {r : Segment}
    (h : (∀ c, s.cpa = some c → c.tag ≠ r.tag) ∨ r.fill = .sealed) : abortPrinting r s = abortFlags r.tag s := by
  unfold abortPrinting
  cases hcpa : s.cpa with
  | none => rfl
  | some c =>
    refine if_neg fun ⟨htag, hfill⟩ => ?_
    rcases h with h | h
    · exact h c hcpa htag
    · rw [h] at hfill
      cases hfill

/-! ### SEGMENT_ABORT -/

theorem refusal_segmentAbort {s : State} {seg : Tag} {r : Segment} (h : findSeg seg s.rls = some r) :
    refusal s (.segmentAbort seg) = none := by
  simp [refusal, rangeOk, modeOk, objectCheck, h]

theorem abortEffect_waiting {s : State} {seg : Tag} {r : Segment} (h : findSeg seg s.rls = some r)
    (hprint : r.print = .waiting) : abortEffect seg s = abortWaiting r s := by
  simp only [abortEffect, h, hprint]

theorem abortEffect_printing {s : State} {seg : Tag} {r : Segment} (h : findSeg seg s.rls = some r)
    (hprint : r.print = .printing) : abortEffect seg s = abortPrinting r s := by
  simp only [abortEffect, h, hprint]

theorem abortEffect_printed {s : State} {seg : Tag} {r : Segment} (h : findSeg seg s.rls = some r)
    (hprint : r.print = .printed) : abortEffect seg s = abortFlags seg s := by
  simp only [abortEffect, h, hprint]

/-- An abort that overtakes no LINE frame. -/
theorem exec_segmentAbort {s u : State} {tag seg : Tag} {r : Segment} (h : CanExecute s)
    (hfind : findSeg seg s.rls = some r)
    (heffect : abortEffect seg (executing tag (.segmentAbort seg) s) = executing tag (.segmentAbort seg) u)
    (halc : u.alc = s.alc) (hltx : u.ltx = s.ltx) (hlrx : u.lrx = s.lrx) (hheld : u.cmuSlot = s.cmuSlot) :
    exec (.segmentAbort tag seg) s = .next (deliver (answerTo tag (.segmentAbort seg) .accepted 0 []) u) :=
  exec_effect (r := .segmentAbort seg) h rfl (refusal_segmentAbort hfind) (congrArg (·, accepted) heffect) halc hltx
    (by rw [hlrx]) (by rw [hlrx]) hheld

/-- An abort that overtakes the LINE frame in reception. -/
theorem exec_segmentAbort_overtaken {s u : State} {tag seg : Tag} {r : Segment} {l : LineRx} (h : CanExecute s)
    (hfind : findSeg seg s.rls = some r)
    (heffect : abortEffect seg (executing tag (.segmentAbort seg) s)
      = executing tag (.segmentAbort seg) (withOvertaken l u))
    (halc : u.alc = s.alc) (hltx : u.ltx = s.ltx) (hlrx : u.lrx = s.lrx) (hheld : u.cmuSlot = s.cmuSlot) :
    (l ≠ .dropped → exec (.segmentAbort tag seg) s = .next (deliver
        (answerTo tag (.segmentAbort seg) .accepted 0 []) (u.setLrx { s.lrx with line := l })))
      ∧ (l = .dropped → exec (.segmentAbort tag seg) s = .next (settle (queueAnswer
        (answerTo tag (.segmentAbort seg) .accepted 0 [])
        (raiseLinkError .answerOverrun (rxKind s.lrx) (rxTag s.lrx) (u.setLrx { s.lrx with line := l }))))) := by
  obtain ⟨hexecute, hintake, hempty⟩ := h.buffersEmpty
  refine ⟨fun hl => ?_, fun hl => ?_⟩
  · rw [withOvertaken_of_ne hl, hlrx] at heffect
    exact exec_effect (r := .segmentAbort seg) h rfl (refusal_segmentAbort hfind) (congrArg (·, accepted) heffect) halc
      hltx rfl rfl hheld
  · subst hl
    rw [withOvertaken_dropped, hlrx] at heffect
    refine exec_settled (r := .segmentAbort seg) h rfl (refusal_segmentAbort hfind) (congrArg (·, accepted) heffect) ?_
    exact ⟨by simpa using hexecute, by simpa using hintake, by simpa [hheld] using hempty⟩

theorem abortWaiting_of_not_accepted {s : State} {r : Segment} (tag : Tag) (q : Request)
    (h : ∀ line offset count slot, s.lrx.line ≠ .accepted r.tag line offset count slot) :
    abortWaiting r (executing tag q s) = executing tag q (abortedWaiting r s) := by
  have hremoved : afterRemoval r.tag (removed r (executing tag q s)) = executing tag q (abortedWaiting r s) := by
    rw [removed_executing, afterRemoval_executing, abortedWaiting]
  by_cases hcursor : s.cpa.map FillCursor.tag = some r.tag
  · rw [abortWaiting_of_cursor (s := executing tag q s) hcursor, overtakeOf_of_not_accepted _ (by exact h), hremoved]
  · rw [abortWaiting_of_not_cursor (s := executing tag q s) hcursor, hremoved]

theorem abortWaiting_of_accepted {s : State} {r : Segment} {c : FillCursor} {line offset count : Nat} {slot : Bool}
    (tag : Tag) (q : Request) (hline : s.lrx.line = .accepted r.tag line offset count slot) (hcpa : s.cpa = some c)
    (htag : c.tag = r.tag) (hheld : s.cmuSlot = false) : abortWaiting r (executing tag q s)
      = executing tag q (withOvertaken (overtaken slot (slotsInUse s + 1) .unknownSegment) (abortedWaiting r s)) := by
  have hcursor : (executing tag q s).cpa.map FillCursor.tag = some r.tag :=
    (congrArg (·.map FillCursor.tag) hcpa).trans (congrArg some htag)
  have hslots : slotsInUse (executing tag q (removed r s)) = slotsInUse s + 1 := slotsInUse_executing tag q hheld
  rw [abortWaiting_of_cursor hcursor, removed_executing, overtakeOf_accepted .unknownSegment (by exact hline),
    hslots, withOvertaken_executing, afterRemoval_executing, afterRemoval_withOvertaken, abortedWaiting]

theorem abortedFilling_executing (seg : Tag) (line : Nat) (tag : Tag) (q : Request) (s : State) :
    abortedFilling seg line (executing tag q s) = executing tag q (abortedFilling seg line s) := rfl

/-- Settles O45: by the record's print state, without and with an accepted LINE frame of it in reception. -/
theorem segmentAbort : Obligations.SegmentAbort := by
  refine ⟨fun s tag seg r h hfind hline => ?_, fun s tag seg r line offset count slot c l h hfind hline hcpa htag hfill
    =>
    ?_⟩
  · obtain ⟨rfl, -⟩ := findSeg_some hfind
    refine ⟨fun hprint => ?_, fun hprint c hcpa htag hfill => ?_, fun hwhich => ?_⟩
    · obtain ⟨halc, hltx, hlrx, hheld⟩ := abortedWaiting_frame r s
      refine ⟨abortedWaiting r s, exec_segmentAbort h hfind ?_ halc hltx hlrx hheld, waitingRemoved s r⟩
      rw [abortEffect_waiting (s := executing tag _ s) hfind hprint, abortWaiting_of_not_accepted tag _ hline]
    · refine exec_segmentAbort (u := abortedFilling r.tag c.line s) h hfind ?_ rfl rfl rfl rfl
      rw [abortEffect_printing (s := executing tag _ s) hfind hprint,
        abortPrinting_of_filling (s := executing tag _ s) hcpa htag hfill, overtakeOf_of_not_accepted _
          (by exact hline),
        abortedFilling_executing]
    · refine exec_segmentAbort (u := abortFlags r.tag s) h hfind ?_ rfl rfl rfl rfl
      rcases hwhich with ⟨hprint, hnot⟩ | hprint
      · rw [abortEffect_printing (s := executing tag _ s) hfind hprint,
          abortPrinting_of_not_filling (s := executing tag _ s) hnot]
        rfl
      · rw [abortEffect_printed (s := executing tag _ s) hfind hprint]
        rfl
  · obtain ⟨rfl, -⟩ := findSeg_some hfind
    refine ⟨fun hprint hl => ?_, fun hprint hl => ?_⟩
    · obtain ⟨halc, hltx, hlrx, hheld⟩ := abortedWaiting_frame r s
      have habort : abortEffect r.tag (executing tag (.segmentAbort r.tag) s)
          = executing tag (.segmentAbort r.tag) (withOvertaken l (abortedWaiting r s)) := ?_
      · exact ⟨abortedWaiting r s, waitingRemoved s r,
          exec_segmentAbort_overtaken (u := abortedWaiting r s) h hfind habort halc hltx hlrx hheld⟩
      rw [abortEffect_waiting (s := executing tag _ s) hfind hprint,
        abortWaiting_of_accepted tag _ hline hcpa htag h.buffersEmpty.held, hl]
    · have habort : abortEffect r.tag (executing tag (.segmentAbort r.tag) s)
          = executing tag (.segmentAbort r.tag) (withOvertaken l (abortedFilling r.tag c.line s)) := ?_
      · exact ⟨abortedFilling r.tag c.line s, rfl,
          exec_segmentAbort_overtaken (u := abortedFilling r.tag c.line s) h hfind habort rfl rfl rfl rfl⟩
      have hslots : slotsInUse (executing tag (.segmentAbort r.tag) (abortedFilling r.tag c.line s)) = slotsInUse s + 1
        :=
        slotsInUse_executing tag _ h.buffersEmpty.held
      rw [abortEffect_printing (s := executing tag _ s) hfind hprint,
        abortPrinting_of_filling (s := executing tag _ s) hcpa htag hfill, abortedFilling_executing,
        overtakeOf_accepted .late (by exact hline), hslots, withOvertaken_executing, hl]

end Sys2Proof.Machine
end

section
/-! SUPPORT and the settling of O48: CLEAR_LINE (R50, R83, R104, R127, R147, R166, R189). -/

namespace Sys2Proof.Machine

/-! ### An execution that leaves ALC quiet -/

theorem deliver_of_ltx {s u : State} (a : Answer) (h : u.ltx = s.ltx) : deliver a u = u.setLtx (deliver a s).ltx := by
  by_cases hidle : s.ltx.tx = .idle
  · rw [deliver_of_idle hidle, deliver_of_idle (by rw [h]; exact hidle), h, State.setLtx_ltx]
  · rw [deliver_of_busy hidle, deliver_of_busy (by rw [h]; exact hidle), h, State.setLtx_ltx]

/-- As `exec_answered`, for an effect that leaves ALC quiet and LTX alone. -/
theorem exec_delivered {tag : Tag} {r : Request} {s v : State} {code : AnswerCode} {detail : Nat} {reply : List Byte}
    (h : CanExecute s) (hfits : requestFits r = true) (hpass : refusal s r = none)
    (heffect : perform r (executing tag r s) = (v, .answer code detail reply)) (halc : AlcQuiet v.alc)
    (hltx : v.ltx = s.ltx) : exec (rowOf tag r) s
      = .next (deliver (answerTo tag r code detail reply) (advanceBuffers (v.setCmuSlot false))) := by
  have hkept : (advanceBuffers (v.setCmuSlot false)).ltx = s.ltx := hltx
  rw [exec_answered h hfits hpass heffect, settle_of_answer (t := advanceBuffers (v.setCmuSlot false)) _ halc
    ((ltxChoose_eq_self_iff s).mp h.1.2.2.2) hkept,
    deliver_of_ltx _ hkept]

/-! ### What each block does -/

/-- The LINE frame in reception becomes refused, or dropped where no slot is free (R13). -/
theorem overtake_lrx (code : AnswerCode) (s : State) : (overtake code s).lrx = { s.lrx with
    line := match s.lrx.line with
      | .accepted _ _ _ _ slot => if slot = true ∨ slotsInUse s < 4 then .refused code else .dropped
      | x => x } := by
  have hslots : Config.answerSlots = 4 := rfl
  have hkept : (∀ seg line offset count slot, s.lrx.line ≠ .accepted seg line offset count slot) →
      overtake code s = s := by
    intro hnot
    unfold overtake
    split
    · next heq => exact absurd heq (hnot _ _ _ _ _)
    · rfl
  cases hline : s.lrx.line with
  | accepted seg line offset count slot =>
    simp only [overtake, hline, slotFree, decide_eq_true_eq, hslots]
    split <;> simp
  | undecided =>
    rw [hkept (by simp [hline])]
    exact congrArg (fun x => { s.lrx with line := x }) hline
  | refused answer =>
    rw [hkept (by simp [hline])]
    exact congrArg (fun x => { s.lrx with line := x }) hline
  | dropped =>
    rw [hkept (by simp [hline])]
    exact congrArg (fun x => { s.lrx with line := x }) hline

theorem clearBank_eq (b : Bank) : clearBank b =
    if b.state = .draining then { state := .free, count := 0, pieces := [] } else { b with count := 0 } := rfl

theorem clearEffect_pfs (s : State) : (clearEffect s).pfs = (clearPfs s).pfs := by
  simp [clearEffect]

theorem clearEffect_bars (s : State) (b : Bar) : (clearEffect s).bars[b] = { s.bars[b] with cursor := none } := by
  simp [clearEffect, clearStore, vmap]

theorem clearEffect_lines (s : State) : (clearEffect s).lst = [] ∧ (clearEffect s).cpa = none := by
  simp [clearEffect, clearStore]

/-- The run list is empty and the line stands still, so that the target is 0 (R100, R104). -/
theorem clearEffect_mou {s : State} (h : s.mou.mode = .standby ∨ s.mou.mode = .halted) :
    (clearEffect s).mou = { s.mou with p := 0, pLast := 0, target := 0 } := by
  have hrun : s.mou.mode ≠ .run := by rcases h with h | h <;> rw [h] <;> decide
  simp [clearEffect, formSpeed, speedTarget, clearMou, hrun]

theorem clearEffect_tnc (s : State) : (clearEffect s).tnc = { s.tnc with
    fabrics := vmap (fun x => { x with segs := 0 }) s.tnc.fabrics
    source := none
    tension := s.tnc.intake
    taper := none } := by
  simp [clearEffect, clearTnc, State.modTnc]

theorem clearEffect_htc {s : State} (hreaction : s.alc.reaction ≠ .stop) : (clearEffect s).htc = { s.htc with
    grade := 0, pHigh := 0, zones := vmap (fun z => { z with sat := 0, recov := 0 }) s.htc.zones
    target := s.htc.group.idle, band := s.htc.group.idleBand, source := .idle } := by
  simp [clearEffect, formHeat, heatAim_eq, aimRecord, clearHtc, clearSat, hreaction, State.modHtc]

theorem clearEffect_alc {s : State} (hfresh : s.alc.fresh = []) (hdue : s.alc.evalDue = false) :
    (clearEffect s).alc = { s.alc with occ := Vector.replicate 13 none } := by
  have hovertaken : (clearEffect s).alc = { (overtake .unknownSegment ((clearStore (clearPfs s)).setCpa none)).alc with
      occ := Vector.replicate 13 none, fresh := [], evalDue := false } := by
    simp [clearEffect, clearAlc, State.modAlc]
  rw [hovertaken, ← hfresh, ← hdue]
  simp

theorem clearEffect_lrx (s : State) : (clearEffect s).lrx = { s.lrx with
    line := match s.lrx.line with
      | .accepted _ _ _ _ slot => if slot = true ∨ slotsInUse s < 4 then .refused .unknownSegment else .dropped
      | x => x } := by
  have hovertaken : (clearEffect s).lrx = (overtake .unknownSegment ((clearStore (clearPfs s)).setCpa none)).lrx := by
    simp [clearEffect]
  rw [hovertaken, overtake_lrx]
  rfl

/-- What CLEAR_LINE leaves, block by block (R50, R83, R104, R147, R166, R189). -/
structure Cleared (s v : State) : Prop where
  rls : v.rls = []
  lst : v.lst = []
  cpa : v.cpa = none
  bars : ∀ b : Bar, v.bars[b] = { s.bars[b] with cursor := none }
  mou : v.mou = { s.mou with p := 0, pLast := 0, target := 0 }
  tnc : v.tnc = { s.tnc with
    fabrics := vmap (fun x => { x with segs := 0 }) s.tnc.fabrics
    source := none
    tension := s.tnc.intake
    taper := none }
  pfs : v.pfs = (clearPfs s).pfs
  htc : v.htc = { s.htc with
    grade := 0, pHigh := 0, zones := vmap (fun z => { z with sat := 0, recov := 0 }) s.htc.zones
    target := s.htc.group.idle, band := s.htc.group.idleBand, source := .idle }
  alc : v.alc = { s.alc with occ := Vector.replicate 13 none }
  ltx : v.ltx = s.ltx
  line : v.line = s.line

theorem cleared_clearEffect {s : State} (hmode : s.mou.mode = .standby ∨ s.mou.mode = .halted)
    (hreaction : s.alc.reaction ≠ .stop) (hfresh : s.alc.fresh = []) (hdue : s.alc.evalDue = false) :
    Cleared s (clearEffect s) where
  rls := clearEffect_rls s
  lst := (clearEffect_lines s).1
  cpa := (clearEffect_lines s).2
  bars := clearEffect_bars s
  mou := clearEffect_mou hmode
  tnc := clearEffect_tnc s
  pfs := clearEffect_pfs s
  htc := clearEffect_htc hreaction
  alc := clearEffect_alc hfresh hdue
  ltx := by simp
  line := by simp

/-- The control buffers do not bear on it. -/
theorem Cleared.buffers {s v : State} {tag : Tag} {r : Request} (h : Cleared (executing tag r s) v) :
    Cleared s (advanceBuffers (v.setCmuSlot false)) := by
  obtain ⟨hrls, hlst, hcpa, hbars, hmou, htnc, hpfs, hhtc, halc, hltx, hline⟩ := h
  exact ⟨hrls, hlst, hcpa, hbars, hmou, htnc, hpfs, hhtc, halc, hltx, hline⟩

theorem cleared_lrx {s : State} (tag : Tag) (r : Request) (h : BuffersEmpty s) :
    (advanceBuffers ((clearEffect (executing tag r s)).setCmuSlot false)).lrx = { s.lrx with
      line := match s.lrx.line with
        | .accepted _ _ _ _ slot => if slot = true ∨ slotsInUse s + 1 < 4 then .refused .unknownSegment else .dropped
        | x => x } := by
  obtain ⟨hexecute, hintake, hheld⟩ := h
  have hslots : slotsInUse (executing tag r s) = slotsInUse s + 1 := slotsInUse_executing tag r hheld
  have hlrx := clearEffect_lrx (executing tag r s)
  rw [hslots] at hlrx
  simp only [advanceBuffers, State.modLrx, State.setLrx_lrx, State.setCmuSlot_lrx, hlrx]
  simp only [executing, State.modLrx, State.setCmuSlot_lrx, State.setLrx_lrx, hintake, ← hexecute]

/-- Settles O48: block by block (R127). -/
theorem clearLine : Obligations.ClearLine := by
  intro s tag h hmode hstack
  have hnote : s.alc.reaction ≠ .stop := by
    rw [h.1.2.2.1, hstack]
    decide
  have hpass : refusal s .clearLine = none := by
    rcases hmode with hmode | hmode <;> simp [refusal, rangeOk, modeOk, hmode, objectCheck, hstack]
  have hcleared := cleared_clearEffect (s := executing tag .clearLine s) hmode hnote h.1.1 h.1.2.1
  have hlrx := cleared_lrx tag .clearLine h.buffersEmpty
  have hexec := exec_delivered (tag := tag) (r := .clearLine) (code := .accepted) (detail := s.rls.length) (reply := [])
    h rfl hpass rfl (by rw [hcleared.alc]; exact ⟨h.1.1, h.1.2.1, h.1.2.2.1⟩) (by rw [hcleared.ltx]; rfl)
  have hbuffers := hcleared.buffers
  generalize advanceBuffers ((clearEffect (executing tag .clearLine s)).setCmuSlot false) = u at hexec hbuffers hlrx
  obtain ⟨hrls, hlst, hcpa, hbars, hmou, htnc, hpfs, hhtc, halc, hltx, hline⟩ := hbuffers
  have hbank (n : Fin 8) (id : BankId) : bankOf u n id = clearBank (bankOf s n id) := by
    rw [bankOf, hpfs]
    exact bankOf_clearPfs s n id
  refine ⟨u, hexec, hrls, hlst, hcpa, hbars, hmou, fun n => by simp [htnc, vmap], by rw [htnc], by rw [htnc],
    by rw [htnc],
    by rw [htnc], by rw [htnc], by rw [htnc], fun n id => by rw [hbank, clearBank_eq], by rw [hhtc], by rw [hhtc],
    by rw [hhtc], fun i => by simp [hhtc, vmap], by rw [hhtc], by rw [hhtc], by rw [hhtc], halc, hlrx, hltx, hline, ?_⟩
  rw [hpfs]
  simpa using h.2.1

end Sys2Proof.Machine
end

section
/-! SUPPORT and the settling of O51: the calender transitions at a forward edge (R101, R116, R117). -/

namespace Sys2Proof.Machine

/-! ### Readings of the run list that an event does not change -/

theorem map_modSeg {κ : Type} (k : Segment → κ) {f : Segment → Segment} (t : Tag) (l : List Segment)
    (h : ∀ r, k (f r) = k r) : (modSeg t f l).map k = l.map k := by
  rw [modSeg, List.map_map]
  refine List.map_congr_left fun r _ => ?_
  simp only [Function.comp]
  split
  · exact h r
  · rfl

/-- A reading of records that the end of an event does not change: SPOILED and trace-sent do not bear on it. -/
structure Unmarked {κ : Type} (k : Segment → κ) : Prop where
  spoiled : ∀ r : Segment, k (r.setFlags fun f => { f with spoiled := true }) = k r
  traceSent : ∀ r : Segment, k { r with traceSent := true } = k r

section
variable {κ : Type} {k : Segment → κ}

theorem map_spoilArc (h : Unmarked k) (s : State) : (spoilArc s).rls.map k = s.rls.map k := by
  simp only [spoilArc, State.setRls_rls, List.map_map]
  refine List.map_congr_left fun r _ => ?_
  simp only [Function.comp]
  split
  · exact h.spoiled r
  · rfl

theorem map_enterStopping (h : Unmarked k) (c : StopCause) (s : State) :
    (enterStopping c s).rls.map k = s.rls.map k := by
  unfold enterStopping
  simp only
  split <;> simp [map_spoilArc h]

theorem map_handReaction (h : Unmarked k) (s : State) : (handReaction s).rls.map k = s.rls.map k := by
  have hstop : ∀ u, (stopReaction u).rls.map k = u.rls.map k := by
    intro u
    unfold stopReaction
    split <;> simp [map_enterStopping h]
  unfold handReaction
  simp only
  split
  · rfl
  · split <;> simp [hstop]

theorem map_ltxChoose (h : Unmarked k) (s : State) : (ltxChoose s).rls.map k = s.rls.map k := by
  generalize ht : ltxChoose s = t
  simp only [ltxChoose] at ht
  (repeat' split at ht) <;> subst ht <;> simp [State.modSegment, map_modSeg k, h.traceSent]

theorem map_settle (h : Unmarked k) (s : State) : (settle s).rls.map k = s.rls.map k := by
  rw [settle, map_ltxChoose h, map_handReaction h]
  simp

end

/-- A reading of records that printing does not change. -/
structure Unprinted {κ : Type} (k : Segment → κ) : Prop where
  fill : ∀ r x, k { r with fill := x } = k r
  print : ∀ r x, k { r with print := x } = k r
  printedBy : ∀ r x, k { r with printedBy := x } = k r
  lost : ∀ r x, k { r with lost := x } = k r
  lostLines : ∀ r : Segment, k (r.setFlags fun f => { f with lostLines := true }) = k r
  barMissed : ∀ r : Segment, k (r.setFlags fun f => { f with barMissed := true }) = k r

section
variable {κ : Type} {k : Segment → κ}

theorem map_declareLost (h : Unprinted k) (r : Segment) (n : Nat) (s : State) :
    (declareLost r n s).rls.map k = s.rls.map k := by
  have hnext : ∀ u, (fillNextLine r.tag n r.lines u).rls.map k = u.rls.map k := by
    intro u
    unfold fillNextLine sealSegment
    (repeat' split) <;> simp [State.modSegment, map_modSeg k, h.fill]
  have hrls : (declareLost r n s).rls = modSeg r.tag (fun x =>
      ({ x with lost := min 65535 (x.lost + 1) } : Segment).setFlags fun f => { f with lostLines := true })
        (fillNextLine r.tag n r.lines (s.setLst (releaseFilling r.tag n s.lst))).rls := by
    simp [declareLost, State.modSegment]
  rw [hrls, map_modSeg k _ _ fun x => (h.lostLines _).trans (h.lost x _), hnext, State.setLst_rls]

theorem map_fireOrMiss (h : Unprinted k) (j : Bar) (r : Segment) (n : Nat) (s : State) :
    (fireOrMiss j r n s).rls.map k = s.rls.map k := by
  unfold fireOrMiss
  split
  · rfl
  · exact map_modSeg k _ _ h.barMissed
  · rfl

theorem map_reportHandling (h : Unprinted k) (j : Bar) (t : Tag) (n : Nat) (s : State) :
    (reportHandling j t n s).rls.map k = s.rls.map k := by
  have htest : ∀ y, k (printTest s y) = k y := by
    intro y
    unfold printTest
    split
    · exact h.print y _
    · rfl
  refine map_modSeg k _ _ fun r => ?_
  have hbegun : k (if j = bar1 ∧ n = 0 ∧ r.print = .waiting then { r with print := .printing } else r) = k r := by
    split
    · exact h.print r _
    · rfl
  simp only
  split
  · rw [htest, h.printedBy, hbegun]
  · exact hbegun

theorem map_handleLine (h : Unprinted k) (j : Bar) (r : Segment) (n : Nat) (s : State) :
    (handleLine j r n s).rls.map k = s.rls.map k := by
  unfold handleLine
  simp only [State.modBar, State.setBars_rls]
  rw [map_reportHandling h, map_fireOrMiss h]
  split
  · exact map_declareLost h r n s
  · rfl

theorem map_handleDue (h : Unprinted k) (j : Bar) (fuel : Nat) (s : State) :
    (handleDue j fuel s).rls.map k = s.rls.map k := by
  induction fuel generalizing s with
  | zero => rfl
  | succ fuel ih =>
    unfold handleDue
    (repeat' split) <;> simp [ih, map_handleLine h]

theorem map_barsAdvance (h : Unprinted k) (s : State) : (barsAdvance s).rls.map k = s.rls.map k := by
  have hbar : ∀ u j, (barAdvance u j).rls.map k = u.rls.map k := by
    intro u j
    unfold barAdvance
    simp only
    split
    · exact map_handleDue h j _ _
    · rfl
  simp [barsAdvance, allBars, hbar]

theorem map_risen (h : Unprinted k) (s : State) : (risen s).rls.map k = s.rls.map k := by
  have hrls : (risen s).rls = (barsAdvance (raiseHigh (s.setMou { s.mou with p := s.mou.p + 1 }))).rls := by
    simp [risen]
  rw [hrls, map_barsAdvance h]
  rfl

end

/-- Where a list's readings are kept, each of its records is found again by its reading. -/
theorem mem_of_map_eq {κ : Type} {k : Segment → κ} {l l' : List Segment} (h : l'.map k = l.map k) {r : Segment}
    (hr : r ∈ l) : ∃ r' ∈ l', k r' = k r := by
  have hk : k r ∈ l'.map k := by
    rw [h]
    exact List.mem_map.mpr ⟨r, hr, rfl⟩
  exact List.mem_map.mp hk

/-! ### A rise of P -/

theorem countEdge_of_rise {e : Edge} {s : State} (h : (countEdge e s).mou.p = s.mou.p + 1) :
    countEdge e s = increaseOfP s := by
  cases e with
  | forward =>
    simp only [countEdge] at h ⊢
    by_cases hmax : s.mou.p < Config.maxPosition
    · rw [if_pos hmax]
    · rw [if_neg hmax] at h
      omega
  | reverse =>
    simp only [countEdge] at h
    by_cases hzero : 0 < s.mou.p
    · rw [if_pos hzero, State.setMou_mou] at h
      simp only at h
      omega
    · rw [if_neg hzero] at h
      omega
  | invalid =>
    simp only [countEdge] at h
    omega

/-- The event in which P rises (R85, R86). -/
theorem exec_encoderEdge_rise {s t : State} {a b : Bool} (h : exec (.encoderEdge a b) s = .next t)
    (hrise : t.mou.p = s.mou.p + 1) :
    t = settle (increaseOfP (s.setMou { s.mou with encA := a, encB := b })) := by
  have ht : settle (encoderLevels a b s) = t := Host.Outcome.next.inj h
  have hp : (settle (encoderLevels a b s)).mou.p = (encoderLevels a b s).mou.p := by simp
  rw [← ht, hp] at hrise
  rw [← ht, encoderLevels, countEdge_of_rise hrise]

/-! ### The calender transitions, record by record -/

/-- What one rise of P does to a record in the calender (R101, R116, R117). -/
def throughCalender (g : LineGroup) (p : Nat) (r : Segment) : Segment :=
  let r1 := if r.calender = .approach ∧ leadPosition g r ≤ p then
      { r with calender := .inArc, dwell := if r.flags.dwellShort then none else some 0 }
    else r
  if r1.calender = .inArc ∧ retirePosition g r1 ≤ p then retiredRecord r1 else r1

theorem throughCalender_tag (g : LineGroup) (p : Nat) (r : Segment) : (throughCalender g p r).tag = r.tag := by
  simp only [throughCalender, retiredRecord, Segment.setFlags]
  (repeat' split) <;> rfl

theorem modSeg_id (t : Tag) (l : List Segment) : modSeg t (fun r => r) l = l := by
  simp [modSeg]

theorem modSeg_congr {t : Tag} {f g : Segment → Segment} {l : List Segment} (h : ∀ r ∈ l, r.tag = t → f r = g r) :
    modSeg t f l = modSeg t g l := by
  refine List.map_congr_left fun r hr => ?_
  split
  · next htag => exact h r hr htag
  · rfl

/-- A record's tag finds that record, where no two have one tag. -/
theorem eq_of_tag_eq {l : List Segment} (h : (l.map Segment.tag).Nodup) {r x : Segment} (hr : r ∈ l) (hx : x ∈ l)
    (htag : x.tag = r.tag) : x = r := by
  have hfound := findSeg_of_mem h hx
  rw [htag, findSeg_of_mem h hr] at hfound
  exact (Option.some.inj hfound).symm

/-- The calender's entry, for one record. -/
def entered (g : LineGroup) (p : Nat) (r : Segment) : Segment :=
  if r.calender = .approach ∧ leadPosition g r ≤ p then
    { r with calender := .inArc, dwell := if r.flags.dwellShort then none else some 0 }
  else r

theorem entered_tag (g : LineGroup) (p : Nat) (r : Segment) : (entered g p r).tag = r.tag := by
  unfold entered
  split <;> rfl

theorem throughCalender_eq (g : LineGroup) (p : Nat) (r : Segment) : throughCalender g p r =
    if (entered g p r).calender = .inArc ∧ retirePosition g (entered g p r) ≤ p then retiredRecord (entered g p r)
    else entered g p r := rfl

/-- One record's turn, in a list without two records of one tag. -/
theorem retireAt_enterArc_rls {s : State} (t : Tag) (h : (s.rls.map Segment.tag).Nodup) :
    (retireAt t (enterArc t s)).rls = modSeg t (throughCalender s.line s.mou.p) s.rls := by
  have hentered : (enterArc t s).rls = modSeg t (entered s.line s.mou.p) s.rls := rfl
  have hfind : findSeg t (enterArc t s).rls = (findSeg t s.rls).map (entered s.line s.mou.p) := by
    rw [hentered, findSeg_modSeg_same _ _ _ (entered_tag s.line s.mou.p)]
  cases hr : findSeg t s.rls with
  | none =>
    rw [hr] at hfind
    have hnone : ∀ r ∈ s.rls, r.tag = t → entered s.line s.mou.p r = throughCalender s.line s.mou.p r :=
      fun r hmem htag => absurd htag (findSeg_none.mp hr r hmem)
    simp only [retireAt, hfind, Option.map_none]
    rw [hentered, modSeg_congr hnone]
  | some r =>
    rw [hr] at hfind
    obtain ⟨htag, hmem⟩ := findSeg_some hr
    have honly : ∀ x ∈ s.rls, x.tag = t → x = r := fun x hx hxt => eq_of_tag_eq h hmem hx (hxt.trans htag.symm)
    have hline : (enterArc t s).line = s.line := rfl
    have hp : (enterArc t s).mou.p = s.mou.p := rfl
    simp only [retireAt, hfind, Option.map_some, hline, hp]
    split
    · next hretires =>
      have hrls : (tensionReleased t (releaseRefs (entered s.line s.mou.p r)
          ((enterArc t s).modSegment t retiredRecord))).rls = modSeg t retiredRecord (enterArc t s).rls := by
        simp [releaseRefs, State.modSegment]
      rw [hrls, hentered, modSeg_modSeg _ _ _ _ (entered_tag s.line s.mou.p)]
      exact modSeg_congr fun x hx hxt => by rw [honly x hx hxt, throughCalender_eq, if_pos hretires]
    · next hstays =>
      rw [hentered]
      exact modSeg_congr fun x hx hxt => by rw [honly x hx hxt, throughCalender_eq, if_neg hstays]

/-- A list's records changed one after another, each at its own tag, are all changed. -/
theorem foldl_modSeg (f : Segment → Segment) (hf : ∀ r, (f r).tag = r.tag) (ts : List Tag) (hn : ts.Nodup)
    (l : List Segment) :
    ts.foldl (fun acc t => modSeg t f acc) l = l.map fun r => if r.tag ∈ ts then f r else r := by
  induction ts generalizing l with
  | nil => simp
  | cons t ts ih =>
    rw [List.nodup_cons] at hn
    rw [List.foldl_cons, ih hn.2, modSeg, List.map_map]
    refine List.map_congr_left fun r _ => ?_
    simp only [Function.comp]
    by_cases ht : r.tag = t
    · simp [ht, hf, hn.1]
    · simp [ht]

/-- All records at once (R106, R116, R117). -/
theorem calenderAdvance_rls {s : State} (h : (s.rls.map Segment.tag).Nodup) :
    (calenderAdvance s).rls = s.rls.map (throughCalender s.line s.mou.p) := by
  have hfold : ∀ (ts : List Tag) (u : State), (u.rls.map Segment.tag).Nodup →
      (ts.foldl (fun acc t => retireAt t (enterArc t acc)) u).rls
        = ts.foldl (fun acc t => modSeg t (throughCalender u.line u.mou.p) acc) u.rls := by
    intro ts
    induction ts with
    | nil => exact fun u _ => rfl
    | cons t ts ih =>
      intro u hu
      have hrls := retireAt_enterArc_rls t hu
      have hkept : (retireAt t (enterArc t u)).line = u.line ∧ (retireAt t (enterArc t u)).mou = u.mou := by
        simp [enterArc, State.modSegment]
      rw [List.foldl_cons, List.foldl_cons, ih _ (by rw [hrls, modSeg_tags _ _ _ (throughCalender_tag _ _)]; exact hu),
        hrls, hkept.1, hkept.2]
  rw [calenderAdvance, hfold _ s h, foldl_modSeg _ (throughCalender_tag _ _) _ h]
  exact List.map_congr_left fun r hr => if_pos (List.mem_map.mpr ⟨r, hr, rfl⟩)

/-- What a record shows of its passage through the calender, but for what printing changes. -/
def passage (r : Segment) : Tag × Nat × Nat × CalenderState × Option Nat × Bool :=
  (r.tag, r.start, r.length, r.calender, r.dwell, r.flags.dwellShort)

theorem unprinted_passage : Unprinted passage :=
  ⟨fun _ _ => rfl, fun _ _ => rfl, fun _ _ => rfl, fun _ _ => rfl, fun _ => rfl, fun _ => rfl⟩

theorem unmarked_passage : Unmarked fun r => (passage r, r.print) :=
  ⟨fun _ => rfl, fun _ => rfl⟩

/-- Each record after a rise of P, by what it was before. -/
theorem passage_of_rise {s t : State} {a b : Bool} (h : exec (.encoderEdge a b) s = .next t)
    (hnodup : (s.rls.map Segment.tag).Nodup) (hrise : t.mou.p = s.mou.p + 1) {r : Segment} (hr : r ∈ s.rls) :
    ∃ x, ∃ r' ∈ t.rls, passage x = passage r
      ∧ (passage r', r'.print) = (passage (throughCalender s.line t.mou.p x),
        (throughCalender s.line t.mou.p x).print) := by
  generalize hu : s.setMou { s.mou with encA := a, encB := b } = u
  have hline : (risen u).line = s.line := by
    rw [(risen_frame u).1, ← hu]
    rfl
  have hp : (risen u).mou.p = t.mou.p := by
    rw [(risen_frame u).2.2.2.2.1, hrise, ← hu]
    rfl
  have hrls : u.rls = s.rls := by rw [← hu]; rfl
  have htags : ((risen u).rls.map Segment.tag).Nodup := by
    rw [(evolves_risen u).tags, hrls]
    exact hnodup
  have hcalender : (increaseOfP u).rls = (risen u).rls.map (throughCalender s.line t.mou.p) := by
    have hadvance := calenderAdvance_rls htags
    rw [hline, hp] at hadvance
    rw [← hadvance, increaseOfP_eq]
    (repeat' split) <;> simp
  have ht := exec_encoderEdge_rise h hrise
  rw [hu] at ht
  rw [← hrls] at hr
  obtain ⟨x, hx, hxr⟩ := mem_of_map_eq (map_risen unprinted_passage u) hr
  have hthrough : throughCalender s.line t.mou.p x ∈ (increaseOfP u).rls := by
    rw [hcalender]
    exact List.mem_map.mpr ⟨x, hx, rfl⟩
  obtain ⟨r', hr', hkey⟩ := mem_of_map_eq (map_settle unmarked_passage (increaseOfP u)) hthrough
  rw [← ht] at hr'
  exact ⟨x, r', hr', hxr, hkey⟩

/-- Settles O51: by the calender state in which the rise finds the record. -/
theorem calenderTransitions : Obligations.CalenderTransitions := by
  intro s t a b _ hnodup h hrise r hr
  obtain ⟨x, r', hr', hx, hkey⟩ := passage_of_rise h hnodup hrise hr
  simp only [passage, Prod.mk.injEq] at hx hkey
  obtain ⟨htag, hstart, hlength, hcalender, hdwell, hshort⟩ := hx
  obtain ⟨⟨htag', -, -, hcalender', hdwell', -⟩, hprint'⟩ := hkey
  have hlead : leadPosition s.line x = leadPosition s.line r := by simp only [leadPosition, hstart]
  have hretire : retirePosition s.line x = retirePosition s.line r := by simp only [retirePosition, hstart, hlength]
  have henter : retirePosition s.line (entered s.line t.mou.p x) = retirePosition s.line r := by
    rw [← hretire]
    unfold entered
    split <;> rfl
  refine ⟨r', hr', htag'.trans ((throughCalender_tag _ _ _).trans htag), ?_⟩
  rw [← hcalender, ← hdwell, ← hlead, ← hshort, hcalender', hdwell', hprint', throughCalender_eq, henter]
  refine ⟨fun hat hbefore => ?_, fun hat hfrom hbefore => ?_,
    fun hat hbefore => ?_, fun hat hfrom => ?_, fun hat => ?_⟩
  · have hstay : entered s.line t.mou.p x = x := if_neg fun hin => by omega
    rw [hstay, hat, if_neg (by simp)]
    exact ⟨hat, rfl⟩
  · have hin : entered s.line t.mou.p x
        = { x with calender := .inArc, dwell := if x.flags.dwellShort then none else some 0 } := if_pos ⟨hat, hfrom⟩
    rw [if_neg fun hout => by omega, hin]
    exact ⟨rfl, rfl⟩
  · have hstay : entered s.line t.mou.p x = x := if_neg (by simp [hat])
    rw [if_neg fun hout => by omega, hstay]
    exact ⟨hat, rfl⟩
  · have hin : (entered s.line t.mou.p x).calender = .inArc := by
      unfold entered
      split
      · rfl
      · next hnot => exact hat.resolve_right hnot
    rw [if_pos ⟨hin, hfrom⟩]
    exact ⟨rfl, rfl, rfl⟩
  · have hstay : entered s.line t.mou.p x = x := if_neg (by simp [hat])
    rw [hstay, hat, if_neg (by simp), hat]

end Sys2Proof.Machine
end

section
/-! SUPPORT and the settling of O49: ENCODER_EDGE (R73, R75, R85, R86). -/

namespace Sys2Proof.Machine

/-! ### The tension source through the calender -/

/-- The source, the tension fabric and the taper (R73, R74). -/
def tensionState (t : Tnc) : Option Tag × Option (Fin 16) × Option Taper :=
  (t.source, t.tension, t.taper)

theorem tensionState_retireAt {s : State} (t : Tag)
    (h : ∀ x ∈ s.rls, s.tnc.source = some x.tag → s.mou.p < retirePosition s.line x) :
    tensionState (retireAt t s).tnc = tensionState s.tnc := by
  unfold retireAt
  split
  · next r hfind =>
    split
    · next hretires =>
      obtain ⟨htag, hmem⟩ := findSeg_some hfind
      have hother : (releaseRefs r (s.modSegment t retiredRecord)).tnc.source ≠ some t := by
        intro hsource
        have hfar := h r hmem (by rw [htag]; exact hsource)
        omega
      rw [tensionReleased_of_ne hother]
      rfl
    · rfl
  · rfl

/-- A source that does not retire keeps its place through the calender (R73, R117). -/
theorem tensionState_calenderAdvance {s : State}
    (h : ∀ x ∈ s.rls, s.tnc.source = some x.tag → s.mou.p < retirePosition s.line x) :
    tensionState (calenderAdvance s).tnc = tensionState s.tnc := by
  unfold calenderAdvance
  generalize s.rls.map Segment.tag = ts
  induction ts generalizing s with
  | nil => rfl
  | cons t ts ih =>
    have hevolves := (evolves_enterArc t s).trans (evolves_retireAt t (enterArc t s))
    have harc : ∀ x ∈ (enterArc t s).rls, (enterArc t s).tnc.source = some x.tag →
        (enterArc t s).mou.p < retirePosition (enterArc t s).line x := by
      intro x hx hsource
      obtain ⟨y, hy, hstays⟩ := (evolves_enterArc t s).mem hx
      obtain ⟨htag, -, -, -, hstart, -, hlength, -⟩ := hstays.bound
      have hfar := h y hy (by rw [← htag]; exact hsource)
      rw [retirePosition, hstart, hlength]
      exact hfar
    have hstate := tensionState_retireAt t harc
    have hkept : (retireAt t (enterArc t s)).line = s.line ∧ (retireAt t (enterArc t s)).mou = s.mou := by
      simp [enterArc, State.modSegment]
    rw [List.foldl_cons, ih, hstate]
    · rfl
    · intro x hx hsource
      obtain ⟨y, hy, hstays⟩ := hevolves.mem hx
      obtain ⟨htag, -, -, -, hstart, -, hlength, -⟩ := hstays.bound
      have hsame : (retireAt t (enterArc t s)).tnc.source = s.tnc.source := congrArg Prod.fst hstate
      have hfar := h y hy (by rw [← htag, ← hsame, hsource])
      rw [hkept.1, hkept.2, retirePosition, hstart, hlength]
      exact hfar

/-! ### The newest record that qualifies -/

/-- What of a record the tension source depends on (R73). -/
def tensionKey (r : Segment) : Tag × Nat × Bool × Fin 16 :=
  (r.tag, r.start, r.live, r.fabric)

theorem unprinted_tensionKey : Unprinted tensionKey :=
  ⟨fun _ _ => rfl, fun _ _ => rfl, fun _ _ => rfl, fun _ _ => rfl, fun _ => rfl, fun _ => rfl⟩

theorem newestLive_map {κ : Type} {k : Segment → κ} {test : Segment → Bool} {q : κ → Bool}
    (h : ∀ r : Segment, (r.live && test r) = q (k r)) (l : List Segment) :
    (newestLive test l).map k = (l.map k).reverse.find? q := by
  rw [← List.map_reverse, List.find?_map, newestLive]
  exact congrArg _ (congrArg (fun p => List.find? p l.reverse) (funext h))

theorem map_segsAfter {κ : Type} {k : Segment → κ} (htag : ∀ r x : Segment, k r = k x → r.tag = x.tag) (t : Tag)
    {l l' : List Segment} (h : l'.map k = l.map k) : (segsAfter t l').map k = (segsAfter t l).map k := by
  induction l generalizing l' with
  | nil =>
    rw [List.map_nil, List.map_eq_nil_iff] at h
    rw [h]
  | cons x xs ih =>
    obtain ⟨y, ys, rfl, hy, hys⟩ := List.map_eq_cons_iff.mp h
    by_cases hx : x.tag = t
    · rw [segsAfter, segsAfter, if_pos hx, if_pos ((htag _ _ hy).trans hx), hys]
    · rw [segsAfter, segsAfter, if_neg hx, if_neg fun e => hx ((htag _ _ hy).symm.trans e), ih hys]

theorem newestLive_split {test : Segment → Bool} {pre post : List Segment} {r : Segment} (hlive : r.live = true)
    (htest : test r = true) (hpost : ∀ x ∈ post, x.live = true → test x = false) :
    newestLive test (pre ++ r :: post) = some r := by
  have hnone : post.reverse.find? (fun x => x.live && test x) = none := by
    rw [List.find?_eq_none]
    intro x hx
    cases hl : x.live with
    | false => simp
    | true => simp [hpost x (List.mem_reverse.mp hx) hl]
  rw [newestLive, List.reverse_append, List.reverse_cons, List.append_assoc, List.find?_append, hnone]
  simp [hlive, htest]

theorem newestLive_none {test : Segment → Bool} {l : List Segment} (h : ∀ x ∈ l, x.live = true → test x = false) :
    newestLive test l = none := by
  rw [newestLive, List.find?_eq_none]
  intro x hx
  cases hl : x.live with
  | false => simp
  | true => simp [h x (List.mem_reverse.mp hx) hl]

/-- The records that may become the tension source: those newer than it (R73). -/
def newerThan (source : Option Tag) (l : List Segment) : List Segment :=
  match source with
  | some t => segsAfter t l
  | none => l

theorem tensionQualify_eq (s : State) : tensionQualify s =
    match newestLive (tensionQualifies s) (newerThan s.tnc.source s.rls) with
    | some r => sourceBecomes r ((r.start : Int) + s.line.nipDist - s.tnc.group.taperLen) s
    | none => s := rfl

theorem map_newerThan {κ : Type} {k : Segment → κ} (htag : ∀ r x : Segment, k r = k x → r.tag = x.tag)
    (source : Option Tag) {l l' : List Segment} (h : l'.map k = l.map k) :
    (newerThan source l').map k = (newerThan source l).map k := by
  cases source with
  | none => exact h
  | some t => exact map_segsAfter htag t h

/-! ### The tension source at a rise of P -/

/-- The state in which the tension source is judged at a rise of P (R73, R75). -/
def rising (s : State) : State :=
  advanceTaper (barsAdvance (raiseHigh (s.setMou { s.mou with p := s.mou.p + 1 })))

theorem risen_eq (s : State) : risen s = tensionQualify (rising s) := rfl

/-- A record qualifies at the P that the rise comes to (R73). -/
def qualifiesNext (s : State) (r : Segment) : Bool :=
  decide (r.start + s.line.nipDist ≤ s.mou.p + 1 + s.tnc.group.taperLen)

/-- The running taper at a rise of P (R75). -/
def taperNext (s : State) : Option Taper :=
  match s.tnc.taper with
  | none => none
  | some x => unlessEnded { x with q := max x.q (clampInt ((s.mou.p : Int) + 1) x.t0 (x.t0 + x.length)) }

theorem rising_tnc (s : State) : (rising s).tnc = { s.tnc with taper := taperNext s } := by
  have hbars : (barsAdvance (raiseHigh (s.setMou { s.mou with p := s.mou.p + 1 }))).tnc = s.tnc := by simp [raiseHigh]
  have hp : (barsAdvance (raiseHigh (s.setMou { s.mou with p := s.mou.p + 1 }))).mou.p = s.mou.p + 1 := by
    simp [raiseHigh]
  rw [rising, advanceTaper, State.modTnc, State.setTnc_tnc, hbars, hp]
  cases htaper : s.tnc.taper with
  | none =>
    have hnext : taperNext s = none := by simp [taperNext, htaper]
    rw [hnext]
    exact congrArg (fun x => { s.tnc with taper := x }) htaper
  | some x => simp [taperNext, htaper]

theorem rising_rest (s : State) : (rising s).line = s.line ∧ (rising s).mou.p = s.mou.p + 1
    ∧ (rising s).rls.map tensionKey = s.rls.map tensionKey := by
  have hrls : (rising s).rls = (barsAdvance (raiseHigh (s.setMou { s.mou with p := s.mou.p + 1 }))).rls := by
    simp [rising]
  rw [hrls, map_barsAdvance unprinted_tensionKey]
  simp [rising, raiseHigh]

/-- The same, for a record's key. -/
def keyQualifies (s : State) (k : Tag × Nat × Bool × Fin 16) : Bool :=
  k.2.2.1 && decide (k.2.1 + s.line.nipDist ≤ s.mou.p + 1 + s.tnc.group.taperLen)

theorem newest_rising (s : State) :
    (newestLive (tensionQualifies (rising s)) (newerThan s.tnc.source (rising s).rls)).map tensionKey
      = (newestLive (qualifiesNext s) (newerThan s.tnc.source s.rls)).map tensionKey := by
  obtain ⟨hline, hp, hrls⟩ := rising_rest s
  have hgroup : (rising s).tnc.group = s.tnc.group := by rw [rising_tnc]
  have hqualifies : ∀ r, tensionQualifies (rising s) r = qualifiesNext s r := by
    intro r
    rw [tensionQualifies, hline, hp, hgroup, qualifiesNext]
  have hkeyed : ∀ r : Segment, (r.live && qualifiesNext s r) = keyQualifies s (tensionKey r) := fun r => rfl
  have htag : ∀ r x : Segment, tensionKey r = tensionKey x → r.tag = x.tag := fun _ _ h => congrArg Prod.fst h
  rw [newestLive_map (k := tensionKey) (q := keyQualifies s) (fun r => (congrArg (r.live && ·) (hqualifies r)).trans
    (hkeyed r)),
    newestLive_map (k := tensionKey) hkeyed, map_newerThan htag _ hrls]

/-- A record that has come to qualify, with none newer, is the source, and its fabric the tension fabric (R73). -/
theorem risen_source_of_some {s : State} {r : Segment}
    (h : newestLive (qualifiesNext s) (newerThan s.tnc.source s.rls) = some r) :
    (risen s).tnc.source = some r.tag ∧ (risen s).tnc.tension = some r.fabric := by
  have hnewest := newest_rising s
  rw [h, Option.map_some] at hnewest
  obtain ⟨x, hx, hkey⟩ := Option.map_eq_some_iff.mp hnewest
  simp only [tensionKey, Prod.mk.injEq] at hkey
  obtain ⟨htag, -, -, hfabric⟩ := hkey
  have hsource : (rising s).tnc.source = s.tnc.source := by rw [rising_tnc]
  rw [risen_eq, tensionQualify_eq, hsource, hx]
  simp only [sourceBecomes, setTension_source, setTension_tension]
  exact ⟨congrArg some htag, congrArg some hfabric⟩

theorem risen_source_of_none {s : State}
    (h : newestLive (qualifiesNext s) (newerThan s.tnc.source s.rls) = none) :
    (risen s).tnc = { s.tnc with taper := taperNext s } := by
  have hnewest := newest_rising s
  rw [h, Option.map_none, Option.map_eq_none_iff] at hnewest
  have hsource : (rising s).tnc.source = s.tnc.source := by rw [rising_tnc]
  rw [risen_eq, tensionQualify_eq, hsource, hnewest, rising_tnc]

theorem increaseOfP_tnc (s : State) : (increaseOfP s).tnc = (calenderAdvance (risen s)).tnc := by
  rw [increaseOfP_eq]
  (repeat' split) <;> simp

/-- The source that the rise leaves keeps its place through the calender where it does not retire. -/
theorem increaseOfP_tensionState {s : State}
    (h : ∀ x ∈ s.rls, (risen s).tnc.source = some x.tag → s.mou.p + 1 < retirePosition s.line x) :
    tensionState (increaseOfP s).tnc = tensionState (risen s).tnc := by
  rw [increaseOfP_tnc, tensionState_calenderAdvance]
  intro x hx hsource
  obtain ⟨y, hy, hstays⟩ := (evolves_risen s).mem hx
  obtain ⟨htag, -, -, -, hstart, -, hlength, -⟩ := hstays.bound
  have hfar := h y hy (by rw [hsource, htag])
  obtain ⟨hline, -, -, -, hmou, -⟩ := risen_frame s
  rw [hline, hmou, retirePosition, hstart, hlength]
  exact hfar

theorem increaseOfP_rest (s : State) : (increaseOfP s).mou.p = s.mou.p + 1
    ∧ (increaseOfP s).htc.pHigh = max s.htc.pHigh (s.mou.p + 1) := by
  rw [increaseOfP_eq]
  (repeat' split) <;> simp [risen, raiseHigh]

/-! ### The levels -/

theorem decodeEdge_invalid {a b a' b' : Bool} (h : a' = a ↔ b' = b) : decodeEdge a b a' b' = .invalid := by
  revert h
  cases a <;> cases b <;> cases a' <;> cases b' <;> decide

theorem decodeEdge_reverse {a b a' b' : Bool} (h : (a, b, a', b') ∈ [(false, false, false, true),
    (false, true, true, true), (true, true, true, false), (true, false, false, false)]) :
    decodeEdge a b a' b' = .reverse := by
  revert h
  cases a <;> cases b <;> cases a' <;> cases b' <;> decide

theorem decodeEdge_forward {a b a' b' : Bool} (h : (a, b, a', b') ∈ [(false, false, true, false),
    (true, false, true, true), (true, true, false, true), (false, true, false, false)]) :
    decodeEdge a b a' b' = .forward := by
  revert h
  cases a <;> cases b <;> cases a' <;> cases b' <;> decide

/-- Settles O49: by the decoded edge, and by whether a record has come to qualify for tension. -/
theorem encoderEdge : Obligations.EncoderEdge := by
  intro s a b h
  have hquiet : ∀ m, Quiet (s.setMou m) := fun m => quiet_congr s _ rfl rfl rfl rfl rfl h
  have hstill : ∀ m, encoderLevels a b s = s.setMou m → exec (.encoderEdge a b) s = .next (s.setMou m) :=
    fun m hm => congrArg Host.Outcome.next (by rw [hm, settle_quiet _ (hquiet m)])
  refine ⟨fun hboth => hstill _ ?_, fun hreverse => hstill _ ?_, fun hforward => ⟨fun hroom => ?_, fun hfull =>
    hstill _ ?_⟩⟩
  · rw [encoderLevels, decodeEdge_invalid hboth]
    rfl
  · rw [encoderLevels, decodeEdge_reverse hreverse]
    by_cases hzero : 0 < s.mou.p
    · exact if_pos hzero
    · have hp : s.mou.p - 1 = s.mou.p := by omega
      rw [hp]
      exact if_neg hzero
  · let u := s.setMou { s.mou with encA := a, encB := b }
    have hedge : encoderLevels a b s = increaseOfP u := by
      rw [encoderLevels, decodeEdge_forward hforward]
      exact if_pos hroom
    obtain ⟨hp, hhigh⟩ := increaseOfP_rest u
    have htnc : (settle (increaseOfP u)).tnc = (increaseOfP u).tnc := settle_tnc _
    refine ⟨settle (increaseOfP u), congrArg (fun x => Host.Outcome.next (settle x)) hedge, ?_, ?_, ?_, ?_, ?_, ?_, ?_,
      ?_,
      ?_, ?_, ?_, ?_, ?_, ?_, ?_, fun newer hnewer => ⟨fun pre r post hsplit hlive hnear honly hstays hpost => ?_,
        fun hnone hsource => ?_⟩⟩
    · exact (by simp : (settle (increaseOfP u)).mou.p = (increaseOfP u).mou.p).trans hp
    · simp [u]
    · simp [u]
    · simp [u]
    · simp [u]
    · simp [u]
    · exact (by simp : (settle (increaseOfP u)).htc.pHigh = (increaseOfP u).htc.pHigh).trans hhigh
    · simp [u]
    · simp [u]
    · simp [u]
    · simp [u]
    · simp [u]
    · simp [u]
    · simp [u]
    · simp [u]
    · have hnewest : newestLive (qualifiesNext u) (newerThan u.tnc.source u.rls) = some r := by
        have hlist : newerThan u.tnc.source u.rls = newer := hnewer.symm
        rw [hlist, hsplit]
        exact newestLive_split hlive (decide_eq_true hnear) fun x hx hl =>
          decide_eq_false (not_le.mpr (hpost x hx hl))
      obtain ⟨hrisen, htension⟩ := risen_source_of_some hnewest
      have hstate := increaseOfP_tensionState (s := u) fun x hx hxs => by
        rw [hrisen] at hxs
        rw [honly x hx (Option.some.inj hxs).symm]
        exact hstays
      simp only [tensionState, Prod.mk.injEq] at hstate
      obtain ⟨hstate, hstate', -⟩ := hstate
      rw [htnc, hstate, hstate', hrisen, htension]
      exact ⟨rfl, rfl⟩
    · have hnewest : newestLive (qualifiesNext u) (newerThan u.tnc.source u.rls) = none := by
        have hlist : newerThan u.tnc.source u.rls = newer := hnewer.symm
        rw [hlist]
        exact newestLive_none fun x hx hl => decide_eq_false (not_le.mpr (hnone x hx hl))
      have hrisen := risen_source_of_none hnewest
      have hstate := increaseOfP_tensionState (s := u) fun x hx hxs => by
        rw [hrisen] at hxs
        exact hsource x hx hxs
      simp only [tensionState, Prod.mk.injEq, hrisen] at hstate
      obtain ⟨hstate, hstate', htaper⟩ := hstate
      rw [htnc, hstate, hstate', htaper]
      refine ⟨rfl, rfl, fun hn => ?_, fun x q hx hq => ?_⟩
      · simp only [taperNext, u, State.setMou_tnc, hn]
      · simp only [taperNext, u, State.setMou_tnc, hx, State.setMou_mou, clampInt, unlessEnded, ← hq]
  · rw [encoderLevels, decodeEdge_forward hforward]
    exact if_neg (not_lt.mpr hfull)

end Sys2Proof.Machine
end

section
/-! SUPPORT and the settling of O52: LINE_SAMPLE (R97, R98, R100, R101). -/

namespace Sys2Proof.Machine

/-! ### The dwell counters -/

/-- A record after the line sample's dwell step (R101). -/
def dwelt (g : LineGroup) (v : Nat) (r : Segment) : Segment :=
  (dwellStep g v r).1

theorem dwelt_none {g : LineGroup} {v : Nat} {r : Segment} (h : r.dwell = none) : dwellStep g v r = (r, false) := by
  simp only [dwellStep, h]

theorem dwelt_slow {g : LineGroup} {v c : Nat} {r : Segment} (h : r.dwell = some c) (hv : v ≤ dwellCap g r) :
    dwelt g v r = { r with dwell := some 0 } := by
  simp only [dwelt, dwellStep, h, if_neg (not_lt.mpr hv)]

theorem dwelt_fast {g : LineGroup} {v c : Nat} {r : Segment} (h : r.dwell = some c) (hv : dwellCap g r < v)
    (hc : c < 2) : dwelt g v r = { r with dwell := some (c + 1) } := by
  have hlow : ¬3 ≤ c + 1 := by omega
  simp only [dwelt, dwellStep, h, if_pos hv, if_neg hlow]

theorem dwelt_short {g : LineGroup} {v c : Nat} {r : Segment} (h : r.dwell = some c) (hv : dwellCap g r < v)
    (hc : 2 ≤ c) : dwelt g v r = ({ r with dwell := none } : Segment).setFlags fun f => { f with dwellShort :=
      true } := by
  have hhigh : 3 ≤ c + 1 := by omega
  simp only [dwelt, dwellStep, h, if_pos hv, if_pos hhigh]

theorem dwelt_kept (g : LineGroup) (v : Nat) (r : Segment) :
    (dwelt g v r).tag = r.tag ∧ (dwelt g v r).calender = r.calender := by
  unfold dwelt dwellStep
  (repeat' split) <;> exact ⟨rfl, rfl⟩

theorem dwellRecord_rls (s : State) (t : Tag) :
    (dwellRecord s t).rls = modSeg t (dwelt s.line s.mou.speed) s.rls := by
  unfold dwellRecord
  cases hr : findSeg t s.rls with
  | none =>
    have hnone : modSeg t (dwelt s.line s.mou.speed) s.rls = modSeg t (fun r => r) s.rls :=
      modSeg_congr fun r hr' htag => absurd htag (findSeg_none.mp hr r hr')
    rw [hnone, modSeg_id]
  | some r =>
    simp only
    split <;> rfl

/-- All records take the dwell step (R101). -/
theorem dwellSample_rls {s : State} (h : (s.rls.map Segment.tag).Nodup) :
    (dwellSample s).rls = s.rls.map (dwelt s.line s.mou.speed) := by
  have hfold : ∀ (ts : List Tag) (u : State), (ts.foldl dwellRecord u).rls
      = ts.foldl (fun acc t => modSeg t (dwelt u.line u.mou.speed) acc) u.rls := by
    intro ts
    induction ts with
    | nil => exact fun u => rfl
    | cons t ts ih =>
      intro u
      have hkept : (dwellRecord u t).line = u.line ∧ (dwellRecord u t).mou = u.mou := by simp
      rw [List.foldl_cons, List.foldl_cons, ih, dwellRecord_rls, hkept.1, hkept.2]
  rw [dwellSample, hfold, foldl_modSeg _ (fun r => (dwelt_kept _ _ r).1) _ h]
  exact List.map_congr_left fun r hr => if_pos (List.mem_map.mpr ⟨r, hr, rfl⟩)

/-- Without dwell counters the sample leaves the list alone (R101). -/
theorem dwellSample_none {s : State} (h : ∀ r ∈ s.rls, r.dwell = none) : dwellSample s = s := by
  have hrecord : ∀ t, dwellRecord s t = s := by
    intro t
    unfold dwellRecord
    cases hr : findSeg t s.rls with
    | none => rfl
    | some r =>
      have hsame : s.modSegment t (fun x => (dwellStep s.line s.mou.speed x).1) = s := by
        have hlist : modSeg t (fun x => (dwellStep s.line s.mou.speed x).1) s.rls = modSeg t (fun r => r) s.rls :=
          modSeg_congr fun x hx _ => by rw [dwelt_none (h x hx)]
        rw [State.modSegment, hlist, modSeg_id]
        rfl
      simp only [hsame, dwelt_none (h r (findSeg_some hr).2)]
      exact if_neg (by simp)
  rw [dwellSample]
  generalize s.rls.map Segment.tag = ts
  induction ts with
  | nil => rfl
  | cons t ts ih => rw [List.foldl_cons, hrecord, ih]

/-! ### The sample -/

/-- The line after measuring and the move of the reference (R98, R100). -/
def sampledMou (s : State) (v : Nat) : State :=
  s.setMou { s.mou with
    speed := v, pLast := s.mou.p, target := speedTarget s
    reference := if s.mou.mode = .run then min (s.mou.reference + s.line.accel) (speedTarget s)
      else (moveToward s.mou.reference (speedTarget s) s.line.accel).toNat }

theorem moveToward_run (reference target accel : Nat) :
    (moveToward (min reference target : Nat) target accel).toNat = min (reference + accel) target := by
  unfold moveToward
  split
  · omega
  · split <;> omega

theorem moveReference_formSpeed (s : State) :
    moveReference (formSpeed (measureSpeed s))
      = sampledMou s (measuredSpeed s.mou.p s.mou.pLast s.line.countsPerM) := by
  have htarget : speedTarget (measureSpeed s) = speedTarget s := speedTarget_congr (fun _ => rfl) rfl rfl rfl rfl
  have hreference : (formSpeed (measureSpeed s)).mou.reference
      = if s.mou.mode = .run then min s.mou.reference (speedTarget s) else s.mou.reference := by
    rw [formSpeed_reference, htarget]
    rfl
  have hformed : (formSpeed (measureSpeed s)).mou.target = speedTarget s := htarget
  have hmou : (formSpeed (measureSpeed s)).mou = { (formSpeed (measureSpeed s)).mou with
      speed := measuredSpeed s.mou.p s.mou.pLast s.line.countsPerM, pLast := s.mou.p } := rfl
  unfold moveReference
  rw [hreference, hformed]
  by_cases hrun : s.mou.mode = .run
  · have hline : (formSpeed (measureSpeed s)).line = s.line := rfl
    rw [if_pos hrun, hline, moveToward_run]
    simp only [sampledMou, if_pos hrun, formSpeed, htarget, measureSpeed]
    rfl
  · rw [if_neg hrun]
    simp only [sampledMou, if_neg hrun, formSpeed, htarget, measureSpeed]
    rfl

theorem sampleLine_eq (s : State) : sampleLine s
    = stopTest (dwellSample (sampledMou s (measuredSpeed s.mou.p s.mou.pLast s.line.countsPerM))) := by
  rw [sampleLine, moveReference_formSpeed]

/-- What of a record a line sample may change, and where it stands. -/
def dwellKey (r : Segment) : Tag × CalenderState × Option Nat × Bool :=
  (r.tag, r.calender, r.dwell, r.flags.dwellShort)

theorem unmarked_dwellKey : Unmarked dwellKey :=
  ⟨fun _ => rfl, fun _ => rfl⟩

/-- Each record after a line sample has taken the dwell step (R101). -/
theorem mem_sampleLine {s : State} (hnodup : (s.rls.map Segment.tag).Nodup) {r : Segment} (hr : r ∈ s.rls) :
    ∃ r' ∈ (settle (sampleLine s)).rls,
      dwellKey r' = dwellKey (dwelt s.line (measuredSpeed s.mou.p s.mou.pLast s.line.countsPerM) r) := by
  have hrls : (sampleLine s).rls = s.rls.map (dwelt s.line (measuredSpeed s.mou.p s.mou.pLast s.line.countsPerM)) := by
    have hstop : ∀ u, (stopTest u).rls = u.rls := fun u => by simp
    rw [sampleLine_eq, hstop]
    exact dwellSample_rls (s := sampledMou s _) hnodup
  refine mem_of_map_eq (map_settle unmarked_dwellKey (sampleLine s)) ?_
  rw [hrls]
  exact List.mem_map.mpr ⟨r, hr, rfl⟩

/-- Without dwell counters a line sample is the measuring, the move of the reference and the end of the stop. -/
theorem sampleLine_none {s : State} (h : ∀ r ∈ s.rls, r.dwell = none) : sampleLine s
    = stopTest (sampledMou s (measuredSpeed s.mou.p s.mou.pLast s.line.countsPerM)) := by
  rw [sampleLine_eq, dwellSample_none (s := sampledMou s _) h]

/-- A stop that is complete (R97). -/
theorem stopTest_complete {s : State} (hmode : s.mou.mode = .stopping) (hreference : s.mou.reference = 0)
    (hspeed : s.mou.speed = 0) : stopTest s
      = enterMode (if s.mou.cause = .directive then .standby else .halted) s := by
  rw [stopTest, if_pos ⟨hmode, hreference, hspeed⟩]
  cases s.mou.cause <;> rfl

theorem moveToward_zero (reference accel : Nat) : (moveToward reference (0 : Nat) accel).toNat = reference - accel := by
  unfold moveToward
  split
  · omega
  · split <;> omega

/-- The reference's way down in STOPPING (R100). -/
theorem sampledMou_stopping {s : State} (v : Nat) (hmode : s.mou.mode = .stopping) :
    sampledMou s v = s.setMou { s.mou with
      speed := v, pLast := s.mou.p, target := 0, reference := s.mou.reference - s.line.accel } := by
  have hrun : s.mou.mode ≠ .run := by
    rw [hmode]
    decide
  have htarget : speedTarget s = 0 := if_neg hrun
  rw [sampledMou, if_neg hrun, htarget, moveToward_zero]

/-- A sample that changes the line's speed figures alone. -/
theorem exec_lineSample_still {s : State} {m : Mou} (h : Quiet s) (hsample : sampleLine s = s.setMou m) :
    exec .lineSample s = .next (s.setMou m) := by
  refine congrArg Host.Outcome.next ?_
  rw [hsample, settle_quiet (s.setMou m) (quiet_congr s _ rfl rfl rfl rfl rfl h)]

/-- A sample at which the stop is complete (R97): the line enters STANDBY or HALTED by the stop cause. -/
theorem exec_lineSample_complete {s : State} {m : Mou} (h : Quiet s) (hmode : m.mode = .stopping)
    (hreference : m.reference = 0) (hspeed : m.speed = 0) (htarget : m.target = 0)
    (hsample : sampleLine s = stopTest (s.setMou m)) :
    ∃ t, exec .lineSample s = .next t
      ∧ t.mou = { m with nipClosed := false, mode := if m.cause = .directive then .standby else .halted }
      ∧ t.lrx = { s.lrx with timer := none } ∧ t.alc = s.alc ∧ t.rls = s.rls := by
  have hcomplete : sampleLine s = enterMode (if m.cause = .directive then .standby else .halted) (s.setMou m) :=
    hsample.trans (stopTest_complete (s := s.setMou m) hmode hreference hspeed)
  have hnot : (if m.cause = .directive then LineMode.standby else .halted) ≠ .run := by split <;> decide
  have hrest : (if m.cause = .directive then LineMode.standby else .halted) = .standby
      ∨ (if m.cause = .directive then LineMode.standby else .halted) = .warmup
      ∨ (if m.cause = .directive then LineMode.standby else .halted) = .halted := by split <;> simp
  have htimer : ∀ old timeout timer,
      timerOnMode old (if m.cause = .directive then LineMode.standby else .halted) timeout timer = none := by
    intro old timeout timer
    split <;> rfl
  rw [enterMode_eq hnot, htimer, if_pos hrest] at hcomplete
  have hquiet : Quiet (sampleLine s) := by
    rw [hcomplete]
    exact quiet_congr s _ rfl rfl rfl rfl rfl h
  refine ⟨sampleLine s, congrArg Host.Outcome.next (settle_quiet _ hquiet), ?_⟩
  rw [hcomplete]
  refine ⟨?_, rfl, rfl, rfl⟩
  simp only [State.setHtc_mou, State.setMou_mou, hreference, htarget]

/-- Settles O52: the sample with and without dwell counters, by the line mode. -/
theorem lineSample : Obligations.LineSample := by
  intro s v h hv
  obtain rfl : v = measuredSpeed s.mou.p s.mou.pLast s.line.countsPerM := hv
  generalize hspeed : measuredSpeed s.mou.p s.mou.pLast s.line.countsPerM = v
  have hmeasured : (sampleLine s).mou.speed = v ∧ (sampleLine s).mou.pLast = s.mou.p ∧ (sampleLine s).tnc = s.tnc := by
    rw [sampleLine_eq]
    simp [sampledMou, hspeed]
  obtain ⟨hmspeed, hmlast, hmtnc⟩ := hmeasured
  refine ⟨⟨settle (sampleLine s), rfl, ?_, ?_, ?_, ?_, ?_, ?_, ?_, ?_, ?_, ?_, ?_, ?_, fun hnodup r hr => ?_⟩,
    fun hnone => ⟨fun hmode => ?_, fun hmode hgoes => ?_, fun hmode hlow hstill => ?_⟩⟩
  · simpa using hmspeed
  · simpa using hmlast
  · simp
  · simp
  · simp
  · simp
  · simp
  · simp
  · simpa using hmtnc
  · simp
  · simp
  · simp
  · obtain ⟨r', hr', hkey⟩ := mem_sampleLine hnodup hr
    rw [hspeed] at hkey
    simp only [dwellKey, Prod.mk.injEq, dwelt_kept] at hkey
    obtain ⟨htag, hcalender, hdwell, hshort⟩ := hkey
    refine ⟨r', hr', htag, hcalender, fun hd => ?_, fun c hd hslow => ?_, fun c hd hfast hc => ?_,
      fun c hd hfast hc => ?_⟩
    · rw [hdwell, hshort, dwelt, dwelt_none hd]
      exact ⟨hd, rfl⟩
    · rw [hdwell, hshort, dwelt_slow hd hslow]
      exact ⟨rfl, rfl⟩
    · rw [hdwell, hshort, dwelt_fast hd hfast hc]
      exact ⟨rfl, rfl⟩
    · rw [hdwell, hshort, dwelt_short hd hfast hc]
      exact ⟨rfl, rfl⟩
  all_goals
    have hsample := sampleLine_none hnone
    rw [hspeed] at hsample
  · have hsampled : sampledMou s v = s.setMou { s.mou with
        speed := v, pLast := s.mou.p, target := speedTarget s,
        reference := min (s.mou.reference + s.line.accel) (speedTarget s) } := by
      rw [sampledMou, if_pos hmode]
    rw [hsampled] at hsample
    exact exec_lineSample_still h (hsample.trans (if_neg fun hstop => by
      rw [show s.mou.mode = .stopping from hstop.1] at hmode
      cases hmode))
  · rw [sampledMou_stopping v hmode] at hsample
    refine exec_lineSample_still h (hsample.trans (if_neg fun ⟨_, hreference, hspeed⟩ => ?_))
    rcases hgoes with hgoes | hgoes
    · exact absurd hreference (by simp only [State.setMou_mou]; omega)
    · exact hgoes hspeed
  · subst hstill
    rw [sampledMou_stopping 0 hmode] at hsample
    have hzero : s.mou.reference - s.line.accel = 0 := by omega
    rw [hzero] at hsample
    exact exec_lineSample_complete (m := { s.mou with speed := 0, pLast := s.mou.p, target := 0, reference := 0 })
      h hmode rfl rfl rfl hsample

end Sys2Proof.Machine
end

section
/-! SUPPORT and the settling of O53: the drive fault and bar fault inputs (R102, R140, R142, R170, R179, R183). -/

namespace Sys2Proof.Machine

/-! ### One condition served alone -/

theorem eligible_of_not_pending {a : Alc} {src : AlertSource} (h : sourcePending a src = false) :
    eligible a src = false := by
  unfold eligible
  split
  · rfl
  · simp [h]

/-- What makes sources pending is kept (R170, R171). -/
theorem sourcePending_congr {a b : Alc} (hconfig : b.config = a.config) (hholds : b.holds = a.holds)
    (hocc : b.occ = a.occ) (hstack : b.stack = a.stack) (src : AlertSource) :
    sourcePending b src = sourcePending a src := by
  unfold sourcePending onStack
  rw [hconfig, hholds, hocc, hstack]

theorem onStack_cons (a : Alc) (e : StackEntry) (occ : Vector (Option Occurrence) 13) (src : AlertSource) :
    onStack { a with occ := occ, stack := e :: a.stack } src = (decide (e.source = src) || onStack a src) := rfl

/-- A LATCHED source served takes itself out of the pending set, and puts no other in (R179). -/
theorem not_pending_serve {s : State} {src x : AlertSource} (hmode : s.alc.config[src.index].mode = .latched)
    (hcond : src.isCondition = true) (h : x ≠ src → sourcePending s.alc x = false) :
    sourcePending (serve src s).alc x = false := by
  obtain ⟨hconfig, hholds, -⟩ := serve_alc_frame src s
  have hserved : (serve src s).alc = { s.alc with
      occ := s.alc.occ.set src.index none, stack := pushedEntry s.alc src :: s.alc.stack } := by
    rw [serve_latched hmode]
    simp
  by_cases hx : x = src
  · subst hx
    have hon : onStack (serve x s).alc x = true := by
      rw [hserved, onStack_cons]
      simp [pushedEntry]
    rw [sourcePending, if_pos hcond, hon]
    simp
  · have hbefore := h hx
    rw [sourcePending] at hbefore ⊢
    split
    · next hc =>
      rw [if_pos hc] at hbefore
      rw [hserved, onStack_cons]
      simp only [Bool.and_eq_false_iff, Bool.not_eq_false', Bool.or_eq_true] at hbefore ⊢
      rcases hbefore with hbefore | hbefore
      · exact .inl hbefore
      · exact .inr (.inr hbefore)
    · next hc =>
      rw [if_neg hc] at hbefore
      rw [hserved, set_index_of_ne _ _ hx]
      exact hbefore

/-- An eligible condition with nothing else pending is served alone (R177, R179). -/
theorem evaluate_alone {s : State} {src : AlertSource} (hmode : s.alc.config[src.index].mode = .latched)
    (hcond : src.isCondition = true) (helig : eligible s.alc src = true)
    (hothers : ∀ x, x ≠ src → sourcePending s.alc x = false) : evaluate s = serve src s := by
  refine evaluate_of_next ?_ fun x => eligible_of_not_pending (not_pending_serve hmode hcond (hothers x))
  cases hn : nextServed s.alc with
  | none => exact absurd (not_eligible_of_nextServed hn src) (by simp [helig])
  | some x =>
    by_contra hne
    have hx : x ≠ src := fun e => hne (by rw [e])
    exact absurd (eligible_of_nextServed hn) (by simp [eligible_of_not_pending (hothers x hx)])

/-- What DRIVE_FAULT needs to be served alone at level 3 with grade STOP: nothing pending, and no entry of its level or
its own on the stack (R176). -/
structure ServesAlone (a : Alc) : Prop where
  fresh : a.fresh = []
  pending : ∀ src, sourcePending a src = false
  stack : ∀ e ∈ a.stack, e.level < 3 ∧ e.source ≠ .driveFault
  config : a.config[AlertSource.driveFault.index] = { level := some 3, grade := .stop, mode := .latched }

/-- The entry pushed for DRIVE_FAULT (R179). -/
def driveFaultEntry (ctx : Context) : StackEntry where
  source := .driveFault
  level := 3
  grade := .stop
  merge := 1
  ctx := ctx

/-- DRIVE_FAULT has begun. -/
def driveFaultBegun (ctx : Context) (a : Alc) : Alc :=
  { a with
    holds := a.holds.set AlertSource.driveFault.index true
    condCtx := a.condCtx.set AlertSource.driveFault.index (some ctx)
    fresh := [.driveFault] }

theorem not_onStack {a : Alc} {src : AlertSource} (h : ∀ e ∈ a.stack, e.source ≠ src) : onStack a src = false := by
  rw [onStack, List.any_eq_false]
  intro e he
  simpa using h e he

theorem beginCond_driveFault {s : State} (ctx : Context) (h : ServesAlone s.alc) :
    beginCond .driveFault ctx s = s.setAlc (driveFaultBegun ctx s.alc) := by
  have hnot : onStack s.alc .driveFault = false := not_onStack fun e he => (h.stack e he).2
  simp [beginCond, State.modAlc, driveFaultBegun, hnot, h.config, h.fresh]

theorem sourcePending_begun {a : Alc} (ctx : Context) (x : AlertSource) (hx : x ≠ .driveFault) :
    sourcePending (driveFaultBegun ctx a) x = sourcePending a x := by
  have hholds : (driveFaultBegun ctx a).holds[x.index] = a.holds[x.index] := set_index_of_ne _ _ hx
  unfold sourcePending
  rw [hholds]
  rfl

theorem pendingCtx_of_condition {a : Alc} {src : AlertSource} (h : src.isCondition = true) :
    pendingCtx a src = a.condCtx[src.index] := if_pos h

/-- ALC when DRIVE_FAULT has begun and been logged (R173). -/
def driveFaultLogged (ctx : Context) (a : Alc) : Alc :=
  { logged .driveFault ctx (driveFaultBegun ctx a) with fresh := [], evalDue := false }

theorem afterLog_begun (ctx : Context) (a : Alc) : afterLog (driveFaultBegun ctx a) = driveFaultLogged ctx a :=
  afterLog_one rfl (by rw [pendingCtx_of_condition rfl]; simp [driveFaultBegun])

/-- What the log leaves as it was. -/
theorem driveFaultLogged_frame (ctx : Context) (a : Alc) :
    (driveFaultLogged ctx a).config = a.config ∧ (driveFaultLogged ctx a).stack = a.stack
      ∧ (driveFaultLogged ctx a).occ = a.occ
      ∧ (driveFaultLogged ctx a).holds = a.holds.set AlertSource.driveFault.index true
      ∧ (driveFaultLogged ctx a).condCtx = a.condCtx.set AlertSource.driveFault.index (some ctx)
      ∧ (driveFaultLogged ctx a).reaction = a.reaction := by
  obtain ⟨hconfig, hholds, hctx, hocc, hstack, -, hreaction⟩ := logged_frame .driveFault ctx (driveFaultBegun ctx a)
  exact ⟨hconfig, hstack, hocc, hholds, hctx, hreaction⟩

theorem sourcePending_logged {a : Alc} (ctx : Context) {x : AlertSource} (hx : x ≠ .driveFault) :
    sourcePending (driveFaultLogged ctx a) x = sourcePending a x := by
  obtain ⟨hconfig, hstack, hocc, hholds, -⟩ := driveFaultLogged_frame ctx a
  exact (sourcePending_congr (a := driveFaultBegun ctx a) hconfig hholds hocc hstack x).trans
    (sourcePending_begun ctx x hx)

theorem eligible_logged {a : Alc} (ctx : Context) (h : ServesAlone a) :
    eligible (driveFaultLogged ctx a) .driveFault = true := by
  obtain ⟨hconfig, hstack, -, hholds, -⟩ := driveFaultLogged_frame ctx a
  have hnot : onStack (driveFaultLogged ctx a) .driveFault = false := by
    refine not_onStack fun e he => (h.stack e ?_).2
    rwa [hstack] at he
  have hcond : AlertSource.driveFault.isCondition = true := rfl
  have hpending : sourcePending (driveFaultLogged ctx a) .driveFault = true := by
    rw [sourcePending, if_pos hcond, hconfig, h.config, hholds, hnot]
    simp
  unfold eligible
  rw [hconfig, h.config]
  simp only [hpending, hnot, hstack]
  cases hs : a.stack with
  | nil => rfl
  | cons e l => simp [(h.stack e (by rw [hs]; exact List.mem_cons_self)).1]

/-- DRIVE_FAULT begun alone is served in the event (R177, R179). -/
theorem logAndEvaluate_driveFault {s : State} (ctx : Context) (h : ServesAlone s.alc) :
    logAndEvaluate (beginCond .driveFault ctx s) = serve .driveFault (s.setAlc (driveFaultLogged ctx s.alc)) := by
  obtain ⟨hconfig, -⟩ := driveFaultLogged_frame ctx s.alc
  have hlog : (s.setAlc (driveFaultBegun ctx s.alc)).modAlc afterLog = s.setAlc (driveFaultLogged ctx s.alc) :=
    congrArg s.setAlc (afterLog_begun ctx s.alc)
  have hdue : ((s.setAlc (driveFaultBegun ctx s.alc)).alc.evalDue
      || !(s.setAlc (driveFaultBegun ctx s.alc)).alc.fresh.isEmpty) = true := by
    simp [driveFaultBegun]
  rw [beginCond_driveFault ctx h, logAndEvaluate_eq, if_pos hdue, hlog]
  refine evaluate_alone (s := s.setAlc (driveFaultLogged ctx s.alc)) ?_ rfl (eligible_logged ctx h) fun x hx => ?_
  · rw [State.setAlc_alc, hconfig, h.config]
  · exact (sourcePending_logged ctx hx).trans (h.pending x)

/-- The stack, and the log's first alert, when DRIVE_FAULT has been served alone (R173, R179). -/
theorem served_driveFault {s : State} (ctx : Context) (h : ServesAlone s.alc) :
    (serve .driveFault (s.setAlc (driveFaultLogged ctx s.alc))).alc.stack = driveFaultEntry ctx :: s.alc.stack := by
  obtain ⟨hconfig, hstack, -, -, hctx, -⟩ := driveFaultLogged_frame ctx s.alc
  have hmode : (s.setAlc (driveFaultLogged ctx s.alc)).alc.config[AlertSource.driveFault.index].mode = .latched := by
    rw [State.setAlc_alc, hconfig, h.config]
  have hentry : pushedEntry (driveFaultLogged ctx s.alc) .driveFault = driveFaultEntry ctx := by
    have hcond : AlertSource.driveFault.isCondition = true := rfl
    simp only [pushedEntry, hconfig, h.config, hcond, if_true, pendingCtx_of_condition hcond, hctx]
    simp [driveFaultEntry, ctxOr]
  rw [serve_latched hmode]
  simp [hentry, hstack]

/-- STOP newly in force (R95, R152, R183). -/
theorem handReaction_stop {s : State} (hstop : stackReaction s.alc.stack = .stop) (hnew : s.alc.reaction ≠ .stop) :
    (handReaction s).mou.mode = (if s.mou.mode = .run ∨ s.mou.mode = .warmup then .stopping else s.mou.mode)
      ∧ (s.mou.mode = .run ∨ s.mou.mode = .warmup ∨ s.mou.mode = .stopping → (handReaction s).mou.cause = .reaction)
      ∧ (handReaction s).htc.target = s.htc.group.standby ∧ (handReaction s).htc.source = .standby := by
  have hne : ¬stackReaction s.alc.stack = s.alc.reaction := by
    rw [hstop]
    exact Ne.symm hnew
  generalize hs1 : (s.modAlc fun a => { a with reaction := .stop }) = s1
  have hhand : handReaction s = formHeat (formSpeed (stopReaction s1)) := by
    rw [handReaction, if_neg hne, hstop, ← hs1]
    rfl
  have hmou : s1.mou = s.mou := by rw [← hs1]; rfl
  have hreaction : (formSpeed (stopReaction s1)).alc.reaction = .stop := by
    rw [← hs1]
    simp
  have hgroup : (formSpeed (stopReaction s1)).htc.group = s.htc.group := by
    rw [← hs1]
    simp
  have haim : heatAim (formSpeed (stopReaction s1)) = (s.htc.group.standby, s.htc.group.idleBand, .standby) := by
    rw [heatAim, if_pos hreaction, hgroup]
  rw [hhand]
  refine ⟨?_, ?_, congrArg Prod.fst haim, congrArg (fun x => x.2.2) haim⟩
  · rw [formHeat_mou, ← hmou]
    cases hmode : s1.mou.mode <;> simp [stopReaction, hmode, enterStopping, enterMode, formSpeed]
  · rw [formHeat_mou, ← hmou]
    cases hmode : s1.mou.mode <;> simp [stopReaction, hmode, enterStopping, enterMode, formSpeed]

/-- The event in which DRIVE_FAULT begins alone: its entry is pushed and STOP comes into force (R95, R179, R183). -/
theorem settle_driveFault {s : State} (ctx : Context) (h : ServesAlone s.alc) (hnew : s.alc.reaction ≠ .stop) :
    (settle (beginCond .driveFault ctx s)).alc.stack = driveFaultEntry ctx :: s.alc.stack
      ∧ (settle (beginCond .driveFault ctx s)).alc.reaction = .stop
      ∧ (settle (beginCond .driveFault ctx s)).mou.mode
        = (if s.mou.mode = .run ∨ s.mou.mode = .warmup then .stopping else s.mou.mode)
      ∧ (s.mou.mode = .run ∨ s.mou.mode = .warmup ∨ s.mou.mode = .stopping →
        (settle (beginCond .driveFault ctx s)).mou.cause = .reaction)
      ∧ (settle (beginCond .driveFault ctx s)).htc.target = s.htc.group.standby
      ∧ (settle (beginCond .driveFault ctx s)).htc.source = .standby := by
  have hserved := served_driveFault ctx h
  have hlogged := logAndEvaluate_driveFault ctx h
  have hstop : stackReaction (driveFaultEntry ctx :: s.alc.stack) = .stop := by
    rw [stackReaction_cons]
    cases stackReaction s.alc.stack <;> rfl
  generalize hw : serve .driveFault (s.setAlc (driveFaultLogged ctx s.alc)) = w at hserved hlogged
  have hmou : w.mou = s.mou ∧ w.htc = s.htc := by
    rw [← hw]
    simp
  have hreaction : w.alc.reaction = s.alc.reaction := by
    obtain ⟨-, -, -, -, -, -, hserve, -⟩ := serve_alc_frame .driveFault (s.setAlc (driveFaultLogged ctx s.alc))
    obtain ⟨-, -, -, -, -, hlog⟩ := driveFaultLogged_frame ctx s.alc
    rw [← hw, hserve]
    exact hlog
  obtain ⟨hmode, hcause, htarget, hsource⟩ :=
    handReaction_stop (s := w) (by rw [hserved]; exact hstop) (by rw [hreaction]; exact hnew)
  have hsettle : settle (beginCond .driveFault ctx s) = ltxChoose (handReaction w) := by rw [settle, hlogged]
  obtain ⟨-, -, -, -, -, -, hstack, -, -, -, hreact⟩ := settle_alc_frame (beginCond .driveFault ctx s)
  rw [hlogged, hserved] at hstack hreact
  rw [hmou.1] at hmode hcause
  rw [hmou.2] at htarget
  refine ⟨hstack, hreact.trans hstop, ?_, ?_, ?_, ?_⟩
  · rw [hsettle, ltxChoose_mou, hmode]
  · rw [hsettle, ltxChoose_mou]
    exact hcause
  · rw [hsettle, ltxChoose_htc, htarget]
  · rw [hsettle, ltxChoose_htc, hsource]

/-! ### The bars' inputs -/

/-- BAR_FAULT is judged over an event that left its holding as it was (R142). -/
theorem judgeBarFault_same {before : Vector BarUnit 6} {s : State} (h : barFaultHolds s.bars = barFaultHolds before) :
    judgeBarFault before s = s := by
  unfold judgeBarFault
  rw [h]
  cases barFaultHolds before <;> rfl

theorem barFaultHolds_iff (bars : Vector BarUnit 6) :
    barFaultHolds bars = true ↔ ∃ k : Bar, bars[k].state = .faulted := by
  rw [barFaultHolds, vector_toList_any]
  simp

/-- The bars when one bar's fault input has changed (R140). -/
theorem faultedBar_eq (x : Bool) (b : BarUnit) (h : b.state ≠ .active ∨ x = false) :
    faultedBar x b = { b with fault := x } := by
  have hnot : ¬(b.state = .active ∧ x = true) := by
    rintro ⟨hstate, rfl⟩
    rcases h with h | h
    · exact h hstate
    · cases h
  rw [faultedBar, if_neg hnot]

theorem faultedBar_active {b : BarUnit} (h : b.state = .active) :
    faultedBar true b = { b with fault := true, state := .faulted } := by
  rw [faultedBar, if_pos ⟨h, rfl⟩]

theorem barFaultLevel_eq (k : Bar) (x : Bool) (s : State) :
    barFaultLevel k x s = judgeBarFault s.bars (s.setBars (s.bars.set k (faultedBar x s.bars[k]))) := rfl

theorem getElem_set_bar (bars : Vector BarUnit 6) (k j : Bar) (b : BarUnit) :
    (bars.set k b)[j] = if j = k then b else bars[j] := by
  by_cases h : j = k
  · subst h
    simp
  · have hne : (k : Nat) ≠ j := fun e => h (Fin.ext e.symm)
    simp [h, hne]

/-- A bar whose state is kept leaves BAR_FAULT as it was (R142). -/
theorem barFaultHolds_set_same {bars : Vector BarUnit 6} {k : Bar} {b : BarUnit} (h : b.state = bars[k].state) :
    barFaultHolds (bars.set k b) = barFaultHolds bars := by
  rw [Bool.eq_iff_iff, barFaultHolds_iff, barFaultHolds_iff]
  refine exists_congr fun j => ?_
  rw [getElem_set_bar]
  split
  · next hj => rw [hj, h]
  · rfl

theorem barFaultHolds_of_mem {bars : Vector BarUnit 6} {j : Bar} (h : bars[j].state = .faulted) :
    barFaultHolds bars = true :=
  (barFaultHolds_iff bars).mpr ⟨j, h⟩

/-- BAR_FAULT begins with the one bar that is FAULTED (R142). -/
theorem judgeBarFault_one {before : Vector BarUnit 6} {u : State} {k : Bar} (hbefore : barFaultHolds before = false)
    (hafter : barFaultHolds u.bars = true)
    (hone : (allBars.filter fun j => decide (u.bars[j].state = .faulted)) = [k]) :
    judgeBarFault before u = beginCond .barFault (unitCtx u (.bar k) 0) u := by
  simp only [judgeBarFault, hbefore, hafter, hone, chooseOne, Bool.not_false, Bool.and_self, if_true]

/-- Where no bar was FAULTED, the one that becomes so begins BAR_FAULT (R142). -/
theorem judgeBarFault_begins {s : State} {k : Bar} {b : BarUnit} (hnone : ∀ j : Bar, s.bars[j].state ≠ .faulted)
    (hb : b.state = .faulted) : judgeBarFault s.bars (s.setBars (s.bars.set k b))
      = beginCond .barFault (unitCtx s (.bar k) 0) (s.setBars (s.bars.set k b)) := by
  have hbefore : barFaultHolds s.bars = false := by
    rw [Bool.eq_false_iff, ne_eq, barFaultHolds_iff]
    exact fun ⟨j, hj⟩ => hnone j hj
  have hafter : barFaultHolds (s.bars.set k b) = true :=
    barFaultHolds_of_mem (j := k) (by rw [getElem_set_bar, if_pos rfl, hb])
  have hone : allBars.filter (fun j => decide ((s.bars.set k b)[j].state = .faulted)) = [k] := by
    have hstate : ∀ j : Bar, decide ((s.bars.set k b)[j].state = .faulted) = decide (j = k) := by
      intro j
      rw [getElem_set_bar]
      by_cases hj : j = k
      · rw [if_pos hj, hb, decide_eq_true hj]
        rfl
      · rw [if_neg hj, decide_eq_false (hnone j), decide_eq_false hj]
    simp only [hstate]
    fin_cases k <;> rfl
  exact judgeBarFault_one (u := s.setBars (s.bars.set k b)) hbefore hafter hone

/-- Settles O53: by the input's level before and after. -/
theorem faultInputs : Obligations.FaultInputs := by
  refine ⟨fun s h => ⟨fun x hx => ?_, fun hset => ?_, fun hclear => ?_⟩, fun s k h => ⟨fun x hx => ?_,
    fun hactive hfaulted =>
    ?_, fun hactive hnone => ?_⟩⟩
  · have hstill : driveFaultLevel x s = s := if_pos hx
    exact congrArg Host.Outcome.next (by rw [hstill, settle_quiet s h])
  · have hended : driveFaultLevel false s = (s.setMou { s.mou with driveFault := false }).setAlc { s.alc with
        holds := s.alc.holds.set AlertSource.driveFault.index false } := if_neg (by simp [hset])
    have hnothing : NothingToChoose s := (ltxChoose_eq_self_iff s).mp h.2.2.2
    refine congrArg Host.Outcome.next ?_
    rw [hended]
    exact settle_of_nothing ⟨h.1, h.2.1, h.2.2.1⟩ ((nothingToChoose_congr s _ rfl rfl rfl rfl).mpr hnothing)
  · let ctx : Context := { seg := none, unit := none, link := none, p := s.mou.p, measured := s.mou.speed }
    let u := s.setMou { s.mou with driveFault := true }
    have hbegun : driveFaultLevel true s = beginCond .driveFault ctx u := if_neg (by simp [hclear])
    refine ⟨settle (beginCond .driveFault ctx u), congrArg (fun x => Host.Outcome.next (settle x)) hbegun, ?_, ?_, ?_,
      ?_,
      ?_, ?_, ?_, ?_, ?_, ?_, fun hpending hstack hconfig hnew => ?_⟩
    · simp [u]
    · simp [beginCond, State.modAlc]
    · simp [beginCond, State.modAlc, ctx]
    · simp [u]
    · simp [u]
    · simp [u]
    · simp [u]
    · simp [u]
    · simp [u]
    · simp [u]
    · obtain ⟨hstack', hreaction, hmode, hcause, htarget, -⟩ :=
        settle_driveFault (s := u) ctx ⟨h.1, hpending, hstack, hconfig⟩ hnew
      exact ⟨hstack', hreaction, hmode, hcause, htarget⟩
  · have hsame : barFaultLevel k x s = s.setBars (s.bars.set k { s.bars[k] with fault := x }) := by
      rw [barFaultLevel_eq, faultedBar_eq x _ hx]
      exact judgeBarFault_same (s := s.setBars (s.bars.set k { s.bars[k] with fault := x }))
        (barFaultHolds_set_same (bars := s.bars) (k := k) rfl)
    refine congrArg Host.Outcome.next ?_
    rw [hsame]
    exact settle_quiet _ (quiet_congr s _ rfl rfl rfl rfl rfl h)
  · obtain ⟨j, hj⟩ := hfaulted
    have hne : j ≠ k := fun e => by rw [e, hactive] at hj; cases hj
    have hsame : barFaultLevel k true s
        = s.setBars (s.bars.set k { s.bars[k] with fault := true, state := .faulted }) := by
      rw [barFaultLevel_eq, faultedBar_active hactive, judgeBarFault_same]
      rw [barFaultHolds_of_mem hj]
      exact barFaultHolds_of_mem (j := j) (by rw [State.setBars_bars, getElem_set_bar, if_neg hne, hj])
    refine congrArg Host.Outcome.next ?_
    rw [hsame]
    exact settle_quiet _ (quiet_congr s _ rfl rfl rfl rfl rfl h)
  · have hbegun : barFaultLevel k true s = beginCond .barFault (unitCtx s (.bar k) 0)
        (s.setBars (s.bars.set k { s.bars[k] with fault := true, state := .faulted })) := by
      rw [barFaultLevel_eq, faultedBar_active hactive, judgeBarFault_begins hnone rfl]
    refine ⟨_, congrArg (fun x => Host.Outcome.next (settle x)) hbegun, ?_, ?_, ?_, ?_, ?_, ?_, ?_, ?_, ?_⟩
    · simp
    · simp [beginCond, State.modAlc]
    · simp [beginCond, State.modAlc, unitCtx, plainCtx]
    all_goals simp

end Sys2Proof.Machine
end

section
/-! SUPPORT and the settling of O54. What the two counters of a tension zone do at a reading (R79, R80), and what a
reading and the expiry of the missing timer leave of TNC (R77, R81). -/

namespace Sys2Proof.Machine

/-! ### The two checks of a zone -/

/-- What a flag with its counter becomes by a reading that lies on the flag's side of its limit or not (R79, R80). -/
def flagStep (flag : Bool) (counter limit : Nat) (side : Prop) [Decidable side] : Bool × Nat :=
  if side ↔ flag = true then (flag, 0) else if limit ≤ counter + 1 then (!flag, 0) else (flag, counter + 1)

theorem windowCheck_flagStep (g : TensionGroup) (e : Int) (z : TensionRec) :
    ((windowCheck g e z).windowFlag, (windowCheck g e z).windowCounter)
      = flagStep z.windowFlag z.windowCounter g.windowCount ((g.window : Int) < |e|) := by
  have hflag : z.windowFlag = true ∨ z.windowFlag = false := by cases z.windowFlag <;> simp
  by_cases hout : (g.window : Int) < |e| <;> by_cases hcount : g.windowCount ≤ z.windowCounter + 1 <;>
    rcases hflag with hset | hset <;> simp [windowCheck, flagStep, hout, hcount, hset]

theorem breakCheck_flagStep (g : TensionGroup) (speed reading : Nat) (z : TensionRec) :
    ((breakCheck g speed reading z).breakFlag, (breakCheck g speed reading z).breakCounter)
      = flagStep z.breakFlag z.breakCounter 3
          (reading < g.breakThreshold ∧ (z.breakFlag = true ∨ 0 < speed)) := by
  have hflag : z.breakFlag = true ∨ z.breakFlag = false := by cases z.breakFlag <;> simp
  by_cases hlow : reading < g.breakThreshold <;> by_cases hcount : 3 ≤ z.breakCounter + 1 <;>
    by_cases hmoves : 0 < speed <;> rcases hflag with hset | hset <;>
    simp [breakCheck, flagStep, hlow, hcount, hmoves, hset, not_le.mpr, not_lt.mp]

theorem windowCheck_rest (g : TensionGroup) (e : Int) (z : TensionRec) :
    windowCheck g e z = { z with
      windowFlag := (windowCheck g e z).windowFlag
      windowCounter := (windowCheck g e z).windowCounter } := by
  unfold windowCheck
  simp only
  (repeat' split) <;> rfl

theorem breakCheck_rest (g : TensionGroup) (speed reading : Nat) (z : TensionRec) :
    breakCheck g speed reading z = { z with
      breakFlag := (breakCheck g speed reading z).breakFlag
      breakCounter := (breakCheck g speed reading z).breakCounter } := by
  unfold breakCheck
  simp only
  (repeat' split) <;> rfl

/-! ### The loop of a zone -/

/-- The integrator stands where the output stood at the limit that the error drives it to (R77 step 4). -/
theorem tensionInteg_eq (ki : Nat) (e : Int) (z : TensionRec) :
    tensionInteg ki e z = max (-256000) (min 256000
      (if (z.output = 1000 ∧ 0 < e) ∨ (z.output = -1000 ∧ e < 0) then z.integ else z.integ + ki * e)) := by
  unfold tensionInteg clampInt
  split <;> rw [min_comm]

/-- A zone whose reading is recorded and driven, before the two checks (R77 steps 1 to 5). -/
def drivenZone (kp ki : Nat) (target : Int) (reading : Nat) (z : TensionRec) : TensionRec :=
  { recordReading reading z with
    target := target
    integ := tensionInteg ki (target - reading) z
    output := clampInt ((kp * (target - reading)).tdiv 16 + (tensionInteg ki (target - reading) z).tdiv 256)
      (-1000) 1000 }

/-- The loop ends with the two checks, which touch their own flag and counter alone (R77 step 6). -/
theorem tensionLoop_rest (g : TensionGroup) (kp ki : Nat) (target : Int) (speed reading : Nat) (z y : TensionRec)
    (hy : y = tensionLoop g kp ki target speed reading z) :
    y = { drivenZone kp ki target reading z with
        windowFlag := y.windowFlag
        windowCounter := y.windowCounter
        breakFlag := y.breakFlag
        breakCounter := y.breakCounter }
      ∧ (y.windowFlag, y.windowCounter)
        = flagStep z.windowFlag z.windowCounter g.windowCount ((g.window : Int) < |target - reading|)
      ∧ (y.breakFlag, y.breakCounter) = flagStep z.breakFlag z.breakCounter 3
          (reading < g.breakThreshold ∧ (z.breakFlag = true ∨ 0 < speed)) := by
  have hloop : y = breakCheck g speed reading (windowCheck g (target - reading)
    (drivenZone kp ki target reading z)) := hy
  have hwindow := windowCheck_rest g (target - reading) (drivenZone kp ki target reading z)
  have hflag := windowCheck_flagStep g (target - reading) (drivenZone kp ki target reading z)
  generalize hw : windowCheck g (target - reading) (drivenZone kp ki target reading z) = w at hloop hwindow hflag
  have hbreak := breakCheck_rest g speed reading w
  rw [← hloop] at hbreak
  have hwin : y.windowFlag = w.windowFlag ∧ y.windowCounter = w.windowCounter := by
    rw [hbreak]
    exact ⟨rfl, rfl⟩
  have hstep := breakCheck_flagStep g speed reading w
  rw [← hloop] at hstep
  have hkept : w.breakFlag = z.breakFlag ∧ w.breakCounter = z.breakCounter := by
    rw [hwindow]
    exact ⟨rfl, rfl⟩
  obtain ⟨hflag', hcounter'⟩ := hwin
  obtain ⟨hbreakFlag, hbreakCounter⟩ := hkept
  refine ⟨?_, by rw [hflag', hcounter', hflag]; rfl, by rw [hstep]; simp only [hbreakFlag, hbreakCounter]⟩
  rw [hflag', hcounter']
  conv_lhs => rw [hbreak, hwindow]

/-! ### The tension controller after the event -/

/-- The zone's target at a reading, by the line mode (R76). -/
theorem zoneTarget_eq (t : Tnc) (mode : LineMode) (z : TensionZone) :
    zoneTarget t mode z = if mode = .run ∨ mode = .stopping then baseTarget t z
      else baseTarget t z * t.group.standstill / 100 := by
  cases mode <;> rfl

/-- A zone at a reading: recorded alone where it is idle, else its loop (R77). -/
def readZone (z : TensionZone) (reading : Nat) (s : State) (x : TensionRec) : TensionRec :=
  if zoneIdle s.tnc z then recordReading reading x
  else tensionLoop s.tnc.group s.tnc.group.kp[tensionIndex z] s.tnc.group.ki[tensionIndex z]
    (zoneTarget s.tnc s.mou.mode z) s.mou.speed reading x

theorem settle_tensionReading_tnc (z : TensionZone) (reading : Nat) (s : State) :
    (settle (tensionReadingEvent z reading s)).tnc
      = { s.tnc with zones := vmod s.tnc.zones (tensionIndex z) (readZone z reading s) } := by
  have hevent : (settle (tensionReadingEvent z reading s)).tnc = (takeReading z reading s).tnc := by
    simp only [tensionReadingEvent, settle_tnc, judgeTension_frame]
  exact hevent.trans rfl

theorem recordedZone (z : TensionZone) (reading : Nat) (s : State) (x : TensionRec) :
    (readZone z reading s x).last = reading ∧ (readZone z reading s x).timer = some 50
      ∧ (readZone z reading s x).missing = false := by
  unfold readZone
  split
  · exact ⟨rfl, rfl, rfl⟩
  · rw [(tensionLoop_rest _ _ _ _ _ _ _ _ rfl).1]
    exact ⟨rfl, rfl, rfl⟩

theorem missingExpired_none {z : TensionZone} {s : State} (h : s.tnc.zones[tensionIndex z].timer = none) :
    missingExpired z s = s := by
  unfold missingExpired
  rw [h]

theorem missingExpired_some {z : TensionZone} {s : State} (h : s.tnc.zones[tensionIndex z].timer ≠ none) :
    missingExpired z s
      = judgeTension z s.tnc (s.modTnc fun t => { t with zones := vmod t.zones (tensionIndex z) zoneMissing }) := by
  obtain ⟨ms, hms⟩ := Option.ne_none_iff_exists'.mp h
  unfold missingExpired
  rw [hms]

/-- Settles O54: the reading's zone by its loop and its two checks, the other zones untouched. -/
theorem tensionReadings : Obligations.TensionReadings := by
  intro s z i hquiet hi
  subst hi
  refine ⟨fun reading => ?_, fun htimer => ?_, fun htimer => ?_⟩
  · have htnc := settle_tensionReading_tnc z reading s
    have hzone : (settle (tensionReadingEvent z reading s)).tnc.zones[tensionIndex z]
        = readZone z reading s s.tnc.zones[tensionIndex z] := by rw [htnc, vmod_same]
    obtain ⟨hlast, htimer, hmissing⟩ := recordedZone z reading s s.tnc.zones[tensionIndex z]
    refine ⟨_, rfl, by rw [htnc], fun j hj => by rw [htnc]; exact vmod_other _ _ _ _ hj, by rw [hzone, hlast],
      by rw [hzone, htimer], by rw [hzone, hmissing], fun hidle => by rw [hzone]; exact if_pos hidle,
      fun x y target e hx hy hidle htarget he => ?_, by simp, by simp, by simp, by simp, by simp, by simp, by simp,
        by simp⟩
    have hloop : y = tensionLoop s.tnc.group s.tnc.group.kp[tensionIndex z] s.tnc.group.ki[tensionIndex z] target
        s.mou.speed reading x := by
      rw [hy, hzone, hx, htarget, ← zoneTarget_eq]
      exact if_neg (by simp [hidle])
    obtain ⟨hrest, hwindow, hbreak⟩ := tensionLoop_rest _ _ _ _ _ _ _ _ hloop
    subst he
    have hinteg : y.integ = tensionInteg s.tnc.group.ki[tensionIndex z] (target - reading) x := by rw [hrest]; rfl
    refine ⟨by rw [hrest]; rfl, by rw [hinteg, tensionInteg_eq], ?_, hwindow, ?_⟩
    · rw [hinteg, min_comm]
      conv_lhs => rw [hrest]
      rfl
    · rw [hbreak]
      simp only [flagStep, Nat.add_le_add_iff_right, show ∀ n : Nat, 3 ≤ n + 1 ↔ 2 ≤ n by omega]
  · refine ⟨_, congrArg (fun x => Host.Outcome.next (settle x)) (missingExpired_some htimer), ?_, by simp, by simp,
      by simp,
      by simp, by simp, by simp, by simp, by simp⟩
    have hkept : (settle (judgeTension z s.tnc (s.modTnc fun t => { t with
        zones := vmod t.zones (tensionIndex z) zoneMissing }))).tnc
          = { s.tnc with zones := vmod s.tnc.zones (tensionIndex z) zoneMissing } := by
      simp only [settle_tnc, judgeTension_frame]
      rfl
    rw [hkept, vmod_eq_set]
    rfl
  · exact congrArg Host.Outcome.next ((congrArg settle (missingExpired_none htimer)).trans (settle_quiet s hquiet))

end Sys2Proof.Machine
end

section
/-! SUPPORT and the settling of O57: the reset blocks, and the event that a reset ends with (R188). -/

namespace Sys2Proof.Machine

/-! ### The blocks after a reset -/

theorem resetBlocks_bar (s : State) (k : Bar) : (resetBlocks s).bars[k] = BarUnit.reset s.bars[k].fault := by
  simp only [resetBlocks, vmap_getElem]

theorem resetBlocks_bars_of_clear {s : State} (h : ∀ k : Bar, s.bars[k].fault = false) :
    (resetBlocks s).bars = State.reset.bars := by
  refine Vector.ext fun i hi => ?_
  have hbar := resetBlocks_bar s ⟨i, hi⟩
  rw [h ⟨i, hi⟩] at hbar
  exact hbar.trans (by simp [State.reset])

/-- With no bar's fault input asserted, a reset has BAR_FAULT neither before nor after (R142, R188). -/
theorem judgeBarFault_of_clear {s u : State} (h : ∀ k : Bar, s.bars[k].fault = false)
    (hbars : u.bars = (resetBlocks s).bars) :
    judgeBarFault (vmap (fun b => { b with state := .active }) u.bars) u = u := by
  refine judgeBarFault_same ?_
  rw [hbars, resetBlocks_bars_of_clear h]
  rfl

/-- The event a reset ends with, with no bar's fault input asserted (R188). -/
theorem beginAtReset_of_clear {s : State} (h : ∀ k : Bar, s.bars[k].fault = false) :
    beginAtReset (resetBlocks s) = (if s.mou.driveFault = true then
        beginCond .driveFault (plainCtx (resetBlocks s) 0) (resetBlocks s) else resetBlocks s).modAlc fun a =>
      { a with evalDue := true } := by
  unfold beginAtReset
  simp only
  rw [judgeBarFault_of_clear h (by split <;> simp)]
  rfl

theorem nothingPending_reset : ∀ src : AlertSource, sourcePending Alc.reset src = false := fun src => by
  cases src <;> rfl

theorem nothingToChoose_resetBlocks (s : State) : NothingToChoose (resetBlocks s) := .inr ⟨rfl, rfl, rfl, rfl⟩

/-- An evaluation with nothing pending leaves the blocks as the reset does (R177). -/
theorem settle_resetBlocks (s : State) : settle ((resetBlocks s).modAlc fun a => { a with evalDue := true })
    = resetBlocks s := by
  have hlog : ((resetBlocks s).modAlc fun a => { a with evalDue := true }).modAlc afterLog = resetBlocks s := by
    have hafter : afterLog { Alc.reset with evalDue := true } = Alc.reset := afterLog_none rfl
    exact congrArg (resetBlocks s).setAlc hafter
  have hevaluate : logAndEvaluate ((resetBlocks s).modAlc fun a => { a with evalDue := true }) = resetBlocks s := by
    refine (logAndEvaluate_eq _).trans ((if_pos (by rfl)).trans ?_)
    rw [hlog]
    exact evaluate_of_none fun src => eligible_of_not_pending (nothingPending_reset src)
  rw [settle, hevaluate, handReaction_same _ rfl, (ltxChoose_eq_self_iff _).mpr (nothingToChoose_resetBlocks s)]

/-! ### A drive fault at the reset -/

theorem servesAlone_reset : ServesAlone { Alc.reset with evalDue := true } where
  fresh := rfl
  pending := nothingPending_reset
  stack := fun e he => absurd he List.not_mem_nil
  config := by decide

theorem queueNotice_setAlc_ltx (n : Notice) (a : Alc) (s : State) :
    (queueNotice n (s.setAlc a)).ltx = (queueNotice n s).ltx := by
  by_cases hroom : s.ltx.notices.length < Config.noticePlaces <;> simp [queueNotice, hroom]

/-- The notice of an entry served alone is sent, when LTX had nothing to choose (R17, R186). -/
theorem settle_driveFault_ltx {s : State} (ctx : Context) (h : ServesAlone s.alc) (hchoose : NothingToChoose s) :
    ∃ n, (settle (beginCond .driveFault ctx s)).ltx = deliverNotice n s.ltx := by
  have hmode : (s.setAlc (driveFaultLogged ctx s.alc)).alc.config[AlertSource.driveFault.index].mode = .latched := by
    obtain ⟨hconfig, -⟩ := driveFaultLogged_frame ctx s.alc
    rw [State.setAlc_alc, hconfig, h.config]
  have hserve := serve_latched hmode
  rw [← logAndEvaluate_driveFault ctx h] at hserve
  have hqueued : (handReaction (logAndEvaluate (beginCond .driveFault ctx s))).ltx = (queueNotice
      (servedNotice (driveFaultLogged ctx s.alc) .driveFault ((driveFaultLogged ctx s.alc).stack.length + 1)) s).ltx :=
        by
    rw [handReaction_ltx, hserve, queueNotice_setAlc_ltx, queueNotice_setAlc_ltx]
    rfl
  exact ⟨_, congrArg State.ltx (ltxChoose_of_queueNotice hchoose hqueued (by simp) (by simp))⟩

/-- The first alert of a log that is empty (R173). -/
theorem settle_driveFault_first {s : State} (ctx : Context) (h : ServesAlone s.alc) (hempty : s.alc.firstAlert = none) :
    (settle (beginCond .driveFault ctx s)).alc.firstAlert = some (.driveFault, ctx) := by
  have hserve : (serve .driveFault (s.setAlc (driveFaultLogged ctx s.alc))).alc.firstAlert
      = (driveFaultLogged ctx s.alc).firstAlert := by simp
  obtain ⟨-, -, -, -, -, -, -, -, hfirst, -⟩ := settle_alc_frame (beginCond .driveFault ctx s)
  rw [hfirst, logAndEvaluate_driveFault ctx h, hserve]
  simp [driveFaultLogged, logged, driveFaultBegun, hempty]

/-! ### What a reset leaves -/

theorem handReaction_lrx_of_rest {s : State} (h : s.mou.mode = .standby ∨ s.mou.mode = .halted) :
    (handReaction s).lrx = s.lrx := by
  have hrest : ∀ g, stopReaction (s.modAlc fun a => { a with reaction := g }) = s.modAlc fun a =>
      { a with reaction := g } := by
    intro g
    rcases h with h | h <;> simp [stopReaction, h]
  unfold handReaction
  simp only
  split
  · rfl
  · split <;> simp [hrest]

theorem settle_lrx_of_rest {s : State} (h : s.mou.mode = .standby ∨ s.mou.mode = .halted) :
    (settle s).lrx = s.lrx := by
  have hlogged : (logAndEvaluate s).mou = s.mou := by simp
  have hkept := handReaction_lrx_of_rest (s := logAndEvaluate s) (by rwa [hlogged])
  simp [settle, hkept]

theorem settle_rls_nil {s : State} (h : s.rls = []) : (settle s).rls = [] := by
  have hkept := settle_calenders s
  rw [h] at hkept
  exact List.map_eq_nil_iff.mp hkept

/-- Settles O57: by the inputs asserted at the reset. -/
theorem hardwareReset : Obligations.HardwareReset := by
  refine fun s => ⟨fun hdrive hbars => ?_, fun hdrive hbars => ?_, ?_⟩
  · refine congrArg Host.Outcome.next ?_
    rw [beginAtReset_of_clear hbars, if_neg (by simp [hdrive]), settle_resetBlocks]
    unfold resetBlocks
    rw [show vmap (fun b => BarUnit.reset b.fault) s.bars = State.reset.bars from resetBlocks_bars_of_clear hbars,
      hdrive]
    rfl
  · let u := (resetBlocks s).modAlc fun a => { a with evalDue := true }
    let ctx : Context := { seg := none, unit := none, link := none, p := 0, measured := 0 }
    have hevent : beginAtReset (resetBlocks s) = beginCond .driveFault ctx u := by
      rw [beginAtReset_of_clear hbars, if_pos hdrive]
      rfl
    have halone : ServesAlone u.alc := servesAlone_reset
    have hchoose : NothingToChoose u := nothingToChoose_resetBlocks s
    obtain ⟨hstack, hreaction, hmode, -, htarget, hsource⟩ := settle_driveFault ctx halone
      (show Alc.reset.reaction ≠ .stop by decide)
    obtain ⟨n, hltx⟩ := settle_driveFault_ltx ctx halone hchoose
    refine ⟨settle (beginCond .driveFault ctx u), congrArg (fun x => Host.Outcome.next (settle x)) hevent, hstack,
      settle_driveFault_first ctx halone rfl, hreaction, hmode, htarget, hsource, _, congrArg Ltx.tx hltx⟩
  · have hflags := flagsFollow_reset s
    obtain ⟨hconfig, hholds, -, hthreshold, -⟩ := settle_alc_frame (beginAtReset (resetBlocks s))
    have hrest : (beginAtReset (resetBlocks s)).mou.mode = .standby ∨ (beginAtReset
      (resetBlocks s)).mou.mode = .halted :=
      .inl (by simp [resetBlocks, Mou.reset])
    refine ⟨_, rfl, fun k => ?_, ?_, ?_, settle_rls_nil ?_, ?_, ?_, ?_, ?_, ?_, (settle_lrx_of_rest hrest).trans ?_, ?_,
      (settle_mode_of_rest hrest).trans ?_, hconfig.trans ?_, hthreshold.trans ?_⟩
    · have hbars : (settle (beginAtReset (resetBlocks s))).bars = (resetBlocks s).bars := by simp
      rw [hbars, resetBlocks_bar]
      rfl
    · rw [hholds, hflags .driveFault _ rfl]
      simp [resetBlocks, Mou.reset]
    · rw [hholds, hflags .barFault _ rfl, barFaultHolds_iff]
      refine exists_congr fun k => ?_
      have hbars : (beginAtReset (resetBlocks s)).bars = (resetBlocks s).bars := by simp
      rw [hbars, resetBlocks_bar]
      cases s.bars[k].fault <;> decide
    all_goals simp [resetBlocks, State.reset, Mou.reset, Alc.reset]

end Sys2Proof.Machine
end

section
/-! SUPPORT and the settling of O56: the warm-up test and the grade test that end a heat sample (R161 to R163). -/

namespace Sys2Proof.Machine

/-! ### The line mode at the end of an event -/

/-- STOP newly in force takes RUN and WARMUP to STOPPING; no other mode changes at an event's end (R95). -/
theorem handReaction_mode_or (s : State) : (handReaction s).mou.mode = s.mou.mode
    ∨ ((s.mou.mode = .run ∨ s.mou.mode = .warmup) ∧ (handReaction s).mou.mode = .stopping
      ∧ stackReaction s.alc.stack = .stop) := by
  by_cases hsame : stackReaction s.alc.stack = s.alc.reaction
  · exact .inl (by rw [handReaction, if_pos hsame])
  by_cases hstop : stackReaction s.alc.stack = .stop
  · obtain ⟨hmode, -⟩ := handReaction_stop hstop (by rw [← hstop]; exact Ne.symm hsame)
    rw [hmode]
    split
    · next hmoves => exact .inr ⟨hmoves, rfl, hstop⟩
    · exact .inl rfl
  · refine .inl ?_
    simp [handReaction, hsame, hstop]

theorem settle_mode (s : State) : (settle s).mou.mode = s.mou.mode
    ∨ ((s.mou.mode = .run ∨ s.mou.mode = .warmup) ∧ (settle s).mou.mode = .stopping
      ∧ (settle s).alc.reaction = .stop) := by
  have hmou : (logAndEvaluate s).mou = s.mou := by simp
  have hsettled : (settle s).mou = (handReaction (logAndEvaluate s)).mou := by simp [settle]
  obtain ⟨-, -, -, -, -, -, -, -, -, -, hreaction⟩ := settle_alc_frame s
  rw [hsettled, hreaction, ← hmou]
  exact handReaction_mode_or _

/-! ### The state the tests judge -/

/-- The zones have taken their steps, and the conditions they stand for are judged (R149 step 1). -/
def sampledZones (e : Vector (Option Int) 4) (s : State) : State :=
  judgeHeatFlag .heatSensor (fun z => z.missing) s.htc
    (judgeHeatFlag .overTemp (fun z => z.overTemp) s.htc (s.modHtc (heatZoneSteps e)))

/-- The in-band check of a sample event is made (R149 step 2). -/
def sampledRecords (e : Vector (Option Int) 4) (s : State) : State :=
  judgeOffBand (failingRecords (sampledZones e s)) (flagOffBand (sampledZones e s))

theorem heatSampleEvent_steps (e : Vector (Option Int) 4) (s : State) :
    heatSampleEvent e s = gradeTest (warmupTest (sampledRecords e s)) := rfl

theorem sampledZones_frame (e : Vector (Option Int) 4) (s : State) :
    (sampledZones e s).htc = heatZoneSteps e s.htc ∧ (sampledZones e s).mou = s.mou
      ∧ (sampledZones e s).rls = s.rls := by
  simp [sampledZones, State.modHtc]

theorem sampledRecords_frame (e : Vector (Option Int) 4) (s : State) :
    (sampledRecords e s).htc = heatZoneSteps e s.htc ∧ (sampledRecords e s).mou = s.mou := by
  obtain ⟨hhtc, hmou, -⟩ := sampledZones_frame e s
  simp [sampledRecords, hhtc, hmou]

/-! ### The warm-up test -/

theorem zoneInBand_iff (h : Htc) (need : Int) (tolerance : Nat) (i : Fin 4) :
    zoneInBand h need tolerance i = true
      ↔ h.zones[i].missing = false ∧ |h.zones[i].measured - (need + h.group.trim[i])| ≤ tolerance := by
  simp only [zoneInBand, Bool.and_eq_true, Bool.not_eq_true', decide_eq_true_eq]

theorem allZones_iff (p : Fin 4 → Bool) : allHeatZones.all p = true ↔ ∀ i : Fin 4, p i = true := by
  rw [List.all_eq_true]
  exact ⟨fun h i => h i (mem_allHeatZones i), fun h i _ => h i⟩

theorem warmupTest_mode (s : State) : (warmupTest s).mou.mode =
    if s.mou.mode = .warmup ∧ allHeatZones.all (zoneInBand s.htc s.htc.target s.htc.band) = true then .run
    else s.mou.mode := by
  unfold warmupTest
  split
  · next h => rw [warmupComplete, if_pos h.1]; rfl
  · rfl

/-- The mode that a sample event hands to the evaluation (R161). -/
theorem heatSampleEvent_mode (e : Vector (Option Int) 4) (s : State) (h : Htc) (hh : h = heatZoneSteps e s.htc) :
    (heatSampleEvent e s).mou.mode = if s.mou.mode = .warmup
        ∧ ∀ i : Fin 4, h.zones[i].missing = false ∧ |h.zones[i].measured - (h.target + h.group.trim[i])| ≤ h.band
      then .run else s.mou.mode := by
  obtain ⟨hhtc, hmou⟩ := sampledRecords_frame e s
  have hgrade : (gradeTest (warmupTest (sampledRecords e s))).mou = (warmupTest (sampledRecords e s)).mou := by simp
  rw [heatSampleEvent_steps, hgrade, warmupTest_mode, hhtc, hmou, ← hh]
  simp only [allZones_iff, zoneInBand_iff]

/-! ### The grade test -/

/-- HTC after the grade test, by the counters of its zones (R162, R163). -/
def graded (h : Htc) : Htc :=
  if ∃ i : Fin 4, h.group.derateCount ≤ h.zones[i].sat then
    if h.grade < 3 then { clearSat true h with grade := h.grade + 1 } else clearSat false h
  else if (∀ i : Fin 4, h.group.recoverCount ≤ h.zones[i].recov) ∧ 0 < h.grade then
    { clearRecov h with grade := h.grade - 1 }
  else h

theorem gradeTest_htc (s : State) : (gradeTest s).htc = graded s.htc := by
  unfold gradeTest graded
  dsimp only
  cases hfind : allHeatZones.find? fun i => decide (s.htc.group.derateCount ≤ s.htc.zones[i].sat) with
  | some i =>
    have hsat : ∃ i : Fin 4, s.htc.group.derateCount ≤ s.htc.zones[i].sat :=
      ⟨i, by simpa using List.find?_some hfind⟩
    rw [if_pos hsat]
    by_cases hgrade : s.htc.grade < 3 <;> simp [hgrade]
  | none =>
    have hnone : ¬∃ i : Fin 4, s.htc.group.derateCount ≤ s.htc.zones[i].sat := by
      rintro ⟨i, hi⟩
      have hnot := List.find?_eq_none.mp hfind i (mem_allHeatZones i)
      exact hnot (by simpa using hi)
    rw [if_neg hnone]
    simp only [allZones_iff, decide_eq_true_eq]
    by_cases hrecov : (∀ i : Fin 4, s.htc.group.recoverCount ≤ s.htc.zones[i].recov) ∧ 0 < s.htc.grade
    · rw [if_pos hrecov, if_pos hrecov]
      simp
    · rw [if_neg hrecov, if_neg hrecov]

theorem graded_congr {g h : Htc} (hgroup : g.group = h.group) (hzones : g.zones = h.zones) (hgrade :
    g.grade = h.grade) :
    (graded g).zones = (graded h).zones ∧ (graded g).grade = (graded h).grade := by
  unfold graded
  rw [hgroup, hzones, hgrade]
  split
  · split <;> exact ⟨by simp [clearSat, hzones], by simp [clearSat, hgrade]⟩
  · split
    · exact ⟨by simp [clearRecov, hzones], rfl⟩
    · exact ⟨hzones, hgrade⟩

/-- The counters and the grade of a sample event are the grade test's; the evaluation leaves them. -/
theorem settle_heatSample_graded (e : Vector (Option Int) 4) (s : State) (h : Htc) (hh : h = heatZoneSteps e s.htc) :
    (settle (heatSampleEvent e s)).htc.zones = (graded h).zones
      ∧ (settle (heatSampleEvent e s)).htc.grade = (graded h).grade := by
  obtain ⟨hhtc, -⟩ := sampledRecords_frame e s
  have hkept : (settle (heatSampleEvent e s)).htc.zones = (heatSampleEvent e s).htc.zones
      ∧ (settle (heatSampleEvent e s)).htc.grade = (heatSampleEvent e s).htc.grade := by simp
  rw [hkept.1, hkept.2, heatSampleEvent_steps, gradeTest_htc]
  refine graded_congr ?_ ?_ ?_ <;> simp [hhtc, hh]

theorem graded_of_sat {h : Htc} (hsat : ∃ i : Fin 4, h.group.derateCount ≤ h.zones[i].sat) :
    (graded h).grade = (if h.grade < 3 then h.grade + 1 else h.grade)
      ∧ ∀ i : Fin 4, (graded h).zones[i].sat = 0
        ∧ (graded h).zones[i].recov = (if h.grade < 3 then 0 else h.zones[i].recov) := by
  rw [graded, if_pos hsat]
  by_cases hgrade : h.grade < 3 <;> simp [-Fin.getElem_fin, hgrade, clearSat]

theorem graded_of_recov {h : Htc} (hsat : ∀ i : Fin 4, h.zones[i].sat < h.group.derateCount)
    (hrecov : ∀ i : Fin 4, h.group.recoverCount ≤ h.zones[i].recov) :
    (graded h).grade = h.grade - 1 ∧ ∀ i : Fin 4, (graded h).zones[i].sat = h.zones[i].sat
      ∧ (graded h).zones[i].recov = (if 0 < h.grade then 0 else h.zones[i].recov) := by
  have hnone : ¬∃ i : Fin 4, h.group.derateCount ≤ h.zones[i].sat := fun ⟨i, hi⟩ => absurd (hsat i) (by omega)
  rw [graded, if_neg hnone]
  by_cases hgrade : 0 < h.grade
  · rw [if_pos ⟨hrecov, hgrade⟩]
    simp [-Fin.getElem_fin, hgrade, clearRecov]
  · rw [if_neg fun both => hgrade both.2]
    exact ⟨by omega, fun i => ⟨rfl, (if_neg hgrade).symm⟩⟩

theorem graded_of_neither {h : Htc} (hsat : ∀ i : Fin 4, h.zones[i].sat < h.group.derateCount)
    (hrecov : ∃ i : Fin 4, h.zones[i].recov < h.group.recoverCount) : graded h = h := by
  have hnone : ¬∃ i : Fin 4, h.group.derateCount ≤ h.zones[i].sat := fun ⟨i, hi⟩ => absurd (hsat i) (by omega)
  obtain ⟨i, hi⟩ := hrecov
  rw [graded, if_neg hnone, if_neg fun both => absurd (both.1 i) (by omega)]

/-- Settles O56: by the mode and the counters that the zone steps leave. -/
theorem warmupAndGrade : Obligations.WarmupAndGrade := by
  intro s z0 z1 z2 z3 h hquiet hh
  obtain ⟨hzones, hgrade⟩ := settle_heatSample_graded #v[z0, z1, z2, z3] s h hh
  have hmode := heatSampleEvent_mode #v[z0, z1, z2, z3] s h hh
  have hsettled := settle_mode (heatSampleEvent #v[z0, z1, z2, z3] s)
  refine ⟨_, rfl, fun hwarm hband => ?_, fun hwarm ⟨i, hout⟩ => ?_, fun hnotWarm hnotRun => ?_, fun hsat => ?_,
    fun hsat hrecov => ?_, fun hsat hrecov => ?_⟩
  · rw [if_pos ⟨hwarm, hband⟩] at hmode
    exact hsettled.imp (·.trans hmode) (·.2)
  · have hnot : ¬∀ i : Fin 4, h.zones[i].missing = false
        ∧ |h.zones[i].measured - (h.target + h.group.trim[i])| ≤ h.band := by
      intro hband
      obtain ⟨hpresent, hnear⟩ := hband i
      rcases hout with hmissing | hfar
      · rw [hpresent] at hmissing
        cases hmissing
      · exact absurd hfar (not_lt.mpr hnear)
    rw [if_neg fun both => hnot both.2] at hmode
    exact hsettled.imp (·.trans (hmode.trans hwarm)) (·.2)
  · rw [if_neg fun both => hnotWarm both.1] at hmode
    rcases hsettled with hsame | ⟨hmoves, -⟩
    · exact hsame.trans hmode
    · rw [hmode] at hmoves
      exact absurd hmoves (by simp [hnotWarm, hnotRun])
  · rw [hzones, hgrade]
    exact graded_of_sat hsat
  · rw [hzones, hgrade]
    exact graded_of_recov hsat hrecov
  · rw [hzones, hgrade, graded_of_neither hsat hrecov]
    exact ⟨rfl, fun _ => rfl⟩

end Sys2Proof.Machine
end

section
/-! SUPPORT and the settling of O55: the zones, the records and HEAT_OFF_BAND in a heat sample (R149, R154 to R160). -/

namespace Sys2Proof.Machine

/-! ### One zone's step -/

theorem heatInteg_eq (ki : Nat) (e : Int) (z : HeatZone) : heatInteg ki e z = max 0 (min 256000
    (if (z.output = 1000 ∧ 0 < e) ∨ (z.output = 0 ∧ e < 0) then z.integ else z.integ + ki * e)) := by
  unfold heatInteg clampInt
  split <;> rw [min_comm]

/-- What the loop does to a zone that is too hot, and to one that is not (R155, R156). -/
theorem heatLoop_eq (kp ki : Nat) (z : HeatZone) :
    (heatLoop kp ki z = { z with integ := (heatLoop kp ki z).integ, output := (heatLoop kp ki z).output })
      ∧ (z.overTemp = true → (heatLoop kp ki z).output = 0 ∧ (heatLoop kp ki z).integ = z.integ)
      ∧ (z.overTemp = false → (heatLoop kp ki z).integ = heatInteg ki (z.setpoint - z.measured) z
        ∧ (heatLoop kp ki z).output = max 0 (min 1000
          ((kp * (z.setpoint - z.measured)).tdiv 16 + (heatLoop kp ki z).integ / 256))) := by
  by_cases hhot : z.overTemp = true
  · have hloop : heatLoop kp ki z = { z with output := 0 } := if_pos hhot
    rw [hloop]
    exact ⟨rfl, fun _ => ⟨rfl, rfl⟩, fun h => absurd hhot (by simp [h])⟩
  · have hloop : heatLoop kp ki z = { z with
        integ := heatInteg ki (z.setpoint - z.measured) z
        output := clampInt ((kp * (z.setpoint - z.measured)).tdiv 16
          + heatInteg ki (z.setpoint - z.measured) z / 256) 0 1000 } := if_neg hhot
    rw [hloop]
    exact ⟨rfl, fun h => absurd h hhot, fun _ => ⟨rfl, by rw [clampInt, min_comm]⟩⟩

/-- A zone with a reading, recorded and judged, before its loop (R154, R155). -/
def judgedZone (g : HeatGroup) (target m : Int) (x : HeatZone) : HeatZone :=
  { heatRecord g.ramp target m x with overTemp := heatOver g.overLimit (heatRecord g.ramp target m x) }

theorem heatReading_loop (g : HeatGroup) (i : Fin 4) (target : Int) (band : Nat) (m : Int) (x : HeatZone) :
    heatReading g i target band m x = heatCounters g band (heatLoop g.kp[i] g.ki[i] (judgedZone g target m x)) := rfl

/-- A zone after a reading (R154 to R156, R162, R163). -/
theorem heatReading_fields {g : HeatGroup} {i : Fin 4} {target : Int} {band : Nat} {m : Int} {x y : HeatZone}
    (hy : y = heatReading g i target band m x) :
    (y.measured = m ∧ y.missCount = 0 ∧ y.missing = false ∧ y.first = true
      ∧ y.setpoint = (if x.first = true then moveToward x.setpoint target g.ramp else m)
      ∧ y.overTemp = (if x.overTemp = true then decide (g.overLimit - 50 < m) else decide (g.overLimit < m))
      ∧ (y.overTemp = true → y.output = 0 ∧ y.integ = x.integ)
      ∧ (y.overTemp = false →
          y.integ = max 0 (min 256000
            (if (x.output = 1000 ∧ 0 < y.setpoint - m) ∨ (x.output = 0 ∧ y.setpoint - m < 0) then x.integ
            else x.integ + g.ki[i] * (y.setpoint - m)))
          ∧ y.output = max 0 (min 1000 ((g.kp[i] * (y.setpoint - m)).tdiv 16 + y.integ / 256))))
    ∧ y.sat = (if y.output = 1000 ∧ m < y.setpoint - band then min 240 (x.sat + 1) else 0)
    ∧ y.recov = (if y.output ≤ g.recoverLimit then
        (if x.recov < g.recoverCount then x.recov + 1 else x.recov) else 0) := by
  obtain ⟨hrest, hhot, hcool⟩ := heatLoop_eq g.kp[i] g.ki[i] (judgedZone g target m x)
  rw [heatInteg_eq] at hcool
  rw [heatReading_loop] at hy
  generalize heatLoop g.kp[i] g.ki[i] (judgedZone g target m x) = z at hy hrest hhot hcool
  subst hy
  have hset : z.setpoint = (judgedZone g target m x).setpoint := by rw [hrest]
  have hmeas : z.measured = m := by rw [hrest]; rfl
  have hover : z.overTemp = (judgedZone g target m x).overTemp := by rw [hrest]
  rw [← hset, ← hover] at hcool
  rw [← hover] at hhot
  refine ⟨⟨hmeas, by rw [hrest]; rfl, by rw [hrest]; rfl, by rw [hrest]; rfl, hset, hover, hhot, hcool⟩, ?_, ?_⟩
  · simp only [heatCounters, hmeas]
    rw [hrest]
    rfl
  · simp only [heatCounters]
    rw [hrest]
    rfl

/-- A zone after an absent entry (R157, R158). -/
theorem heatAbsent_fields {x y : HeatZone} (hy : y = heatAbsent x) :
    (y.measured = x.measured ∧ y.setpoint = x.setpoint ∧ y.integ = x.integ ∧ y.overTemp = x.overTemp
      ∧ y.first = x.first
      ∧ (x.missCount < 3 → y.missCount = x.missCount + 1 ∧ y.missing = x.missing ∧ y.output = x.output)
      ∧ (3 ≤ x.missCount → y.missCount = 4 ∧ y.missing = true
          ∧ y.output = (if x.missing = true then x.output else 0)))
    ∧ (x.missCount < 3 ∨ x.missing = true → y.sat = x.sat ∧ y.recov = x.recov)
    ∧ (3 ≤ x.missCount → x.missing = false → y.sat = 0 ∧ y.recov = 0) := by
  subst hy
  by_cases hcount : x.missCount < 3
  · have hstep : heatAbsent x = { x with missCount := x.missCount + 1 } := if_pos (by omega)
    rw [hstep]
    exact ⟨⟨rfl, rfl, rfl, rfl, rfl, fun _ => ⟨rfl, rfl, rfl⟩, fun h => absurd hcount (by omega)⟩, fun _ => ⟨rfl, rfl⟩,
      fun h => absurd hcount (by omega)⟩
  · have hlate : ¬x.missCount + 1 < 4 := by omega
    rw [heatAbsent, if_neg hlate]
    cases hmissing : x.missing <;> simp [hmissing, hcount]

/-! ### The in-band check -/

theorem zoneInBand_false_iff (h : Htc) (r : Segment) (i : Fin 4) :
    zoneInBand h r.needed r.tolerance i = false ↔ ZoneOut h r i := by
  rw [Bool.eq_false_iff, ne_eq, zoneInBand_iff, not_and_or, not_le, Bool.not_eq_false]

theorem recordInBand_false_iff (h : Htc) (r : Segment) : recordInBand h r = false ↔ ∃ i : Fin 4, ZoneOut h r i := by
  simp only [recordInBand, Bool.eq_false_iff, ne_eq, allZones_iff, not_forall, ← zoneInBand_false_iff]

/-- The in-band check reads the zones and the trims alone. -/
theorem zoneOut_congr {g h : Htc} (r : Segment) (i : Fin 4) (hgroup : g.group = h.group)
    (hmissing : g.zones[i].missing = h.zones[i].missing) (hmeasured : g.zones[i].measured = h.zones[i].measured) :
    ZoneOut g r i ↔ ZoneOut h r i := by
  unfold ZoneOut
  rw [hgroup, hmissing, hmeasured]

theorem mem_failingRecords (s : State) (r : Segment) : r ∈ failingRecords s ↔ r ∈ s.rls ∧ OffBand s.htc r := by
  simp only [failingRecords, List.mem_filter, Bool.and_eq_true, decide_eq_true_eq, Bool.not_eq_true',
    recordInBand_false_iff, OffBand]

theorem failingRecords_of_first {s : State} {pre post : List Segment} {r : Segment} (hrls : s.rls = pre ++ r :: post)
    (hpre : ∀ x ∈ pre, ¬OffBand s.htc x) (hr : OffBand s.htc r) : ∃ rest, failingRecords s = r :: rest := by
  have hfails : ∀ x, (decide (x.calender = .inArc) && !recordInBand s.htc x) = true ↔ OffBand s.htc x := by
    intro x
    simp only [Bool.and_eq_true, decide_eq_true_eq, Bool.not_eq_true', recordInBand_false_iff, OffBand]
  have hnone : pre.filter (fun x => decide (x.calender = .inArc) && !recordInBand s.htc x) = [] :=
    List.filter_eq_nil_iff.mpr fun x hx h => hpre x hx ((hfails x).mp h)
  rw [failingRecords, hrls, List.filter_append, hnone, List.nil_append]
  exact ⟨_, List.filter_cons_of_pos ((hfails r).mpr hr)⟩

theorem find_lowest_zone {p : Fin 4 → Bool} {i : Fin 4} (hi : p i = true) (hbelow : ∀ j < i, p j = false) :
    allHeatZones.find? p = some i := by
  fin_cases i
  · simp [allHeatZones, show p 0 = true from hi]
  · simp [allHeatZones, show p 1 = true from hi, hbelow 0]
  · simp [allHeatZones, show p 2 = true from hi, hbelow 0, hbelow 1]
  · simp [allHeatZones, show p 3 = true from hi, hbelow 0, hbelow 1, hbelow 2]

theorem judgeOffBand_begins {u : State} {r : Segment} {rest : List Segment} {i : Fin 4}
    (hheld : u.alc.holds[AlertSource.heatOffBand.index] = false)
    (hfind : (allHeatZones.find? fun j => !zoneInBand u.htc r.needed r.tolerance j) = some i) :
    judgeOffBand (r :: rest) u = beginCond .heatOffBand
      { unitCtx u (.heatZone i) u.htc.zones[i].measured with seg := some r.tag } u := by
  simp only [judgeOffBand, hheld, hfind]
  rfl

/-- HEAT_OFF_BAND holds after the check exactly while a record fails it (R160). -/
theorem judgeOffBand_holds_iff {l : List Segment} {u : State}
    (hout : ∀ r ∈ l, ∃ i : Fin 4, zoneInBand u.htc r.needed r.tolerance i = false) :
    (judgeOffBand l u).alc.holds[AlertSource.heatOffBand.index] = true ↔ l ≠ [] := by
  cases l with
  | nil =>
    cases hheld : u.alc.holds[AlertSource.heatOffBand.index] <;> simp [judgeOffBand, hheld, endCond_holds]
  | cons r rest =>
    cases hheld : u.alc.holds[AlertSource.heatOffBand.index] with
    | true => simp [judgeOffBand, hheld]
    | false =>
      obtain ⟨i, hi⟩ := hout r List.mem_cons_self
      have hsome : (allHeatZones.find? fun j => !zoneInBand u.htc r.needed r.tolerance j).isSome = true :=
        List.find?_isSome.mpr ⟨i, mem_allHeatZones i, by rw [hi]; rfl⟩
      obtain ⟨j, hj⟩ := Option.isSome_iff_exists.mp hsome
      rw [judgeOffBand_begins hheld hj, beginCond_holds]
      simp

/-! ### The event -/

theorem judgeHeatFlag_holds_other {src x : AlertSource} (hne : src ≠ x) (flag : HeatZone → Bool) (before : Htc)
    (s : State) : (judgeHeatFlag src flag before s).alc.holds[x.index] = s.alc.holds[x.index] := by
  generalize ht : judgeHeatFlag src flag before s = t
  simp only [judgeHeatFlag] at ht
  (repeat' split at ht) <;> subst ht <;>
    simp [-Fin.getElem_fin, beginCond_holds, endCond_holds, getElem_set_index, hne]

theorem sampledZones_offBand (e : Vector (Option Int) 4) (s : State) :
    (sampledZones e s).alc.holds[AlertSource.heatOffBand.index] = s.alc.holds[AlertSource.heatOffBand.index] := by
  rw [sampledZones, judgeHeatFlag_holds_other (by decide), judgeHeatFlag_holds_other (by decide)]
  rfl

/-- What the evaluation and the later tests leave of a sample event's conditions. -/
theorem settle_heatSample_conditions (e : Vector (Option Int) 4) (s : State) :
    (settle (heatSampleEvent e s)).alc.holds = (sampledRecords e s).alc.holds
      ∧ (settle (heatSampleEvent e s)).alc.condCtx = (sampledRecords e s).alc.condCtx := by
  simp [heatSampleEvent_steps]

theorem unmarked_offBand : Unmarked fun r : Segment => (r.tag, r.calender, r.flags.offBand) :=
  ⟨fun _ => rfl, fun _ => rfl⟩

/-- The records keep tag and calender state, and those that fail the check are flagged OFF_BAND (R159). -/
theorem settle_heatSample_rls (e : Vector (Option Int) 4) (s : State) :
    (settle (heatSampleEvent e s)).rls.map (fun r => (r.tag, r.calender, r.flags.offBand))
      = s.rls.map fun r => (r.tag, r.calender, r.flags.offBand || decide (OffBand (heatZoneSteps e s.htc) r)) := by
  obtain ⟨hhtc, -, hrls⟩ := sampledZones_frame e s
  have hevent : (heatSampleEvent e s).rls = (flagOffBand (sampledZones e s)).rls := by
    simp [heatSampleEvent_steps, sampledRecords]
  rw [map_settle unmarked_offBand, hevent, flagOffBand, State.setRls_rls, List.map_map, hrls, hhtc]
  refine List.map_congr_left fun r _ => ?_
  simp only [Function.comp, recordInBand_false_iff]
  by_cases hout : OffBand (heatZoneSteps e s.htc) r
  · rw [if_pos hout, decide_eq_true hout, Bool.or_true]
    rfl
  · rw [if_neg hout, decide_eq_false hout, Bool.or_false]

/-- A zone after a sample event: its step, but for the two counters (R149). -/
theorem settle_heatSample_zone (e : Vector (Option Int) 4) (s : State) (i : Fin 4) :
    (settle (heatSampleEvent e s)).htc.zones[i] = { (heatZoneSteps e s.htc).zones[i] with
      sat := (settle (heatSampleEvent e s)).htc.zones[i].sat
      recov := (settle (heatSampleEvent e s)).htc.zones[i].recov } := by
  obtain ⟨u, hu, hzones, -, -⟩ := heatSampleEvent_eq e s
  have hkept : (settle (heatSampleEvent e s)).htc.zones = (heatSampleEvent e s).htc.zones := by simp
  rw [hkept, hu, ← hzones]
  rcases gradeTest_zone u i with h | h | h | h <;> rw [h]

/-- The counters of the zones as their steps leave them (R162, R163). -/
theorem heatZoneSteps_counters {e : Vector (Option Int) 4} {g h : Htc} (hh : h = heatZoneSteps e g) (i : Fin 4)
    (x y : HeatZone) (hx : x = g.zones[i]) (hy : y = h.zones[i]) :
    (∀ m, e[i] = some m →
      y.sat = (if y.output = 1000 ∧ m < y.setpoint - g.band then min 240 (x.sat + 1) else 0)
      ∧ y.recov = (if y.output ≤ g.group.recoverLimit then
          (if x.recov < g.group.recoverCount then x.recov + 1 else x.recov) else 0))
    ∧ (e[i] = none →
      (x.missCount < 3 ∨ x.missing = true → y.sat = x.sat ∧ y.recov = x.recov)
      ∧ (3 ≤ x.missCount → x.missing = false → y.sat = 0 ∧ y.recov = 0)) := by
  subst hh
  rw [heatZoneSteps_zone, ← hx] at hy
  refine ⟨fun m hm => ?_, fun hm => ?_⟩
  · rw [hm] at hy
    exact (heatReading_fields hy).2
  · rw [hm] at hy
    exact (heatAbsent_fields hy).2

/-- The zones of a sample event, for the in-band check. -/
theorem zoneOut_settle (e : Vector (Option Int) 4) (s : State) (r : Segment) (i : Fin 4) :
    ZoneOut (settle (heatSampleEvent e s)).htc r i ↔ ZoneOut (heatZoneSteps e s.htc) r i := by
  have hzone := settle_heatSample_zone e s i
  refine zoneOut_congr r i (by simp) ?_ ?_
  · rw [hzone]
  · rw [hzone]

theorem offBand_settle (e : Vector (Option Int) 4) (s : State) (r : Segment) :
    OffBand (settle (heatSampleEvent e s)).htc r ↔ OffBand (heatZoneSteps e s.htc) r := by
  simp only [OffBand, zoneOut_settle]

/-- HEAT_OFF_BAND after a sample event (R160). -/
theorem settle_heatSample_offBand (e : Vector (Option Int) 4) (s : State) :
    (settle (heatSampleEvent e s)).alc.holds[AlertSource.heatOffBand.index] = true
      ↔ ∃ r ∈ s.rls, OffBand (heatZoneSteps e s.htc) r := by
  obtain ⟨hhtc, -, hrls⟩ := sampledZones_frame e s
  have hflagged : (flagOffBand (sampledZones e s)).htc = (sampledZones e s).htc := by simp
  rw [(settle_heatSample_conditions e s).1, sampledRecords, judgeOffBand_holds_iff]
  · rw [← hhtc, ← hrls]
    refine ⟨fun hne => ?_, fun ⟨r, hr, hout⟩ => List.ne_nil_of_mem ((mem_failingRecords _ r).mpr ⟨hr, hout⟩)⟩
    obtain ⟨r, hr⟩ := List.exists_mem_of_ne_nil _ hne
    exact ⟨r, (mem_failingRecords _ r).mp hr⟩
  · intro r hr
    rw [hflagged]
    simp only [zoneInBand_false_iff]
    exact ((mem_failingRecords _ r).mp hr).2.2

/-- The context of HEAT_OFF_BAND: the oldest failing record and its lowest failing zone (R160). -/
theorem settle_heatSample_context {e : Vector (Option Int) 4} {s : State} {pre post : List Segment} {r : Segment}
    {i : Fin 4} (hheld : s.alc.holds[AlertSource.heatOffBand.index] = false) (hrls : s.rls = pre ++ r :: post)
    (hpre : ∀ x ∈ pre, ¬OffBand (heatZoneSteps e s.htc) x) (harc : r.calender = .inArc)
    (hout : ZoneOut (heatZoneSteps e s.htc) r i) (hlow : ∀ j < i, ¬ZoneOut (heatZoneSteps e s.htc) r j) :
    (settle (heatSampleEvent e s)).alc.condCtx[AlertSource.heatOffBand.index] = some
      { seg := some r.tag, unit := some (.heatZone i), link := none, p := s.mou.p,
        measured := (heatZoneSteps e s.htc).zones[i].measured } := by
  obtain ⟨hhtc, hmou, hsampled⟩ := sampledZones_frame e s
  have hnow := (sampledZones_offBand e s).trans hheld
  generalize hv : sampledZones e s = v at hhtc hmou hsampled hnow
  have hkept : (flagOffBand v).htc = heatZoneSteps e s.htc ∧ (flagOffBand v).alc = v.alc ∧
    (flagOffBand v).mou = s.mou := by
    simp [hhtc, hmou]
  obtain ⟨hhtc', halc, hmou'⟩ := hkept
  obtain ⟨rest, hfailing⟩ := failingRecords_of_first (hsampled.trans hrls) (by rwa [hhtc]) (by
    rw [hhtc]
    exact ⟨harc, i, hout⟩)
  have hfind : (allHeatZones.find? fun j => !zoneInBand (flagOffBand v).htc r.needed r.tolerance j) = some i := by
    rw [hhtc']
    refine find_lowest_zone ?_ fun j hj => ?_
    · rw [(zoneInBand_false_iff _ r i).mpr hout]
      rfl
    · have hin : zoneInBand (heatZoneSteps e s.htc) r.needed r.tolerance j = true := by
        rw [← Bool.not_eq_false, zoneInBand_false_iff]
        exact hlow j hj
      rw [hin]
      rfl
  rw [(settle_heatSample_conditions e s).2, sampledRecords, hv, hfailing,
    judgeOffBand_begins (by rw [halc]; exact hnow) hfind]
  simp [beginCond, State.modAlc, unitCtx, plainCtx, hmou, hhtc]

/-- A zone after a sample event, by its entry (R154 to R158). -/
theorem settle_heatSample_step {e : Vector (Option Int) 4} {s : State} (i : Fin 4) (x y : HeatZone)
    (hx : x = s.htc.zones[i]) (hy : y = (settle (heatSampleEvent e s)).htc.zones[i]) :
    ∃ z, y = { z with sat := y.sat, recov := y.recov } ∧ z = zoneStepped s.htc i e[i] x := by
  refine ⟨_, ?_, rfl⟩
  rw [hx, ← heatZoneSteps_zone, hy]
  exact settle_heatSample_zone e s i

/-- Settles O55: each zone by its entry, each record by the in-band check, HEAT_OFF_BAND by the failing records. -/
theorem heatSample : Obligations.HeatSample := by
  refine ⟨fun _ => rfl, fun g h z0 z1 z2 z3 hh => ⟨by rw [hh]; rfl,
    fun i x y hx hy => heatZoneSteps_counters hh i x y hx hy⟩, fun s z0 z1 z2 z3 hquiet => ?_⟩
  refine ⟨_, rfl, settle_heatSample_zone _ s, ?_, ?_, fun pre post r i hheld hrls hpre harc hout hlow => ?_, by simp,
    by simp, by simp, by simp, by simp, by simp, by simp, by simp, by simp, fun i x y hx hy =>
      ⟨fun m hm => ?_, fun hm => ?_⟩⟩
  · simp only [offBand_settle]
    exact settle_heatSample_rls _ s
  · simp only [offBand_settle]
    exact settle_heatSample_offBand _ s
  · simp only [offBand_settle] at hpre
    rw [zoneOut_settle] at hout
    simp only [zoneOut_settle] at hlow
    rw [settle_heatSample_context hheld hrls hpre harc hout hlow, settle_heatSample_zone]
  · obtain ⟨z, hyz, hz⟩ := settle_heatSample_step i x y hx hy
    rw [hm] at hz
    rw [hyz]
    exact (heatReading_fields hz).1
  · obtain ⟨z, hyz, hz⟩ := settle_heatSample_step i x y hx hy
    rw [hm] at hz
    rw [hyz]
    exact (heatAbsent_fields hz).1

end Sys2Proof.Machine
end

section
/-! SUPPORT for O50. What of the run list the bars' cursors depend on, how many lines are left to a bar, and that a bar
which handles the lines at its cursor comes to an end with no line due (R90, R134, R135). -/

namespace Sys2Proof.Machine

/-! ### What a cursor depends on -/

/-- What of a record the due positions and the cursors depend on: its tag, its lines, its start and its pitch. -/
def lineKey (r : Segment) : Tag × Nat × Nat × Nat :=
  (r.tag, r.lines, r.start, r.pitch)

theorem unprinted_lineKey : Unprinted lineKey :=
  ⟨fun _ _ => rfl, fun _ _ => rfl, fun _ _ => rfl, fun _ _ => rfl, fun _ => rfl, fun _ => rfl⟩

theorem unmarked_lineKey : Unmarked lineKey :=
  ⟨fun _ => rfl, fun _ => rfl⟩

theorem lineKey_eq {r x : Segment} (h : lineKey r = lineKey x) :
    r.tag = x.tag ∧ r.lines = x.lines ∧ r.start = x.start ∧ r.pitch = x.pitch := by
  simpa only [lineKey, Prod.mk.injEq] using h

theorem tag_of_lineKey (r x : Segment) (h : lineKey r = lineKey x) : r.tag = x.tag := (lineKey_eq h).1

theorem duePosition_congr (g : LineGroup) {r x : Segment} (k : Bar) (n : Nat) (h : lineKey r = lineKey x) :
    duePosition g r k n = duePosition g x k n := by
  obtain ⟨-, -, hstart, hpitch⟩ := lineKey_eq h
  rw [duePosition, duePosition, hstart, hpitch]

theorem tags_congr {l l' : List Segment} (h : l'.map lineKey = l.map lineKey) :
    l'.map Segment.tag = l.map Segment.tag := by
  have hfst := congrArg (List.map Prod.fst) h
  rwa [List.map_map, List.map_map] at hfst

/-- Records are found with the same readings in a list of the same readings. -/
theorem findSeg_lineKey {l l' : List Segment} (h : l'.map lineKey = l.map lineKey) (t : Tag) :
    (findSeg t l').map lineKey = (findSeg t l).map lineKey := by
  have hfind : ∀ x : List Segment, (findSeg t x).map lineKey = (x.map lineKey).find? fun y => decide (y.1 = t) := by
    intro x
    rw [List.find?_map]
    rfl
  rw [hfind, hfind, h]

theorem findSeg_lineKey_some {l l' : List Segment} (h : l'.map lineKey = l.map lineKey) {t : Tag} {r : Segment}
    (hr : findSeg t l' = some r) : ∃ x, findSeg t l = some x ∧ lineKey x = lineKey r := by
  have hkey := findSeg_lineKey h t
  rw [hr] at hkey
  exact Option.map_eq_some_iff.mp hkey.symm

theorem cursorAtHead_eq (l : List Segment) : cursorAtHead l = (l.map lineKey).head?.map fun x => (x.1, 0) := by
  cases l <;> rfl

theorem nextCursor_congr {l l' : List Segment} (h : l'.map lineKey = l.map lineKey) (r : Segment) (n : Nat) :
    nextCursor l' r n = nextCursor l r n := by
  unfold nextCursor
  rw [cursorAtHead_eq, cursorAtHead_eq, map_segsAfter tag_of_lineKey r.tag h]

theorem linePassed_congr {l l' : List Segment} (h : l'.map lineKey = l.map lineKey) (c : Option (Tag × Nat)) (t : Tag)
    (n : Nat) : linePassed l' c t n = linePassed l c t n := by
  have hbefore : ∀ u, segBefore u t l' = segBefore u t l := by
    intro u
    have hany : ∀ x, segBefore u t x = ((segsAfter u x).map lineKey).any fun y => decide (y.1 = t) := by
      intro x
      rw [segBefore, List.any_map]
      rfl
    rw [hany, hany, map_segsAfter tag_of_lineKey u h]
  cases c with
  | none => rfl
  | some x => simp only [linePassed, hbefore]

/-! ### The lines left to a bar -/

/-- The lines from line n of a record on, at least one of its own, in run-list order (R134). -/
def linesFrom (t : Tag) (n : Nat) : List Segment → Nat
  | [] => 0
  | r :: rest => if r.tag = t then max 1 (r.lines - n) + totalLines rest else linesFrom t n rest

/-- The lines left to a bar with a cursor. -/
def linesLeft (c : Option (Tag × Nat)) (l : List Segment) : Nat :=
  match c with
  | none => 0
  | some (t, n) => linesFrom t n l

theorem totalLines_cons (r : Segment) (l : List Segment) : totalLines (r :: l) = r.lines + totalLines l := by
  simp [totalLines]

theorem totalLines_congr {l l' : List Segment} (h : l'.map lineKey = l.map lineKey) : totalLines l' = totalLines l := by
  have hlines := congrArg (List.map fun x => x.2.1) h
  rw [List.map_map, List.map_map] at hlines
  exact congrArg List.sum hlines

theorem linesFrom_congr {l l' : List Segment} (h : l'.map lineKey = l.map lineKey) (t : Tag) (n : Nat) :
    linesFrom t n l' = linesFrom t n l := by
  induction l generalizing l' with
  | nil =>
    rw [List.map_nil, List.map_eq_nil_iff] at h
    rw [h]
  | cons x xs ih =>
    obtain ⟨y, ys, rfl, hy, hys⟩ := List.map_eq_cons_iff.mp h
    obtain ⟨htag, hlines, -⟩ := lineKey_eq hy
    rw [linesFrom, linesFrom, htag, hlines, ih hys, totalLines_congr hys]

theorem linesLeft_congr {l l' : List Segment} (h : l'.map lineKey = l.map lineKey) (c : Option (Tag × Nat)) :
    linesLeft c l' = linesLeft c l := by
  cases c with
  | none => rfl
  | some x => exact linesFrom_congr h x.1 x.2

theorem linesFrom_eq {t : Tag} {n : Nat} {l : List Segment} {r : Segment} (h : findSeg t l = some r) :
    linesFrom t n l = max 1 (r.lines - n) + totalLines (segsAfter t l) := by
  induction l with
  | nil => cases h
  | cons x xs ih =>
    by_cases hx : x.tag = t
    · have hxr : x = r := by simpa [findSeg, hx] using h
      rw [linesFrom, segsAfter, if_pos hx, if_pos hx, hxr]
    · have hrest : findSeg t xs = some r := by simpa [findSeg, hx] using h
      rw [linesFrom, segsAfter, if_neg hx, if_neg hx, ih hrest]

theorem linesFrom_le {l : List Segment} (h : ∀ r ∈ l, 1 ≤ r.lines) (t : Tag) (n : Nat) :
    linesFrom t n l ≤ totalLines l := by
  induction l with
  | nil => exact Nat.zero_le _
  | cons x xs ih =>
    have hx := h x List.mem_cons_self
    have hrest := ih fun r hr => h r (List.mem_cons_of_mem _ hr)
    rw [linesFrom, totalLines_cons]
    split <;> omega

/-- The record behind one of the list is found there, with the records behind it. -/
theorem segsAfter_next {l : List Segment} (hn : (l.map Segment.tag).Nodup) {t : Tag} {x : Segment} {xs : List Segment}
    (h : segsAfter t l = x :: xs) : findSeg x.tag l = some x ∧ segsAfter x.tag l = xs := by
  induction l with
  | nil => cases h
  | cons y ys ih =>
    rw [List.map_cons, List.nodup_cons] at hn
    have hmem : x ∈ ys := by
      by_cases hy : y.tag = t
      · rw [segsAfter, if_pos hy] at h
        rw [h]
        exact List.mem_cons_self
      · rw [segsAfter, if_neg hy] at h
        exact (segsAfter_sublist t ys).subset (by rw [h]; exact List.mem_cons_self)
    have hne : y.tag ≠ x.tag := fun e => hn.1 (by rw [e]; exact List.mem_map_of_mem hmem)
    refine ⟨?_, ?_⟩
    · rw [findSeg, List.find?_cons_of_neg (by simpa using hne)]
      exact findSeg_of_mem hn.2 hmem
    · rw [segsAfter, if_neg hne]
      by_cases hy : y.tag = t
      · rw [segsAfter, if_pos hy] at h
        rw [h, segsAfter, if_pos rfl]
      · rw [segsAfter, if_neg hy] at h
        exact (ih hn.2 h).2

/-- A handling leaves a bar one line fewer (R134). -/
theorem linesLeft_nextCursor {l : List Segment} (hn : (l.map Segment.tag).Nodup) (hlines : ∀ r ∈ l, 1 ≤ r.lines)
    {r : Segment} {n : Nat} (h : findSeg r.tag l = some r) :
    linesLeft (nextCursor l r n) l + 1 ≤ linesLeft (some (r.tag, n)) l := by
  have hfrom : linesLeft (some (r.tag, n)) l = max 1 (r.lines - n) + totalLines (segsAfter r.tag l) := linesFrom_eq h
  rw [hfrom]
  unfold nextCursor
  split
  · next hmore =>
    have hnext : linesLeft (some (r.tag, n + 1)) l = max 1 (r.lines - (n + 1)) + totalLines (segsAfter r.tag l) :=
      linesFrom_eq h
    rw [hnext]
    omega
  · cases hafter : segsAfter r.tag l with
    | nil => exact Nat.le_add_right_of_le (le_max_left _ _)
    | cons x xs =>
      obtain ⟨hfind, hxs⟩ := segsAfter_next hn hafter
      have hx := hlines x (findSeg_some hfind).2
      have hhead : linesLeft (cursorAtHead (x :: xs)) l = max 1 (x.lines - 0) + totalLines xs := by
        rw [← hxs]
        exact linesFrom_eq hfind
      rw [hhead, totalLines_cons]
      omega

/-! ### One bar's handlings -/

/-- The run list is as the bars need it to come to an end: no two records of one tag, and each with a line. -/
def Handled (l : List Segment) : Prop :=
  (l.map Segment.tag).Nodup ∧ ∀ r ∈ l, 1 ≤ r.lines

theorem handled_congr {l l' : List Segment} (h : l'.map lineKey = l.map lineKey) (hl : Handled l) : Handled l' := by
  refine ⟨by rw [tags_congr h]; exact hl.1, fun r hr => ?_⟩
  obtain ⟨x, hx, hkey⟩ := mem_of_map_eq (k := lineKey) h.symm hr
  rw [← (lineKey_eq hkey).2.1]
  exact hl.2 x hx

theorem lineKey_handleLine (k : Bar) (r : Segment) (n : Nat) (s : State) :
    (handleLine k r n s).rls.map lineKey = s.rls.map lineKey := map_handleLine unprinted_lineKey k r n s

/-- A handling before the cursor moves on (R136 to R138, R141). -/
def handledAt (k : Bar) (r : Segment) (n : Nat) (s : State) : State :=
  reportHandling k r.tag n (fireOrMiss k r n (if lineIsLost s k r n then declareLost r n s else s))

theorem handleLine_eq (k : Bar) (r : Segment) (n : Nat) (s : State) : handleLine k r n s =
    (handledAt k r n s).modBar k fun b => { b with cursor := nextCursor (handledAt k r n s).rls r n } := rfl

theorem lineKey_handledAt (k : Bar) (r : Segment) (n : Nat) (s : State) :
    (handledAt k r n s).rls.map lineKey = s.rls.map lineKey := lineKey_handleLine k r n s

theorem handleLine_cursor (k : Bar) (r : Segment) (n : Nat) (s : State) :
    (handleLine k r n s).bars[k].cursor = nextCursor s.rls r n := by
  rw [handleLine_eq, State.modBar_bars, vmod_same]
  exact nextCursor_congr (lineKey_handledAt k r n s) r n

/-- No line is due at a bar's cursor (R135). -/
def NoLineDue (s : State) (k : Bar) : Prop :=
  ∀ tag n r, s.bars[k].cursor = some (tag, n) → findSeg tag s.rls = some r → s.mou.p < duePosition s.line r k n

theorem handleDue_of_noLineDue {s : State} {k : Bar} (h : NoLineDue s k) (fuel : Nat) : handleDue k fuel s = s := by
  cases fuel with
  | zero => rfl
  | succ fuel =>
    rw [handleDue]
    cases hcursor : s.bars[k].cursor with
    | none => rfl
    | some x =>
      cases hfind : findSeg x.1 s.rls with
      | none => simp only [hfind]
      | some r =>
        have hfar := h x.1 x.2 r hcursor hfind
        simp only [hfind]
        rw [if_neg (by omega)]

theorem handleDue_of_due {s : State} {k : Bar} {r : Segment} {n : Nat} (fuel : Nat)
    (hcursor : s.bars[k].cursor = some (r.tag, n)) (hfind : findSeg r.tag s.rls = some r)
    (hdue : duePosition s.line r k n ≤ s.mou.p) : handleDue k (fuel + 1) s = handleDue k fuel (handleLine k r n s) := by
  rw [handleDue, hcursor]
  simp only [hfind]
  rw [if_pos hdue]

/-- With fuel for the lines left to it, a bar handles every line that is due (R135). -/
theorem noLineDue_handleDue {k : Bar} (fuel : Nat) (s : State) (hl : Handled s.rls)
    (hfuel : linesLeft s.bars[k].cursor s.rls ≤ fuel) : NoLineDue (handleDue k fuel s) k := by
  induction fuel generalizing s with
  | zero =>
    intro tag n r hcursor hfind
    have hcursor' : s.bars[k].cursor = some (tag, n) := hcursor
    have hleft : linesLeft s.bars[k].cursor s.rls = max 1 (r.lines - n) + totalLines (segsAfter tag s.rls) := by
      rw [hcursor']
      exact linesFrom_eq hfind
    omega
  | succ fuel ih =>
    by_cases hnone : NoLineDue s k
    · rw [handleDue_of_noLineDue hnone]
      exact hnone
    · simp only [NoLineDue, not_forall, not_lt] at hnone
      obtain ⟨tag, n, r, hcursor, hfind, hdue⟩ := hnone
      obtain ⟨rfl, -⟩ := findSeg_some hfind
      rw [handleDue_of_due fuel hcursor hfind hdue]
      have hkeys := lineKey_handleLine k r n s
      refine ih _ (handled_congr hkeys hl) ?_
      rw [handleLine_cursor, linesLeft_congr hkeys]
      have hfewer := linesLeft_nextCursor (n := n) hl.1 hl.2 hfind
      rw [hcursor] at hfuel
      omega

end Sys2Proof.Machine
end

section
/-! SUPPORT for O50. The six bars in turn: each handles its lines in a state that the others leave it (R135). -/

namespace Sys2Proof.Machine

/-! ### A bar's handlings and the other bars -/

theorem vmod_bar_other (s : State) {j k : Bar} (h : j ≠ k) (f : BarUnit → BarUnit) :
    (s.modBar k f).bars[j] = s.bars[j] := by
  rw [State.modBar_bars, vmod_other _ _ _ _ h]

theorem fireOrMiss_bar_other {j k : Bar} (h : j ≠ k) (r : Segment) (n : Nat) (s : State) :
    (fireOrMiss k r n s).bars[j] = s.bars[j] := by
  unfold fireOrMiss
  split
  · exact vmod_bar_other s h _
  · rfl
  · rfl

theorem handleLine_bar_other {j k : Bar} (h : j ≠ k) (r : Segment) (n : Nat) (s : State) :
    (handleLine k r n s).bars[j] = s.bars[j] := by
  have hlost : (if lineIsLost s k r n then declareLost r n s else s).bars = s.bars := by
    split <;> simp
  have hreport : (handledAt k r n s).bars
      = (fireOrMiss k r n (if lineIsLost s k r n then declareLost r n s else s)).bars := by
    simp only [handledAt, reportHandling_frame]
  rw [handleLine_eq, vmod_bar_other _ h, hreport, fireOrMiss_bar_other h, hlost]

theorem handleDue_bar_other {j k : Bar} (h : j ≠ k) (fuel : Nat) (s : State) :
    (handleDue k fuel s).bars[j] = s.bars[j] := by
  induction fuel generalizing s with
  | zero => rfl
  | succ fuel ih =>
    rw [handleDue]
    split
    · rfl
    · split
      · rfl
      · split
        · rw [ih, handleLine_bar_other h]
        · rfl

/-- A bar's port is emptied at the start of its part. -/
def emptied (k : Bar) (s : State) : State :=
  s.modBar k fun b => { b with port := [] }

theorem emptied_bar (k : Bar) (s : State) : (emptied k s).bars[k] = { s.bars[k] with port := [] } := by
  rw [emptied, State.modBar_bars, vmod_same]

theorem barAdvance_eq (k : Bar) (s : State) : barAdvance s k =
    if s.bars[k].enabled then handleDue k (totalLines s.rls) (emptied k s) else emptied k s := by
  have henabled : (emptied k s).bars[k].enabled = s.bars[k].enabled := by
    rw [emptied_bar]
    rfl
  rw [← henabled]
  rfl

theorem barAdvance_bar_other {j k : Bar} (h : j ≠ k) (s : State) : (barAdvance s k).bars[j] = s.bars[j] := by
  rw [barAdvance_eq]
  split
  · rw [handleDue_bar_other h]
    exact vmod_bar_other s h _
  · exact vmod_bar_other s h _

/-! ### What the bars depend on -/

/-- What a bar's handlings leave for the others: the records' lines and positions, P, and the line group. -/
structure BarsSame (s t : State) : Prop where
  keys : t.rls.map lineKey = s.rls.map lineKey
  p : t.mou.p = s.mou.p
  line : t.line = s.line

theorem barsSame_barAdvance (s : State) (k : Bar) : BarsSame s (barAdvance s k) := by
  refine ⟨?_, by simp, by simp⟩
  rw [barAdvance_eq]
  split
  · exact map_handleDue unprinted_lineKey k _ _
  · rfl

theorem noLineDue_congr {s t : State} {k : Bar} (h : BarsSame s t) (hcursor : t.bars[k].cursor = s.bars[k].cursor)
    (hs : NoLineDue s k) : NoLineDue t k := by
  intro tag n r hc hfind
  obtain ⟨x, hx, hkey⟩ := findSeg_lineKey_some h.keys hfind
  rw [h.p, h.line, ← duePosition_congr _ k n hkey]
  exact hs tag n x (by rw [← hcursor, hc]) hx

theorem barsSame_fold (l : List Bar) (s : State) : BarsSame s (l.foldl barAdvance s) := by
  induction l generalizing s with
  | nil => exact ⟨rfl, rfl, rfl⟩
  | cons k l ih =>
    have hfirst := barsSame_barAdvance s k
    have hrest := ih (barAdvance s k)
    exact ⟨hrest.keys.trans hfirst.keys, hrest.p.trans hfirst.p, hrest.line.trans hfirst.line⟩

theorem fold_bar_other {k : Bar} {l : List Bar} (h : k ∉ l) (s : State) :
    (l.foldl barAdvance s).bars[k] = s.bars[k] := by
  induction l generalizing s with
  | nil => rfl
  | cons j l ih =>
    rw [List.mem_cons, not_or] at h
    obtain ⟨hj, hl⟩ := h
    rw [List.foldl_cons, ih hl, barAdvance_bar_other hj]

/-- Each bar's part is taken in a state that differs for it from the first in nothing it depends on, and the later bars
leave it as it is. -/
theorem bar_of_fold (k : Bar) (s : State) : ∃ u : State, BarsSame s u ∧ u.bars[k] = s.bars[k]
    ∧ (allBars.foldl barAdvance s).bars[k] = (barAdvance u k).bars[k] := by
  obtain ⟨pre, post, hsplit⟩ := List.append_of_mem (mem_allBars k)
  have hnodup : (pre ++ k :: post).Nodup := by
    rw [← hsplit]
    decide
  obtain ⟨-, hpost, hdisjoint⟩ := List.nodup_append.mp hnodup
  have hpre : k ∉ pre := fun hk => hdisjoint k hk k List.mem_cons_self rfl
  rw [List.nodup_cons] at hpost
  refine ⟨pre.foldl barAdvance s, barsSame_fold pre s, fold_bar_other hpre s, ?_⟩
  rw [hsplit, List.foldl_append, List.foldl_cons, fold_bar_other hpost.1]

/-! ### After the bars -/

theorem freeEntries_bars (s : State) : (freeEntries s).bars = s.bars := rfl

theorem freeEntries_rls (s : State) : (freeEntries s).rls = s.rls := rfl

theorem barsAdvance_bars (s : State) : (barsAdvance s).bars = (allBars.foldl barAdvance s).bars := freeEntries_bars _

theorem barsSame_barsAdvance (s : State) : BarsSame s (barsAdvance s) :=
  ⟨map_barsAdvance unprinted_lineKey s, by simp, by simp⟩

/-- An enabled bar is left with no line due (R135). -/
theorem noLineDue_barAdvance {s : State} {k : Bar} (hl : Handled s.rls) (henabled : s.bars[k].state ≠ .off) :
    NoLineDue (barAdvance s k) k := by
  have hon : s.bars[k].enabled = true := decide_eq_true henabled
  rw [barAdvance_eq, if_pos hon]
  refine noLineDue_handleDue _ _ hl ?_
  cases hcursor : (emptied k s).bars[k].cursor with
  | none => exact Nat.zero_le _
  | some x => exact linesFrom_le hl.2 x.1 x.2

/-- A bar with no line due keeps its cursor, and its port is empty (R135). -/
theorem barAdvance_of_noLineDue {s : State} {k : Bar} (h : NoLineDue s k) : barAdvance s k = emptied k s := by
  have hnone : NoLineDue (emptied k s) k := noLineDue_congr (s := s) ⟨rfl, rfl, rfl⟩ (by rw [emptied_bar]) h
  rw [barAdvance_eq, handleDue_of_noLineDue hnone]
  exact ite_self _

theorem noLineDue_barsAdvance {s : State} {k : Bar} (hl : Handled s.rls) (henabled : s.bars[k].state ≠ .off) :
    NoLineDue (barsAdvance s) k := by
  obtain ⟨u, hsame, hbar, hfold⟩ := bar_of_fold k s
  have hdone := noLineDue_barAdvance (handled_congr hsame.keys hl) (by rwa [hbar])
  obtain ⟨hkeys, hp, hline⟩ := barsSame_barAdvance u k
  obtain ⟨hkeys', hp', hline'⟩ := barsSame_barsAdvance s
  refine noLineDue_congr ⟨?_, ?_, ?_⟩ (by rw [barsAdvance_bars, hfold]) hdone
  · rw [hkeys', hkeys, hsame.keys]
  · rw [hp', hp, hsame.p]
  · rw [hline', hline, hsame.line]

theorem barsAdvance_of_noLineDue {s : State} {k : Bar} (h : NoLineDue s k) :
    (barsAdvance s).bars[k] = { s.bars[k] with port := [] } := by
  obtain ⟨u, hsame, hbar, hfold⟩ := bar_of_fold k s
  rw [barsAdvance_bars, hfold, barAdvance_of_noLineDue (noLineDue_congr hsame (by rw [hbar]) h), emptied_bar, hbar]

/-! ### The whole event -/

/-- The state in which the bars take a rise of P (R86). -/
def liftedP (a b : Bool) (s : State) : State :=
  raiseHigh ((s.setMou { s.mou with encA := a, encB := b }).setMou
    { s.mou with encA := a, encB := b, p := s.mou.p + 1 })

theorem increaseOfP_bars (s : State) :
    (increaseOfP s).bars = (barsAdvance (raiseHigh (s.setMou { s.mou with p := s.mou.p + 1 }))).bars := by
  rw [increaseOfP_eq]
  (repeat' split) <;> simp [risen]

theorem lineKey_throughCalender (g : LineGroup) (p : Nat) (r : Segment) : lineKey
    (throughCalender g p r) = lineKey r := by
  simp only [throughCalender, retiredRecord, Segment.setFlags]
  (repeat' split) <;> rfl

/-- The run list after a rise of P, but for the end of the event (R86, R116, R117). -/
theorem increaseOfP_rls_eq {s : State} (h : (s.rls.map Segment.tag).Nodup) :
    (increaseOfP s).rls = (barsAdvance (raiseHigh (s.setMou { s.mou with p := s.mou.p + 1 }))).rls.map
      (throughCalender s.line (s.mou.p + 1)) := by
  have hrls : (risen s).rls = (barsAdvance (raiseHigh (s.setMou { s.mou with p := s.mou.p + 1 }))).rls := by
    simp [risen]
  obtain ⟨hline, -, -, -, hmou, -⟩ := risen_frame s
  have hadvance := calenderAdvance_rls (s := risen s) (by
    rw [(evolves_risen s).tags]
    exact h)
  rw [hline, hmou, hrls] at hadvance
  rw [← hadvance, increaseOfP_eq]
  (repeat' split) <;> simp

/-- The event in which P rises, as its bars take it: the state in which they do, their bars, and the records' keys. -/
theorem bars_of_rise {s t : State} {a b : Bool} (h : exec (.encoderEdge a b) s = .next t)
    (hnodup : (s.rls.map Segment.tag).Nodup) (hrise : t.mou.p = s.mou.p + 1) :
    t.bars = (barsAdvance (liftedP a b s)).bars ∧ t.rls.map lineKey = s.rls.map lineKey ∧ t.line = s.line := by
  have ht := exec_encoderEdge_rise h hrise
  generalize hu : s.setMou { s.mou with encA := a, encB := b } = u at ht
  have hlift : liftedP a b s = raiseHigh (u.setMou { u.mou with p := u.mou.p + 1 }) := by
    rw [← hu]
    rfl
  have hrls : u.rls = s.rls ∧ u.line = s.line := by
    rw [← hu]
    exact ⟨rfl, rfl⟩
  rw [ht]
  refine ⟨?_, ?_, ?_⟩
  · rw [settle_bars, increaseOfP_bars, hlift]
  · rw [map_settle unmarked_lineKey, increaseOfP_rls_eq (by rw [hrls.1]; exact hnodup), List.map_map]
    have hkey : lineKey ∘ throughCalender u.line (u.mou.p + 1) = lineKey := funext fun r =>
      lineKey_throughCalender _ _ r
    rw [hkey, map_barsAdvance unprinted_lineKey]
    exact congrArg (List.map lineKey) hrls.1
  · have hline : (settle (increaseOfP u)).line = u.line := by simp
    rw [hline, hrls.2]

end Sys2Proof.Machine
end

section
/-! SUPPORT for O50. What one handled line does: the loss, the firing, the report and the cursor (R113, R114, R136 to
R138, R141). -/

namespace Sys2Proof.Machine

/-! ### The records -/

/-- A record of which bar 1 has lost line n (R112, R138). -/
def lostRecord (n : Nat) (x : Segment) : Segment :=
  { x with
    fill := if n + 1 < x.lines then x.fill else .sealed
    lost := min 65535 (x.lost + 1)
    flags := { x.flags with lostLines := true } }

/-- A record of which a FAULTED bar has missed a line (R141). -/
def missedRecord (x : Segment) : Segment :=
  { x with flags := { x.flags with barMissed := true } }

/-- The print state after a handling of line n, before the test of R114 (R113). -/
def beganPrint (k : Bar) (n : Nat) (x : Segment) : PrintState :=
  if k = 0 ∧ n = 0 ∧ x.print = .waiting then .printing else x.print

/-- The printed-by set after a handling of line n (R114). -/
def printedByAfter (k : Bar) (n : Nat) (x : Segment) : Vector Bool 6 :=
  if n + 1 = x.lines then x.printedBy.set k true else x.printedBy

/-- A record when bar k has handled its line n (R113, R114, R137). -/
def reportedRecord (s : State) (k : Bar) (n : Nat) (x : Segment) : Segment :=
  { x with
    print := if n + 1 = x.lines ∧ beganPrint k n x = .printing
        ∧ ∀ j : Bar, s.bars[j].state = .off ∨ (printedByAfter k n x)[j] = true then .printed
      else beganPrint k n x
    printedBy := printedByAfter k n x }

theorem printedByAll_iff (s : State) (x : Segment) :
    printedByAll s x = true ↔ ∀ j : Bar, s.bars[j].state = .off ∨ x.printedBy[j] = true := by
  simp only [printedByAll, List.all_eq_true, BarUnit.enabled, Bool.or_eq_true, Bool.not_eq_true',
    decide_eq_false_iff_not, not_not]
  exact ⟨fun h j => h j (mem_allBars j), fun h j _ => h j⟩

theorem reportHandling_rls (k : Bar) (t : Tag) (n : Nat) (s : State) :
    (reportHandling k t n s).rls = modSeg t (reportedRecord s k n) s.rls := by
  refine congrArg (fun f => modSeg t f s.rls) (funext fun x => ?_)
  have hbegan : (if k = bar1 ∧ n = 0 ∧ x.print = .waiting then { x with print := .printing } else x)
      = { x with print := beganPrint k n x } := by
    by_cases h : k = 0 ∧ n = 0 ∧ x.print = .waiting
    · rw [beganPrint, if_pos h]
      exact if_pos h
    · rw [beganPrint, if_neg h]
      exact if_neg h
  rw [hbegan]
  unfold reportedRecord printedByAfter
  by_cases hlast : n + 1 = x.lines
  · rw [if_pos hlast]
    simp only [printTest, printedByAll_iff, hlast, true_and, if_true]
    split <;> rfl
  · rw [if_neg hlast]
    simp only [hlast, false_and, if_false]

theorem fireOrMiss_rls (k : Bar) (r : Segment) (n : Nat) (s : State) : (fireOrMiss k r n s).rls =
    modSeg r.tag (fun x => if s.bars[k].state = .faulted then missedRecord x else x) s.rls := by
  unfold fireOrMiss
  cases hstate : s.bars[k].state <;> simp [modSeg_id, State.modBar, State.modSegment, missedRecord, Segment.setFlags]

/-! ### A lost line -/

theorem lineIsLost_iff (s : State) (k : Bar) (r : Segment) (n : Nat) : lineIsLost s k r n = true ↔ LineLost s k r n :=
    by
  have hbar : bar1 = 0 := rfl
  unfold lineIsLost LineLost
  rw [Bool.and_eq_true, decide_eq_true_eq, hbar]
  cases s.cpa <;> simp

/-- The fill cursor past a lost line (R53, R54, R112). -/
def cursorPast (r : Segment) (n : Nat) (l : List Segment) : Option FillCursor :=
  if n + 1 < r.lines then some { tag := r.tag, line := n + 1, pixel := 0 }
  else cursorAtOldestFilling (modSeg r.tag (fun x => { x with fill := .sealed }) l)

/-- The context of LINE_LOST (R138, R172). -/
def lostCtx (s : State) (r : Segment) (n : Nat) : Context where
  seg := some r.tag
  unit := some (.bar 0)
  link := none
  p := s.mou.p
  measured := n

/-- The fill cursor has left a line that is lost: its entry released, the cursor past it or the record SEALED. -/
def pastLine (r : Segment) (n : Nat) (s : State) : State :=
  fillNextLine r.tag n r.lines (s.setLst (releaseFilling r.tag n s.lst))

theorem pastLine_eq {s : State} {r : Segment} {n : Nat} (h : ∃ c ∈ s.cpa, c.tag = r.tag) : pastLine r n s =
    ((s.setLst (releaseFilling r.tag n s.lst)).setCpa (cursorPast r n s.rls)).setRls
      (modSeg r.tag (fun x => if n + 1 < r.lines then x else { x with fill := .sealed }) s.rls) := by
  obtain ⟨c, hc, htag⟩ := h
  unfold pastLine fillNextLine cursorPast
  by_cases hmore : n + 1 < r.lines
  · simp only [if_pos hmore, modSeg_id]
    rfl
  · simp only [if_neg hmore]
    unfold sealSegment
    have hcpa : (s.setLst (releaseFilling r.tag n s.lst)).cpa = some c := hc
    simp only [hcpa, if_pos htag]
    rfl

theorem declareLost_eq (r : Segment) (n : Nat) (s : State) : declareLost r n s =
    raiseOcc .lineLost (lostCtx s r n) ((overtakeOf r.tag .late (pastLine r n s)).modSegment r.tag fun x =>
      { x with lost := min 65535 (x.lost + 1), flags := { x.flags with lostLines := true } }) := by
  have hp : (overtakeOf r.tag .late (pastLine r n s)).mou.p = s.mou.p := by simp [pastLine]
  unfold declareLost lostCtx
  rw [← hp]
  rfl

/-- What a loss does to the line store, the cursor and the run list (R138). -/
theorem declareLost_stores {s : State} {r : Segment} {n : Nat} (h : ∃ c ∈ s.cpa, c.tag = r.tag)
    (hlines : ∀ x ∈ s.rls, x.tag = r.tag → x.lines = r.lines) :
    (declareLost r n s).lst = releaseFilling r.tag n s.lst ∧ (declareLost r n s).cpa = cursorPast r n s.rls
      ∧ (declareLost r n s).rls = modSeg r.tag (lostRecord n) s.rls := by
  have hkept : (overtakeOf r.tag .late (pastLine r n s)).lst = (pastLine r n s).lst
      ∧ (overtakeOf r.tag .late (pastLine r n s)).cpa = (pastLine r n s).cpa
      ∧ (overtakeOf r.tag .late (pastLine r n s)).rls = (pastLine r n s).rls := by simp
  obtain ⟨hlst, hcpa, hrls⟩ := hkept
  rw [pastLine_eq h] at hlst hcpa hrls
  rw [declareLost_eq, pastLine_eq h]
  refine ⟨hlst, hcpa, ?_⟩
  refine (congrArg (modSeg r.tag _) hrls).trans ?_
  rw [State.setRls_rls, modSeg_modSeg _ _ _ _ fun x => by split <;> rfl]
  refine modSeg_congr fun x hx htag => ?_
  have hmore : n + 1 < x.lines ↔ n + 1 < r.lines := by rw [hlines x hx htag]
  unfold lostRecord
  simp only [hmore]
  split <;> rfl

/-- The LINE frame of the record that arrives meanwhile, and the alerts of a loss (R13, R138). -/
theorem declareLost_link {s : State} {r : Segment} {n : Nat} (h : ∃ c ∈ s.cpa, c.tag = r.tag) :
    ((∀ line offset count slot, s.lrx.line ≠ .accepted r.tag line offset count slot) →
      (declareLost r n s).lrx.line = s.lrx.line
        ∧ (declareLost r n s).alc = (raiseOcc .lineLost (lostCtx s r n) s).alc)
    ∧ ∀ line offset count slot, s.lrx.line = .accepted r.tag line offset count slot →
      (declareLost r n s).lrx.line = overtaken slot (slotsInUse s) .late
        ∧ (declareLost r n s).alc = (raiseOcc .lineLost (lostCtx s r n)
          (withOvertaken (overtaken slot (slotsInUse s) .late) s)).alc := by
  have hpast : (pastLine r n s).lrx = s.lrx ∧ (pastLine r n s).alc = s.alc ∧ (pastLine r n s).mou = s.mou
      ∧ slotsInUse (pastLine r n s) = slotsInUse s := by
    rw [pastLine_eq h]
    exact ⟨rfl, rfl, rfl, rfl⟩
  obtain ⟨hlrx, halc, hmou, hslots⟩ := hpast
  have hraise : ∀ u f, ((raiseOcc .lineLost (lostCtx s r n) (u.modSegment r.tag f)).lrx.line = u.lrx.line)
      ∧ (raiseOcc .lineLost (lostCtx s r n) (u.modSegment r.tag f)).alc
        = (raiseOcc .lineLost (lostCtx s r n) u).alc := fun u f => ⟨rfl, rfl⟩
  have hcongr : ∀ u v : State, u.alc = v.alc → (raiseOcc .lineLost (lostCtx s r n) u).alc
      = (raiseOcc .lineLost (lostCtx s r n) v).alc := by
    intro u v huv
    simp only [raiseOcc, State.modAlc_alc, huv]
  rw [declareLost_eq]
  obtain ⟨hline, hraised⟩ := hraise (overtakeOf r.tag .late (pastLine r n s)) fun x =>
    { x with lost := min 65535 (x.lost + 1), flags := { x.flags with lostLines := true } }
  rw [hline, hraised]
  refine ⟨fun hnot => ?_, fun line offset count slot hacc => ?_⟩
  · rw [overtakeOf_of_not_accepted _ (by rwa [hlrx]), hlrx]
    exact ⟨rfl, hcongr _ _ halc⟩
  · rw [overtakeOf_accepted _ (by rw [hlrx]; exact hacc), hslots]
    refine ⟨?_, hcongr _ _ (withOvertaken_alc_congr _ hlrx halc (by rw [hmou]))⟩
    unfold withOvertaken
    split <;> rfl

end Sys2Proof.Machine
end

section
/-! SUPPORT for O50. The outcome of one handled line (R136 to R138), and a rise of P at which one bar has one line
(R135). -/

namespace Sys2Proof.Machine

/-! ### What a bar fires -/

theorem firedLevels_of_entry {u : State} {k : Bar} {r : Segment} {n : Nat} {pre post : List Entry} {e : Entry}
    {g : LineGroup} (hg : u.line = g) (hlst : u.lst = pre ++ e :: post)
    (hpre : ∀ x ∈ pre, x.state = .void ∨ linePassed u.rls u.bars[k].cursor x.tag x.line = true)
    (hvoid : e.state ≠ .void) (hpassed : linePassed u.rls u.bars[k].cursor e.tag e.line = false) :
    firedLevels u k r n = if e.state = .ready ∧ e.tag = r.tag ∧ e.line = n then
      e.written.map fun d => d[g.channels[k]] else List.replicate r.width 0 := by
  subst hg
  have hread : readPoint u k = some e := by
    rw [readPoint, hlst, List.find?_append]
    have hnone : pre.find? (fun e => decide (e.state ≠ .void) && !linePassed u.rls u.bars[k].cursor e.tag e.line)
        = none := by
      rw [List.find?_eq_none]
      intro x hx
      rcases hpre x hx with h | h <;> simp [-Fin.getElem_fin, h]
    rw [hnone, List.find?_cons_of_pos (by simp [-Fin.getElem_fin, hvoid, hpassed])]
    rfl
  simp only [firedLevels, hread]

theorem firedLevels_of_none {u : State} {k : Bar} {r : Segment} {n : Nat}
    (h : ∀ x ∈ u.lst, x.state = .void ∨ linePassed u.rls u.bars[k].cursor x.tag x.line = true) :
    firedLevels u k r n = List.replicate r.width 0 := by
  have hread : readPoint u k = none := by
    rw [readPoint, List.find?_eq_none]
    intro x hx
    rcases h x hx with hx | hx <;> simp [-Fin.getElem_fin, hx]
  simp only [firedLevels, hread]

/-! ### The outcome of one handling -/

/-- The state a line is fired in: its loss, if it is lost, declared before (R138). -/
def firedIn (k : Bar) (r : Segment) (n : Nat) (s : State) : State :=
  if lineIsLost s k r n then declareLost r n s else s

/-- A record when a bar has handled its line n (R113, R114, R137, R138, R141). -/
def handledRecord (s : State) (k : Bar) (r : Segment) (n : Nat) (x : Segment) : Segment :=
  reportedRecord s k n ((fun y => if s.bars[k].state = .faulted then missedRecord y else y)
    (if LineLost s k r n then lostRecord n x else x))

theorem firedIn_of_lost {s : State} {k : Bar} {r : Segment} {n : Nat} (h : LineLost s k r n) :
    firedIn k r n s = declareLost r n s := if_pos ((lineIsLost_iff s k r n).mpr h)

theorem firedIn_of_not_lost {s : State} {k : Bar} {r : Segment} {n : Nat} (h : ¬LineLost s k r n) :
    firedIn k r n s = s := if_neg fun e => h ((lineIsLost_iff s k r n).mp e)

theorem firedIn_frame (k : Bar) (r : Segment) (n : Nat) (s : State) :
    (firedIn k r n s).bars = s.bars ∧ (firedIn k r n s).line = s.line := by
  unfold firedIn
  split <;> simp

theorem lineKey_firedIn (k : Bar) (r : Segment) (n : Nat) (s : State) :
    (firedIn k r n s).rls.map lineKey = s.rls.map lineKey := by
  unfold firedIn
  split
  · exact map_declareLost unprinted_lineKey r n s
  · rfl

/-- The line store, the cursor and the run list that a handling finds at its firing. -/
theorem firedIn_stores {s : State} {k : Bar} {r : Segment} {n : Nat}
    (hlines : ∀ x ∈ s.rls, x.tag = r.tag → x.lines = r.lines) :
    (firedIn k r n s).lst = (if LineLost s k r n then releaseFilling r.tag n s.lst else s.lst)
      ∧ (firedIn k r n s).cpa = (if LineLost s k r n then cursorPast r n s.rls else s.cpa)
      ∧ (firedIn k r n s).rls = modSeg r.tag (fun x => if LineLost s k r n then lostRecord n x else x) s.rls := by
  by_cases hlost : LineLost s k r n
  · obtain ⟨-, c, hc, htag, -⟩ := id hlost
    simp only [firedIn_of_lost hlost, if_pos hlost]
    exact declareLost_stores ⟨c, hc, htag⟩ hlines
  · simp only [firedIn_of_not_lost hlost, if_neg hlost, modSeg_id]
    exact ⟨trivial, trivial, trivial⟩

theorem fireOrMiss_state (k j : Bar) (r : Segment) (n : Nat) (s : State) :
    (fireOrMiss k r n s).bars[j].state = s.bars[j].state := by
  by_cases hj : j = k
  · subst hj
    unfold fireOrMiss
    split
    · rw [State.modBar_bars, vmod_same]
    · rfl
    · rfl
  · rw [fireOrMiss_bar_other hj]

theorem reportedRecord_congr {s t : State} (h : ∀ j : Bar, t.bars[j].state = s.bars[j].state) (k : Bar) (n : Nat) :
    reportedRecord t k n = reportedRecord s k n := by
  unfold reportedRecord
  simp only [h]

theorem handleLine_rls {s : State} {k : Bar} {r : Segment} {n : Nat}
    (hlines : ∀ x ∈ s.rls, x.tag = r.tag → x.lines = r.lines) :
    (handleLine k r n s).rls = modSeg r.tag (handledRecord s k r n) s.rls := by
  have hstate : ∀ j : Bar, (fireOrMiss k r n (firedIn k r n s)).bars[j].state = s.bars[j].state := by
    intro j
    rw [fireOrMiss_state, (firedIn_frame k r n s).1]
  have hrls : (handleLine k r n s).rls = (reportHandling k r.tag n (fireOrMiss k r n (firedIn k r n s))).rls := rfl
  obtain ⟨-, -, hfired⟩ := firedIn_stores (k := k) (n := n) hlines
  rw [hrls, reportHandling_rls, reportedRecord_congr hstate, fireOrMiss_rls, hfired, (firedIn_frame k r n s).1,
    modSeg_modSeg _ _ _ _ fun x => by split <;> rfl, modSeg_modSeg _ _ _ _ fun x => by (repeat' split) <;> rfl]
  rfl

/-- What a handling leaves of the line store, the fill cursor, the receiver and ALC is what its firing found. -/
theorem handleLine_stores (k : Bar) (r : Segment) (n : Nat) (s : State) :
    (handleLine k r n s).lst = (firedIn k r n s).lst ∧ (handleLine k r n s).cpa = (firedIn k r n s).cpa
      ∧ (handleLine k r n s).lrx = (firedIn k r n s).lrx ∧ (handleLine k r n s).alc = (firedIn k r n s).alc := by
  have hhandled : handleLine k r n s = (reportHandling k r.tag n (fireOrMiss k r n (firedIn k r n s))).modBar k fun b =>
      { b with cursor := nextCursor (handledAt k r n s).rls r n } := rfl
  rw [hhandled]
  refine ⟨?_, ?_, ?_, ?_⟩ <;> simp [State.modBar]

/-- The bar that handles a line (R134, R136, R141). -/
theorem handleLine_bar (k : Bar) (r : Segment) (n : Nat) (s : State) : (handleLine k r n s).bars[k] = { s.bars[k] with
    cursor := nextCursor s.rls r n
    port := if s.bars[k].state = .active then s.bars[k].port ++ [firedLevels (firedIn k r n s) k r n]
      else s.bars[k].port } := by
  have hreport : (handledAt k r n s).bars = (fireOrMiss k r n (firedIn k r n s)).bars := by
    simp only [handledAt, reportHandling_frame, firedIn]
  have hbars := (firedIn_frame k r n s).1
  have hfire : (fireOrMiss k r n (firedIn k r n s)).bars[k] = { s.bars[k] with
      port := if s.bars[k].state = .active then s.bars[k].port ++ [firedLevels (firedIn k r n s) k r n]
        else s.bars[k].port } := by
    unfold fireOrMiss
    rw [hbars]
    split
    · next h => rw [State.modBar_bars, vmod_same, hbars, if_pos h]
    · next h =>
      rw [if_neg (by simp [-Fin.getElem_fin, h])]
      exact congrArg (fun v : Vector BarUnit 6 => v[k]) hbars
    · next h => rw [if_neg (by simp [-Fin.getElem_fin, h]), hbars]
  rw [handleLine_eq, State.modBar_bars, vmod_same, hreport, hfire, nextCursor_congr (lineKey_handledAt k r n s)]

end Sys2Proof.Machine
end

section
/-! SUPPORT for O50. A rise of P at which one bar has one line to handle, and the others none (R135). -/

namespace Sys2Proof.Machine

/-! ### Bars that handle nothing -/

/-- A bar handles nothing: it is OFF, or no line is due at its cursor (R135, R140). -/
def BarIdle (s : State) (j : Bar) : Prop :=
  s.bars[j].state = .off ∨ NoLineDue s j

theorem barIdle_of_notDue {s : State} {j : Bar} (h : NotDue s j s.mou.p) : BarIdle s j := by
  refine h.imp id fun hnone tag n r hcursor hfind => ?_
  rcases hnone with hnone | ⟨x, hx, y, hy, hfar⟩
  · rw [hnone] at hcursor
    cases hcursor
  · obtain rfl : x = (tag, n) := Option.some.inj ((Option.mem_def.mp hx).symm.trans hcursor)
    obtain rfl : y = r := Option.some.inj ((Option.mem_def.mp hy).symm.trans hfind)
    exact hfar

theorem barIdle_congr {s t : State} {j : Bar} (h : BarsSame s t) (hstate : t.bars[j].state = s.bars[j].state)
    (hcursor : t.bars[j].cursor = s.bars[j].cursor) (hs : BarIdle s j) : BarIdle t j :=
  hs.imp (hstate.trans ·) (noLineDue_congr h hcursor)

theorem barAdvance_of_barIdle {s : State} {j : Bar} (h : BarIdle s j) : barAdvance s j = emptied j s := by
  rcases h with hoff | hnone
  · have hdisabled : ¬s.bars[j].enabled = true := by simp [-Fin.getElem_fin, BarUnit.enabled, hoff]
    rw [barAdvance_eq, if_neg hdisabled]
  · exact barAdvance_of_noLineDue hnone

/-- The bars with the ports of some emptied. -/
def portsEmptied (l : List Bar) (bars : Vector BarUnit 6) : Vector BarUnit 6 :=
  Vector.ofFn fun j => if j ∈ l then { bars[j] with port := [] } else bars[j]

theorem portsEmptied_bar (l : List Bar) (bars : Vector BarUnit 6) (j : Bar) :
    (portsEmptied l bars)[j] = if j ∈ l then { bars[j] with port := [] } else bars[j] := by
  simp [portsEmptied]

theorem emptied_bar_or (k j : Bar) (s : State) :
    (emptied k s).bars[j] = if j = k then { s.bars[j] with port := [] } else s.bars[j] := by
  split
  · next h => rw [h, emptied_bar]
  · next h => exact vmod_bar_other s h _

theorem barIdle_emptied {s : State} {j : Bar} (k : Bar) (h : BarIdle s j) : BarIdle (emptied k s) j := by
  refine barIdle_congr (s := s) ⟨rfl, rfl, rfl⟩ ?_ ?_ h <;>
  · rw [emptied_bar_or]
    split <;> rfl

/-- Bars that handle nothing have their ports emptied, and that is all (R135). -/
theorem fold_of_barIdle {l : List Bar} {s : State} (h : ∀ j ∈ l, BarIdle s j) :
    l.foldl barAdvance s = s.setBars (portsEmptied l s.bars) := by
  induction l generalizing s with
  | nil =>
    have hsame : portsEmptied [] s.bars = s.bars := by
      refine Vector.ext fun i hi => ?_
      have hbar := portsEmptied_bar [] s.bars ⟨i, hi⟩
      exact hbar.trans (if_neg List.not_mem_nil)
    rw [hsame]
    rfl
  | cons k l ih =>
    rw [List.foldl_cons, barAdvance_of_barIdle (h k List.mem_cons_self),
      ih fun j hj => barIdle_emptied k (h j (List.mem_cons_of_mem _ hj))]
    have hbars : portsEmptied l (emptied k s).bars = portsEmptied (k :: l) s.bars := by
      refine Vector.ext fun i hi => ?_
      have hleft := portsEmptied_bar l (emptied k s).bars ⟨i, hi⟩
      have hright := portsEmptied_bar (k :: l) s.bars ⟨i, hi⟩
      rw [emptied_bar_or] at hleft
      refine hleft.trans (Eq.trans ?_ hright.symm)
      by_cases hk : (⟨i, hi⟩ : Bar) = k
      · simp only [hk, if_true, List.mem_cons_self, ite_self]
      · simp only [List.mem_cons, hk, if_false, false_or]
    rw [hbars]
    rfl

/-! ### The bar that handles its line -/

/-- The state in which the one due line is handled: ports emptied up to the bar's own. -/
def beforeLine (s : State) (ports : List Bar) : State :=
  s.setBars (portsEmptied ports s.bars)

theorem beforeLine_bar (s : State) (ports : List Bar) (j : Bar) :
    (beforeLine s ports).bars[j] = if j ∈ ports then { s.bars[j] with port := [] } else s.bars[j] :=
  portsEmptied_bar ports s.bars j

theorem beforeLine_cursor (s : State) (ports : List Bar) (j : Bar) :
    (beforeLine s ports).bars[j].cursor = s.bars[j].cursor := by
  rw [beforeLine_bar]
  split <;> rfl

theorem beforeLine_state (s : State) (ports : List Bar) (j : Bar) :
    (beforeLine s ports).bars[j].state = s.bars[j].state := by
  rw [beforeLine_bar]
  split <;> rfl

theorem barsSame_handleLine (k : Bar) (r : Segment) (n : Nat) (s : State) : BarsSame s (handleLine k r n s) :=
  ⟨lineKey_handleLine k r n s, by simp, by simp⟩

/-- The bar with one line due handles it, and finds no other due. -/
theorem handleDue_oneLine {s u : State} {k : Bar} {r : Segment} {n : Nat} (h : OneLineDue s k r n s.mou.p)
    (hsame : BarsSame s u) (hrls : u.rls = s.rls) (hcursor : u.bars[k].cursor = s.bars[k].cursor) :
    handleDue k (totalLines u.rls) u = handleLine k r n u := by
  obtain ⟨hon, hat, hfind, hline, hdue, hthen, -⟩ := h
  obtain ⟨m, hm⟩ : ∃ m, totalLines u.rls = m + 1 := by
    have hpos : 0 < totalLines u.rls := by
      rw [hrls]
      have hle : r.lines ≤ totalLines s.rls :=
        List.le_sum_of_mem (List.mem_map_of_mem (findSeg_some hfind).2)
      omega
    exact ⟨_, (Nat.succ_pred_eq_of_pos hpos).symm⟩
  have hnone : NoLineDue (handleLine k r n u) k := by
    have hrest := barIdle_of_notDue (s := s.modBar k fun b => { b with cursor := cursorAfter s.rls r n }) hthen
    have hcursors : (s.modBar k fun b => { b with cursor := cursorAfter s.rls r n }).bars[k]
        = { s.bars[k] with cursor := cursorAfter s.rls r n } := by rw [State.modBar_bars, vmod_same]
    rcases hrest with hoff | hnone
    · rw [hcursors] at hoff
      exact absurd hoff hon
    · obtain ⟨hkeys, hp, hline'⟩ := barsSame_handleLine k r n u
      refine noLineDue_congr (s := s.modBar k fun b => { b with cursor := cursorAfter s.rls r n })
        ⟨hkeys.trans hsame.keys, hp.trans hsame.p, hline'.trans hsame.line⟩ ?_ hnone
      rw [handleLine_cursor, hcursors, hrls]
      rfl
  rw [hm, handleDue_of_due m (hcursor.trans hat) (by rw [hrls]; exact hfind) (by rw [hsame.p, hsame.line]; exact hdue),
    handleDue_of_noLineDue hnone]

/-- With one line due at one bar, the six bars handle that line and empty their ports (R135). -/
theorem fold_oneLine {s : State} {k : Bar} {r : Segment} {n : Nat} (h : OneLineDue s k r n s.mou.p) :
    ∃ ports : List Bar, k ∈ ports ∧ ∃ bars : Vector BarUnit 6,
      allBars.foldl barAdvance s = (handleLine k r n (beforeLine s ports)).setBars bars
      ∧ bars[k] = (handleLine k r n (beforeLine s ports)).bars[k]
      ∧ ∀ j : Bar, j ≠ k → bars[j] = { s.bars[j] with port := [] } := by
  obtain ⟨hon, -, -, -, -, -, hothers⟩ := id h
  obtain ⟨pre, post, hsplit⟩ := List.append_of_mem (mem_allBars k)
  have hnodup : (pre ++ k :: post).Nodup := by
    rw [← hsplit]
    decide
  obtain ⟨-, hpost, hdisjoint⟩ := List.nodup_append.mp hnodup
  rw [List.nodup_cons] at hpost
  have hpreNe : ∀ j ∈ pre, j ≠ k := fun j hj => hdisjoint j hj k List.mem_cons_self
  have hpostNe : ∀ j ∈ post, j ≠ k := fun j hj e => hpost.1 (e ▸ hj)
  have hkpre : k ∉ pre := fun hk => hpreNe k hk rfl
  generalize hu : beforeLine s (k :: pre) = u
  have hbefore : emptied k (s.setBars (portsEmptied pre s.bars)) = u := by
    rw [← hu]
    refine congrArg s.setBars (Vector.ext fun i hi => ?_)
    have hleft := emptied_bar_or k ⟨i, hi⟩ (s.setBars (portsEmptied pre s.bars))
    have hright := portsEmptied_bar (k :: pre) s.bars ⟨i, hi⟩
    rw [State.setBars_bars, portsEmptied_bar] at hleft
    refine hleft.trans (Eq.trans ?_ hright.symm)
    by_cases hk : (⟨i, hi⟩ : Bar) = k
    · simp only [hk, if_true, List.mem_cons_self, if_neg hkpre]
    · simp only [List.mem_cons, hk, if_false, false_or]
  have hpart : barAdvance (s.setBars (portsEmptied pre s.bars)) k = handleLine k r n u := by
    have henabled : (s.setBars (portsEmptied pre s.bars)).bars[k].enabled = true := by
      rw [State.setBars_bars, portsEmptied_bar, if_neg hkpre]
      exact decide_eq_true hon
    have hrls : (s.setBars (portsEmptied pre s.bars)).rls = u.rls := by
      rw [← hu]
      rfl
    rw [barAdvance_eq, if_pos henabled, hbefore, hrls]
    refine handleDue_oneLine h ?_ ?_ ?_
    · rw [← hu]
      exact ⟨rfl, rfl, rfl⟩
    · rw [← hu]
      rfl
    · rw [← hu, beforeLine_cursor]
  have hrest : ∀ j ∈ post, BarIdle (handleLine k r n u) j := by
    intro j hj
    have hbar : (handleLine k r n u).bars[j] = u.bars[j] := handleLine_bar_other (hpostNe j hj) r n u
    have hsame := barsSame_handleLine k r n u
    refine barIdle_congr (s := u) hsame (by rw [hbar]) (by rw [hbar]) ?_
    rw [← hu]
    exact barIdle_congr (s := s) ⟨rfl, rfl, rfl⟩ (beforeLine_state s _ j) (beforeLine_cursor s _ j)
      (barIdle_of_notDue (hothers j (hpostNe j hj)))
  refine ⟨k :: pre, List.mem_cons_self, portsEmptied post (handleLine k r n u).bars, ?_, ?_, fun j hj => ?_⟩
  · rw [hu, hsplit, List.foldl_append, List.foldl_cons,
      fold_of_barIdle fun j hj => barIdle_of_notDue (hothers j (hpreNe j hj)), hpart, fold_of_barIdle hrest]
  · rw [hu, portsEmptied_bar, if_neg hpost.1]
  · have hmem : j ∈ pre ∨ j ∈ post := by
      have hall := mem_allBars j
      rw [hsplit, List.mem_append, List.mem_cons] at hall
      exact hall.imp id fun e => e.resolve_left hj
    have hbar : (handleLine k r n u).bars[j] = if j ∈ k :: pre then { s.bars[j] with port := [] } else s.bars[j] := by
      rw [handleLine_bar_other hj, ← hu, beforeLine_bar]
    rw [portsEmptied_bar, hbar]
    by_cases hjpost : j ∈ post
    · rw [if_pos hjpost]
      split <;> rfl
    · rw [if_neg hjpost, if_pos (List.mem_cons_of_mem _ (hmem.resolve_right hjpost))]

end Sys2Proof.Machine
end

section
/-! SUPPORT and the settling of O50: the bars at a forward edge (R113, R114, R132, R135 to R138, R141). -/

namespace Sys2Proof.Machine

/-! ### ALC at the end of an event -/

theorem serve_alc_congr {s t : State} (src : AlertSource) (h : t.alc = s.alc) :
    (serve src t).alc = (serve src s).alc := by
  simp [serve, h]

theorem evaluateRounds_alc_congr (m : Nat) {s t : State} (h : t.alc = s.alc) :
    (evaluateRounds m t).alc = (evaluateRounds m s).alc := by
  induction m generalizing s t with
  | zero => exact h
  | succ m ih =>
    simp only [evaluateRounds, h]
    cases nextServed s.alc with
    | none => exact h
    | some src => exact ih (serve_alc_congr src h)

/-- What an event leaves of ALC depends on ALC alone (R173, R177, R183). -/
theorem settle_alc_congr {s t : State} (h : t.alc = s.alc) : (settle t).alc = (settle s).alc := by
  have hlogged : (logAndEvaluate t).alc = (logAndEvaluate s).alc := by
    have hafter : (t.modAlc afterLog).alc = (s.modAlc afterLog).alc := congrArg afterLog h
    rw [logAndEvaluate_eq, logAndEvaluate_eq, h]
    split
    · exact evaluateRounds_alc_congr _ hafter
    · exact hafter
  simp only [settle, ltxChoose_alc, handReaction_alc, hlogged]

theorem raiseOcc_alc_congr {s t : State} (src : AlertSource) (ctx : Context) (h : t.alc = s.alc) :
    (raiseOcc src ctx t).alc = (raiseOcc src ctx s).alc := by
  simp only [raiseOcc, State.modAlc_alc, h]

/-! ### The rise of P after the bars -/

/-- What the bars leave of the stores, the receiver and ALC at a rise of P stays. -/
theorem increaseOfP_stores (s : State) :
    (increaseOfP s).lst = (barsAdvance (raiseHigh (s.setMou { s.mou with p := s.mou.p + 1 }))).lst
      ∧ (increaseOfP s).cpa = (barsAdvance (raiseHigh (s.setMou { s.mou with p := s.mou.p + 1 }))).cpa
      ∧ (increaseOfP s).lrx = (barsAdvance (raiseHigh (s.setMou { s.mou with p := s.mou.p + 1 }))).lrx
      ∧ (increaseOfP s).alc = (barsAdvance (raiseHigh (s.setMou { s.mou with p := s.mou.p + 1 }))).alc := by
  rw [increaseOfP_eq]
  (repeat' split) <;> simp [risen]

/-- The one line that is handled at a rise of P, and what follows from it: the state it is handled in, and the state
after the event. -/
structure OneHandled (s t w : State) (k : Bar) (r : Segment) (n : Nat) : Prop where
  state : ∀ j : Bar, w.bars[j].state = s.bars[j].state
  bar : w.bars[k] = { s.bars[k] with port := [] }
  rls : w.rls = s.rls
  lst : w.lst = s.lst
  cpa : w.cpa = s.cpa
  lrx : w.lrx = s.lrx
  alc : w.alc = s.alc
  line : w.line = s.line
  p : w.mou.p = s.mou.p + 1
  slots : slotsInUse w = slotsInUse s
  handled : t.bars[k] = (handleLine k r n w).bars[k]
  others : ∀ j : Bar, j ≠ k → t.bars[j] = { s.bars[j] with port := [] }
  freed : t.lst = (handleLine k r n w).lst.dropWhile (fun e => decide (e.state = .void ∨ e.state = .ready
    ∧ ∀ j : Bar, t.bars[j].state = .off ∨ linePassed s.rls t.bars[j].cursor e.tag e.line = true))
  cursor : t.cpa = (handleLine k r n w).cpa
  rx : t.lrx.line = (handleLine k r n w).lrx.line
  alerts : ∃ x : State, x.alc = (handleLine k r n w).alc ∧ t.alc = (settle x).alc
  records : ∃ y : State, y.rls = (handleLine k r n w).rls.map (throughCalender s.line (s.mou.p + 1))
    ∧ t.rls = (settle y).rls

theorem vector_toList_all {α : Type} {n : Nat} (v : Vector α n) (q : α → Bool) :
    v.toList.all q = true ↔ ∀ i : Fin n, q v[i] = true := by
  simp [Fin.forall_iff, Vector.all_eq_true]

theorem passedByAll_iff (s : State) (t : Tag) (n : Nat) : passedByAll s t n = true
    ↔ ∀ j : Bar, s.bars[j].state = .off ∨ linePassed s.rls s.bars[j].cursor t n = true := by
  rw [passedByAll, vector_toList_all]
  simp only [BarUnit.enabled, Bool.or_eq_true, Bool.not_eq_true', decide_eq_false_iff_not, not_not]

theorem freesAtHead_eq (s : State) (e : Entry) : freesAtHead s e = decide (e.state = .void ∨ e.state = .ready
    ∧ ∀ j : Bar, s.bars[j].state = .off ∨ linePassed s.rls s.bars[j].cursor e.tag e.line = true) := by
  rw [Bool.eq_iff_iff, decide_eq_true_eq, ← passedByAll_iff]
  unfold freesAtHead
  cases e.state <;> simp

/-- The bars at a rise of P with one line due: the handling, the ports, and the freeing test (R132, R135). -/
theorem barsAdvance_oneLine {s : State} {k : Bar} {r : Segment} {n : Nat} (h : OneLineDue s k r n s.mou.p) :
    ∃ ports : List Bar, k ∈ ports ∧ ∃ bars : Vector BarUnit 6,
      barsAdvance s = freeEntries ((handleLine k r n (beforeLine s ports)).setBars bars)
      ∧ bars[k] = (handleLine k r n (beforeLine s ports)).bars[k]
      ∧ ∀ j : Bar, j ≠ k → bars[j] = { s.bars[j] with port := [] } := by
  obtain ⟨ports, hk, bars, hfold, hbars⟩ := fold_oneLine h
  exact ⟨ports, hk, bars, congrArg freeEntries hfold, hbars⟩

theorem oneHandled_of_rise {s t : State} {a b : Bool} {k : Bar} {r : Segment} {n : Nat}
    (hexec : exec (.encoderEdge a b) s = .next t) (hnodup : (s.rls.map Segment.tag).Nodup)
    (hrise : t.mou.p = s.mou.p + 1) (h : OneLineDue s k r n (s.mou.p + 1)) : ∃ w, OneHandled s t w k r n := by
  obtain ⟨ports, hk, bars, hbars, hbark, hothers⟩ := barsAdvance_oneLine (s := liftedP a b s) h
  have ht := exec_encoderEdge_rise hexec hrise
  generalize hu : s.setMou { s.mou with encA := a, encB := b } = u at ht
  have hlift : raiseHigh (u.setMou { u.mou with p := u.mou.p + 1 }) = liftedP a b s := by
    rw [← hu]
    rfl
  have hurls : u.rls = s.rls ∧ u.line = s.line ∧ u.mou.p = s.mou.p := by
    rw [← hu]
    exact ⟨rfl, rfl, rfl⟩
  obtain ⟨hrls, hline, hp⟩ := hurls
  obtain ⟨hlst, hcpa, hlrx, halc⟩ := increaseOfP_stores u
  have hrecords := increaseOfP_rls_eq (s := u) (by rw [hrls]; exact hnodup)
  have htbars := increaseOfP_bars u
  rw [hlift] at hlst hcpa hlrx halc hrecords htbars
  generalize hw : beforeLine (liftedP a b s) ports = w at hbars hbark
  have hkeys : (handleLine k r n w).rls.map lineKey = s.rls.map lineKey := by
    rw [lineKey_handleLine, ← hw]
    rfl
  have htb : t.bars = bars := by
    rw [ht, settle_bars, htbars, hbars]
    rfl
  refine ⟨w, ?_, ?_, ?_, ?_, ?_, ?_, ?_, ?_, ?_, ?_, ?_, ?_, ?_, ?_, ?_, ?_, ?_⟩
  · intro j
    rw [← hw, beforeLine_state]
    rfl
  · rw [← hw, beforeLine_bar, if_pos hk]
    rfl
  iterate 8
    · rw [← hw]
      rfl
  · rw [htb, hbark]
  · intro j hj
    rw [htb, hothers j hj]
    rfl
  · have hfree : t.lst = (handleLine k r n w).lst.dropWhile (freesAtHead ((handleLine k r n w).setBars bars)) := by
      rw [ht, settle_lst, hlst, hbars]
      rfl
    rw [hfree]
    refine congrArg (fun q => List.dropWhile q _) (funext fun e => ?_)
    rw [freesAtHead_eq]
    simp only [State.setBars_bars, State.setBars_rls, linePassed_congr hkeys, htb]
  · rw [ht, settle_cpa, hcpa, hbars]
    rfl
  · have hrx : (settle (increaseOfP u)).lrx.line = (increaseOfP u).lrx.line := by simp
    rw [ht, hrx, hlrx, hbars]
    rfl
  · refine ⟨increaseOfP u, ?_, by rw [ht]⟩
    rw [halc, hbars]
    rfl
  · refine ⟨increaseOfP u, ?_, by rw [ht]⟩
    rw [hrecords, hbars, hline, hp]
    rfl

end Sys2Proof.Machine
end

section
/-! SUPPORT and the settling of O50: what follows from the one line that is handled (R113, R114, R132, R136 to R138,
R141). -/

namespace Sys2Proof.Machine

/-! ### The record of the line -/

/-- What of a record its handling changes: its tag, and the printing, the losses and the flags they set. -/
def printKey (x : Segment) : Tag × Vector Bool 6 × PrintState × Bool × Bool × Nat × FillState :=
  (x.tag, x.printedBy, x.print, x.flags.barMissed, x.flags.lostLines, x.lost, x.fill)

theorem unmarked_printKey : Unmarked printKey :=
  ⟨fun _ => rfl, fun _ => rfl⟩

/-- What of a record another's handling and its own retirement leave. -/
def lossKey (x : Segment) : Tag × Vector Bool 6 × Nat × FillState × Bool :=
  (x.tag, x.printedBy, x.lost, x.fill, x.flags.lostLines)

theorem unmarked_lossKey : Unmarked lossKey :=
  ⟨fun _ => rfl, fun _ => rfl⟩

theorem lossKey_throughCalender (g : LineGroup) (p : Nat) (x : Segment) : lossKey
    (throughCalender g p x) = lossKey x := by
  simp only [throughCalender, retiredRecord, Segment.setFlags]
  (repeat' split) <;> rfl

/-- A record short of its retire position is not retired (R117). -/
theorem printKey_throughCalender {g : LineGroup} {p : Nat} {x : Segment} (h : p < retirePosition g x) :
    printKey (throughCalender g p x) = printKey x := by
  have hposition : retirePosition g (entered g p x) = retirePosition g x := by
    unfold entered
    split <;> rfl
  rw [throughCalender_eq, if_neg fun both => absurd both.2 (by omega)]
  unfold entered
  split <;> rfl

theorem handledRecord_key (s : State) (k : Bar) (r : Segment) (n : Nat) : printKey (handledRecord s k r n r) =
    (r.tag, printedByAfter k n r, (reportedRecord s k n r).print,
      (r.flags.barMissed || decide (s.bars[k].state = .faulted)), (r.flags.lostLines || decide (LineLost s k r n)),
      (if LineLost s k r n then min 65535 (r.lost + 1) else r.lost),
      if LineLost s k r n ∧ r.lines ≤ n + 1 then .sealed else r.fill) := by
  unfold handledRecord
  beta_reduce
  by_cases hlost : LineLost s k r n
  · have hfill : (if n + 1 < r.lines then r.fill else .sealed)
        = if LineLost s k r n ∧ r.lines ≤ n + 1 then FillState.sealed else r.fill := by
      by_cases hmore : n + 1 < r.lines
      · rw [if_pos hmore, if_neg fun both => absurd both.2 (by omega)]
      · rw [if_neg hmore, if_pos ⟨hlost, by omega⟩]
    rw [← hfill, decide_eq_true hlost, if_pos hlost, if_pos hlost]
    by_cases hfault : s.bars[k].state = .faulted
    · rw [decide_eq_true hfault, if_pos hfault, Bool.or_true, Bool.or_true]
      rfl
    · rw [decide_eq_false hfault, if_neg hfault, Bool.or_true, Bool.or_false]
      rfl
  · rw [decide_eq_false hlost, if_neg hlost, if_neg hlost,
      if_neg (c := LineLost s k r n ∧ r.lines ≤ n + 1) fun both => hlost both.1]
    by_cases hfault : s.bars[k].state = .faulted
    · rw [decide_eq_true hfault, if_pos hfault, Bool.or_true, Bool.or_false]
      rfl
    · rw [decide_eq_false hfault, if_neg hfault, Bool.or_false, Bool.or_false]
      rfl

theorem handledRecord_place (s : State) (k : Bar) (r : Segment) (n : Nat) (x : Segment) (g : LineGroup) :
    retirePosition g (handledRecord s k r n x) = retirePosition g x := by
  unfold handledRecord
  simp only
  (repeat' split) <;> rfl

section
variable {s t w : State} {k : Bar} {r : Segment} {n : Nat}

/-- The loss is judged on the fill cursor, which nothing before the handling changes. -/
theorem OneHandled.lost_iff (h : OneHandled s t w k r n) : LineLost w k r n ↔ LineLost s k r n := by
  unfold LineLost
  rw [h.cpa]

theorem OneHandled.one_tag (h : OneHandled s t w k r n) (hnodup : (s.rls.map Segment.tag).Nodup)
    (hfind : findSeg r.tag s.rls = some r) : ∀ x ∈ w.rls, x.tag = r.tag → x = r := by
  rw [h.rls]
  exact fun x hx htag => eq_of_tag_eq hnodup (findSeg_some hfind).2 hx htag

theorem OneHandled.stores (h : OneHandled s t w k r n) (hnodup : (s.rls.map Segment.tag).Nodup)
    (hfind : findSeg r.tag s.rls = some r) :
    (handleLine k r n w).lst = (if LineLost s k r n then releaseFilling r.tag n s.lst else s.lst)
      ∧ t.cpa = (if LineLost s k r n then cursorPast r n s.rls else s.cpa)
      ∧ (handleLine k r n w).rls = modSeg r.tag (handledRecord w k r n) s.rls := by
  have hlines : ∀ x ∈ w.rls, x.tag = r.tag → x.lines = r.lines := fun x hx htag => by
    rw [h.one_tag hnodup hfind x hx htag]
  obtain ⟨hlst, hcpa, -, -⟩ := handleLine_stores k r n w
  obtain ⟨hlst', hcpa', -⟩ := firedIn_stores (k := k) (n := n) hlines
  have hrls := handleLine_rls (k := k) (n := n) hlines
  rw [h.rls] at hrls
  rw [h.cursor, hcpa, hcpa', hlst, hlst', hrls, h.lst, h.rls]
  simp only [h.lost_iff, h.cpa, and_self]

/-- The record of the line after the event (R113, R114, R137, R138, R141). -/
theorem OneHandled.record (h : OneHandled s t w k r n) (hnodup : (s.rls.map Segment.tag).Nodup)
    (hfind : findSeg r.tag s.rls = some r) (hfar : s.mou.p + 1 < retirePosition s.line r) :
    ∃ r' ∈ t.rls, printKey r' = printKey (handledRecord w k r n r) := by
  obtain ⟨y, hy, hty⟩ := h.records
  obtain ⟨-, -, hrls⟩ := h.stores hnodup hfind
  have hmem : throughCalender s.line (s.mou.p + 1) (handledRecord w k r n r) ∈ y.rls := by
    rw [hy, hrls, modSeg, List.map_map]
    exact List.mem_map.mpr ⟨r, (findSeg_some hfind).2, by simp⟩
  obtain ⟨r', hr', hkey⟩ := mem_of_map_eq (map_settle unmarked_printKey y) hmem
  rw [← hty] at hr'
  exact ⟨r', hr', hkey.trans (printKey_throughCalender (by rw [handledRecord_place]; exact hfar))⟩

/-- The other records after the event. -/
theorem OneHandled.other_record (h : OneHandled s t w k r n) (hnodup : (s.rls.map Segment.tag).Nodup)
    (hfind : findSeg r.tag s.rls = some r) {x : Segment} (hx : x ∈ s.rls) (hne : x.tag ≠ r.tag) :
    ∃ x' ∈ t.rls, lossKey x' = lossKey x := by
  obtain ⟨y, hy, hty⟩ := h.records
  obtain ⟨-, -, hrls⟩ := h.stores hnodup hfind
  have hmem : throughCalender s.line (s.mou.p + 1) x ∈ y.rls := by
    rw [hy, hrls, modSeg, List.map_map]
    exact List.mem_map.mpr ⟨x, hx, by simp [hne]⟩
  obtain ⟨x', hx', hkey⟩ := mem_of_map_eq (map_settle unmarked_lossKey y) hmem
  rw [← hty] at hx'
  exact ⟨x', hx', hkey.trans (lossKey_throughCalender _ _ _)⟩

/-- The bar's port after the event (R135, R136, R141). -/
theorem OneHandled.port (h : OneHandled s t w k r n) : t.bars[k] = { s.bars[k] with
    cursor := cursorAfter s.rls r n
    port := if s.bars[k].state = .active then [firedLevels (firedIn k r n w) k r n] else [] } := by
  rw [h.handled, handleLine_bar, h.bar, h.rls]
  rfl

/-- The levels fired, by the line store that the firing finds (R136, R145). -/
theorem OneHandled.levels (h : OneHandled s t w k r n) (hnodup : (s.rls.map Segment.tag).Nodup)
    (hfind : findSeg r.tag s.rls = some r) (hcursor : s.bars[k].cursor = some (r.tag, n)) {l : List Entry}
    (hl : l = if LineLost s k r n then releaseFilling r.tag n s.lst else s.lst) :
    (∀ pre e post, l = pre ++ e :: post →
      (∀ x ∈ pre, x.state = .void ∨ linePassed s.rls (some (r.tag, n)) x.tag x.line = true) →
      e.state ≠ .void → linePassed s.rls (some (r.tag, n)) e.tag e.line = false →
      firedLevels (firedIn k r n w) k r n = if e.state = .ready ∧ e.tag = r.tag ∧ e.line = n then
          e.written.map (fun d => d[s.line.channels[k]]) else List.replicate r.width 0)
    ∧ ((∀ x ∈ l, x.state = .void ∨ linePassed s.rls (some (r.tag, n)) x.tag x.line = true) →
      firedLevels (firedIn k r n w) k r n = List.replicate r.width 0) := by
  obtain ⟨hstore, -, -⟩ := h.stores hnodup hfind
  rw [(handleLine_stores k r n w).1, ← hl] at hstore
  obtain ⟨hbars, hline⟩ := firedIn_frame k r n w
  have hat : (firedIn k r n w).bars[k].cursor = some (r.tag, n) := by
    rw [hbars, h.bar]
    exact hcursor
  have hpassed : ∀ u m, linePassed (firedIn k r n w).rls (firedIn k r n w).bars[k].cursor u m
      = linePassed s.rls (some (r.tag, n)) u m := by
    intro u m
    rw [hat, linePassed_congr (lineKey_firedIn k r n w), h.rls]
  refine ⟨fun pre e post hsplit hpre hvoid hnot => ?_, fun hall => ?_⟩
  · refine firedLevels_of_entry (hline.trans h.line) (hstore.trans hsplit) (fun x hx => ?_) hvoid
      (by rw [hpassed]; exact hnot)
    rw [hpassed]
    exact hpre x hx
  · refine firedLevels_of_none fun x hx => ?_
    rw [hpassed]
    exact hall x (hstore ▸ hx)

/-- The receiver and the alerts where no line is lost. -/
theorem OneHandled.link_of_not_lost (h : OneHandled s t w k r n) (hquiet : Quiet s) (hnot : ¬LineLost s k r n) :
    t.lrx.line = s.lrx.line ∧ t.alc = s.alc := by
  obtain ⟨-, -, hlrx, halc⟩ := handleLine_stores k r n w
  rw [firedIn_of_not_lost fun hlost => hnot (h.lost_iff.mp hlost)] at hlrx halc
  obtain ⟨x, hx, hxt⟩ := h.alerts
  refine ⟨by rw [h.rx, hlrx, h.lrx], ?_⟩
  rw [hxt, settle_alc_congr (s := s) (hx.trans (halc.trans h.alc)), settle_quiet s hquiet]

/-- The receiver and the alerts where the line is lost (R13, R138). -/
theorem OneHandled.link_of_lost (h : OneHandled s t w k r n) (hlost : LineLost s k r n) {ctx : Context}
    (hctx : ctx = { seg := some r.tag, unit := some (.bar 0), link := none, p := s.mou.p + 1, measured := n }) :
    ((∀ line offset count slot, s.lrx.line ≠ .accepted r.tag line offset count slot) →
      t.lrx.line = s.lrx.line ∧ t.alc = (settle (raiseOcc .lineLost ctx s)).alc)
    ∧ ∀ line offset count slot, s.lrx.line = .accepted r.tag line offset count slot →
      t.lrx.line = overtaken slot (slotsInUse s) .late
      ∧ (t.lrx.line ≠ .dropped → t.alc = (settle (raiseOcc .lineLost ctx s)).alc)
      ∧ (t.lrx.line = .dropped → t.alc = (settle (raiseOcc .lineLost ctx (raiseOcc .linkError
          { seg := none, unit := none,
            link := some { subcode := .answerOverrun, kind := rxKind s.lrx, tag := rxTag s.lrx },
            p := s.mou.p + 1, measured := 0 } s))).alc) := by
  have hlost' := h.lost_iff.mpr hlost
  obtain ⟨-, -, hlrx, halc⟩ := handleLine_stores k r n w
  rw [firedIn_of_lost hlost'] at hlrx halc
  obtain ⟨-, c, hc, htag, -⟩ := hlost'
  obtain ⟨hplain, hovertaken⟩ := declareLost_link (s := w) (r := r) (n := n) ⟨c, hc, htag⟩
  have hlostCtx : lostCtx w r n = ctx := by
    rw [hctx, lostCtx, h.p]
  rw [hlostCtx] at hplain hovertaken
  obtain ⟨x, hx, hxt⟩ := h.alerts
  rw [halc] at hx
  refine ⟨fun hnot => ?_, fun line offset count slot hacc => ?_⟩
  · obtain ⟨hline, hraised⟩ := hplain (by rw [h.lrx]; exact hnot)
    refine ⟨by rw [h.rx, hlrx, hline, h.lrx], ?_⟩
    rw [hxt]
    exact settle_alc_congr ((hx.trans hraised).trans (raiseOcc_alc_congr _ _ h.alc))
  · obtain ⟨hline, hraised⟩ := hovertaken line offset count slot (by rw [h.lrx]; exact hacc)
    have hrx : t.lrx.line = overtaken slot (slotsInUse s) .late := by rw [h.rx, hlrx, hline, h.slots]
    rw [h.slots, ← hrx] at hraised
    refine ⟨hrx, fun hne => ?_, fun hdropped => ?_⟩
    · rw [withOvertaken_of_ne hne] at hraised
      rw [hxt]
      exact settle_alc_congr ((hx.trans hraised).trans (raiseOcc_alc_congr _ _ h.alc))
    · rw [hdropped, withOvertaken_dropped] at hraised
      rw [hxt]
      refine settle_alc_congr ((hx.trans hraised).trans (raiseOcc_alc_congr _ _ ?_))
      rw [h.lrx, raiseLinkError]
      refine (raiseOcc_alc_congr (s := s) _ _ h.alc).trans ?_
      simp only [linkCtx, plainCtx, State.setLrx_mou, h.p]

end

/-! ### The obligation -/

/-- Settles O50: every bar comes to an end with no line due; and the one line handled, if only one is due. -/
theorem barsHandleAllDue : Obligations.BarsHandleAllDue := by
  refine ⟨fun s t a b hquiet hordered hlines hexec hrise k => ?_, fun s t a b k r n l began printedBy hquiet hordered
    hone
    hfar hexec hrise hl hbegan hprinted => ?_⟩
  · obtain ⟨-, hnodup, -⟩ := hordered
    obtain ⟨hbars, hkeys, hline⟩ := bars_of_rise hexec hnodup hrise
    have hhandled : Handled (liftedP a b s).rls := ⟨hnodup, hlines⟩
    have hinputs : barInputs t.bars = barInputs s.bars := by
      rw [hbars, barsAdvance_barInputs]
      rfl
    have hk := congrFun hinputs k
    simp only [barInputs, Prod.mk.injEq] at hk
    refine ⟨fun tag m x hon hcursor hfind => ?_, fun tag m x hcursor hfind hdue => ?_, hk⟩
    · have hdone := noLineDue_barsAdvance (k := k) hhandled fun hoff => hon (hk.1.trans hoff)
      obtain ⟨hkeys', hp', hline'⟩ := barsSame_barsAdvance (liftedP a b s)
      exact noLineDue_congr (t := t) ⟨hkeys.trans hkeys'.symm, hrise.trans hp'.symm, hline.trans hline'.symm⟩
        (by rw [hbars]) hdone tag m x hcursor hfind
    · have hnone : NoLineDue (liftedP a b s) k := by
        intro tag' m' x' hcursor' hfind'
        obtain ⟨rfl, rfl⟩ : tag' = tag ∧ m' = m := Prod.mk.inj (Option.some.inj (hcursor'.symm.trans hcursor))
        obtain rfl : x' = x := Option.some.inj (hfind'.symm.trans hfind)
        rw [hrise] at hdue
        exact hdue
      rw [hbars, barsAdvance_of_noLineDue hnone]
      exact ⟨rfl, rfl⟩
  · obtain ⟨-, hnodup, -⟩ := hordered
    obtain ⟨w, h⟩ := oneHandled_of_rise hexec hnodup hrise hone
    obtain ⟨hon, hcursor, hfind, hline, -⟩ := hone
    obtain ⟨hlst, hcpa, -⟩ := h.stores hnodup hfind
    obtain ⟨hentry, hblank⟩ := h.levels hnodup hfind hcursor hl
    have hport := h.port
    have hfired : s.bars[k].state = .active → t.bars[k].port = [firedLevels (firedIn k r n w) k r n] := by
      intro hactive
      rw [hport]
      exact if_pos hactive
    refine ⟨h.others, ?_, fun hfaulted => ?_, fun hactive => ⟨fun pre e post hsplit hpre hvoid hnot => ?_, fun hall =>
      ?_⟩,
      ?_, ?_, fun x hx hne => ?_, fun hnot => ?_, fun hlost => ⟨?_, fun ctx hctx => h.link_of_lost hlost hctx⟩⟩
    · rw [hport]
    · rw [hport]
      exact if_neg (by simp [-Fin.getElem_fin, hfaulted])
    · rw [hfired hactive, hentry pre e post hsplit hpre hvoid hnot]
    · rw [hfired hactive, hblank hall]
    · rw [h.freed, hlst, hl]
    · obtain ⟨r', hr', hkey⟩ := h.record hnodup hfind hfar
      rw [handledRecord_key] at hkey
      simp only [printKey, Prod.mk.injEq, h.lost_iff, h.state] at hkey
      obtain ⟨htag, hby, hprint, hmissed, hlostLines, hlostCount, hfill⟩ := hkey
      refine ⟨r', hr', htag, hby.trans hprinted.symm, ?_, hmissed, hlostLines, hlostCount, hfill⟩
      rw [hprint, hprinted, hbegan, reportedRecord_congr h.state]
      rfl
    · obtain ⟨x', hx', hkey⟩ := h.other_record hnodup hfind hx hne
      simp only [lossKey, Prod.mk.injEq] at hkey
      obtain ⟨htag, hby, hlostCount, hfill, hlostLines⟩ := hkey
      exact ⟨x', hx', htag, hby, hlostCount, hfill, hlostLines⟩
    · rw [if_neg hnot] at hcpa
      exact ⟨hcpa, h.link_of_not_lost hquiet hnot⟩
    · rw [if_pos hlost] at hcpa
      exact hcpa

end Sys2Proof.Machine
end
